-- ==== Sys2Proof/Word.lean ====
section
/-! DEFINITION. The word types of the SL96: the byte of the wire and of the window, the 16-bit preamp word
and talk mask, the 32-bit window word (R160), and the 24-bit audio sample (11.1). -/

namespace Sys2Proof

/-- A byte of a frame, of a message or of the window. -/
abbrev Byte := BitVec 8

/-- A 16-bit quantity: a preamp word (11.2), a talk mask (R57), a frame check (R93). -/
abbrev Half := BitVec 16

/-- A 32-bit little-endian window word (R160). -/
abbrev Word := BitVec 32

/-- A 24-bit two's complement audio sample as it stands on a converter lane or in a frame slot (11.1). -/
abbrev Sample := BitVec 24

end Sys2Proof
end

