-- ==== Sys2Proof/Syntax.lean ====
section
/-! DEFINITION. The commands of the SL96: one constructor per row of spec/opcode_table.json, in the table's
order, with the operands its rules give the step. A command is a host access, a clock tick, an arrival on a pin
or a fibre, or one of the part's own indivisible steps (95_what_each_step_holds.md). -/

namespace Sys2Proof

/-- The width of a host bus access (R160, R161). -/
inductive Width where
  | byte | half | word
  deriving DecidableEq, Repr

/-- A fibre port (section 6.2). -/
inductive PortId where
  | a | b
  deriving DecidableEq, Repr

/-- A desk talk source, A (number 0) or B (number 1) (R57). -/
inductive TalkSource where
  | a | b
  deriving DecidableEq, Repr

/-- The commands. Each constructor's docstring names its row of the table and the rule that governs it. -/
inductive Instr where
  /-- POWER_ON (R182): the level of the role strap and of the two loss-of-signal inputs at power-on. -/
  | powerOn (strapHigh losA losB : Bool)
  /-- SOFT_RESET (R177): a host write of CTRL with RESET 1. -/
  | softReset (width : Width) (value : Word)
  /-- RUN_START (R164): a host write of CTRL with RUN 1. -/
  | runStart (width : Width) (value : Word)
  /-- RUN_STOP (R164): a host write of CTRL with RUN 0. -/
  | runStop (width : Width) (value : Word)
  /-- SCAN_PERIOD (R164): a host write of CTRL that carries a scan period. -/
  | scanPeriod (width : Width) (value : Word)
  /-- METER_CADENCE (R86): a host write of CTRL that carries a meter cadence. -/
  | meterCadence (width : Width) (value : Word)
  /-- METER_HOLD_SET (R85): a host write of CTRL with METER_HOLD 1. -/
  | meterHoldSet (width : Width) (value : Word)
  /-- METER_HOLD_RELEASE (R85): a host write of CTRL with METER_HOLD 0. -/
  | meterHoldRelease (width : Width) (value : Word)
  /-- POLICY (R146): a host write of CTRL that carries a policy. -/
  | policy (width : Width) (value : Word)
  /-- NOTICE_READ (R178): a host read of NOTICE. -/
  | noticeRead
  /-- NOTICE_WRITE (R178): a host write of NOTICE. -/
  | noticeWrite (width : Width) (value : Word)
  /-- NOTICE_EN_WRITE (R179): a host write of NOTICE_EN. -/
  | noticeEnWrite (width : Width) (value : Word)
  /-- LINKSTAT_READ (R180): a host read of LINKSTAT. -/
  | linkstatRead
  /-- LINKSTAT_WRITE (R161): a host write addressed to LINKSTAT. -/
  | linkstatWrite (width : Width) (value : Word)
  /-- WINDOW_WRITE (R161): a host write into the 16 KiB window at a byte offset. `afterRead` says that the write falls
  together with the scan's read of the same word and the read is taken first (R171, log 17); without it, the write is
  first. -/
  | windowWrite (offset : BitVec 14) (width : Width) (value : Word) (afterRead : Bool := false)
  /-- FRAME (R90): one frame of the local frame clock. `slots` are the samples on the converter input lanes in
  slot order (R91); `cycles` is how many oscillator cycles the sender takes the local frame that ends here to have
  run; the frame clock counts them itself (R130), so nothing reads it (log 7). -/
  | frame (slots : List Sample) (cycles : Nat)
  /-- SUPERFRAME_BOUNDARY (R98): a superframe boundary of the local frame clock; `talkPinLow` is the level of the
  stage talk pin at that moment (R69). -/
  | superframeBoundary (talkPinLow : Bool)
  /-- BOARD_SCAN (R165): the scan in progress passes over the rest of the 32 entries. -/
  | boardScan
  /-- SET_RECORD (R137): the scan in progress takes this entry, a valid SET_RECORD. -/
  | setRecord (entry : Fin 32)
  /-- SET_FIELD (R137): the scan in progress takes this entry, a valid SET_FIELD. -/
  | setField (entry : Fin 32)
  /-- TALK_PRESS (R58): the scan in progress takes this entry, a valid TALK_PRESS. -/
  | talkPress (entry : Fin 32)
  /-- TALK_RELEASE (R59): the scan in progress takes this entry, a valid TALK_RELEASE. -/
  | talkRelease (entry : Fin 32)
  /-- REPLAY_ALL (R168): the scan in progress takes this entry, a REPLAY_ALL. -/
  | replayAll (entry : Fin 32)
  /-- TALK_RENEW_EXPIRY (R60). -/
  | talkRenewExpiry (source : TalkSource)
  /-- TALK_LIMIT_EXPIRY (R61). -/
  | talkLimitExpiry (source : TalkSource)
  /-- DEADLINE_EXPIRY (R170). -/
  | deadlineExpiry (entry : Fin 32)
  /-- IN_FLIGHT_TIMEOUT (R143): the first timed-out entry in table order. -/
  | inFlightTimeout
  /-- PULL_TIMEOUT (R148): the pull of this record. -/
  | pullTimeout (record : Fin 226)
  /-- GAIN_STEPPER_EXPIRY (R9). -/
  | gainStepperExpiry
  /-- GATE_CLOSED (R6). -/
  | gateClosed (channel : Fin 96)
  /-- PHANTOM_TIMER_EXPIRY (R11). -/
  | phantomTimerExpiry (channel : Fin 96)
  /-- TRANSFER_START (R18). -/
  | transferStart
  /-- TRANSFER_COMPLETE (R20): the word the chip returned. -/
  | transferComplete (returned : Half)
  /-- LOS_ASSERT (R95). -/
  | losAssert (port : PortId)
  /-- LOS_DEASSERT (R95). -/
  | losDeassert (port : PortId)
  /-- FRAME_RECEIVED (R93): a frame completes on a port; `phase` is how many oscillator cycles the local frame in
  progress has run at that moment (R131). -/
  | frameReceived (port : PortId) (bytes : List Byte) (phase : Nat)
  /-- PORT_LOCK (R96): the arrival of the frame that brings the hunt run to 3. -/
  | portLock (port : PortId) (bytes : List Byte) (phase : Nat)
  /-- PORT_UNLOCK (R97): the judging of the 16th failed frame time in a row. -/
  | portUnlock (port : PortId)
  /-- BRIDGING_EXPIRY (R127). -/
  | bridgingExpiry
  /-- ISLAND_ENGAGE (R51): the superframe boundary that engages the island, with the talk pin at its last level. -/
  | islandEngage
  /-- TRIM_PERIOD_END (R132). -/
  | trimPeriodEnd
  /-- DEBOUNCE_CHANGE (R69): the superframe boundary that takes the 20th sample at the new level. -/
  | debounceChange
  /-- HELLO_BEGIN (R123, R106, R109). -/
  | helloBegin
  /-- PUSH_BEGIN (R140). -/
  | pushBegin
  /-- PULL_BEGIN (R148). -/
  | pullBegin
  /-- REPLY_BEGIN (R107). -/
  | replyBegin
  /-- NOTE_BEGIN (R108). -/
  | noteBegin
  /-- STATUS_BEGIN (R106). -/
  | statusBegin
  /-- METER_TAKE (R77). -/
  | meterTake
  /-- HELLO_RECEIVED (R124): the HELLO the receiver handed over. -/
  | helloReceived
  /-- PUSH_RECEIVED (R157). -/
  | pushReceived
  /-- PULL_RECEIVED (R158). -/
  | pullReceived
  /-- ACK_RECEIVED (R141). -/
  | ackReceived
  /-- REPORT_RECEIVED (R149). -/
  | reportReceived
  /-- NOTE_RECEIVED (R174). -/
  | noteReceived
  /-- STATUS_RECEIVED (R176). -/
  | statusReceived
  /-- METER_RECEIVED (R82). -/
  | meterReceived
  deriving DecidableEq, Repr

end Sys2Proof
end

