-- ==== Sys2Proof/Decode.lean ====
section
/-! DEFINITION. The SL96 is a block: it decodes no instruction words, and no row of spec/opcode_table.json gives
bits (every row's fields are empty and none has a match). So no word spells a command. -/

namespace Sys2Proof

/-- The command that a word of `nbits` bits spells by the table's bits: none, for no row gives bits. -/
def decodeTableWord (_nbits _w : Nat) : Option Instr := none

end Sys2Proof
end

