-- ==== Sys2Proof/Config.lean ====
section
/-! DEFINITION. What the spec leaves open as a value. The constants below have no body: nothing can be proved of a value
of theirs, so a claim about the machine holds whatever they are (notes/assumptions/6.md and 7.md). -/

namespace Sys2Proof

/-- DESIGN CHOICE (free value, log 6): the far-end header a port reads from a good frame whose length is not
the far end's layout (two parts of the same role joined by mistake, R110 and R126). The spec states the layouts
of the two directions only (11.3), so it states no header value here. -/
opaque Config.foreignHeader : List Byte → BitVec 16

/-- DESIGN CHOICE (free value, log 6): the sample of far-end slot `n` that a port reads from a good frame whose
length is not the far end's layout (R110, R126, 11.3). -/
opaque Config.foreignSlot : List Byte → Nat → Sample

/-- DESIGN CHOICE (free value, log 7): the desk frame period, in stage oscillator cycles, that the Clock Trim Unit holds
after it has measured a spacing of two desk frames (R130): by the number of spacings measured before, the period held
before, and the spacing. The spec says what is measured and from what, and not how spacings become a period. -/
opaque Config.measuredPeriod : Nat → Rat → Int → Rat

end Sys2Proof
end

