-- ==== Sys2Proof/Machine/State.lean ====
section
/-! DEFINITION. Everything the spec gives the SL96 to hold, as plain data, with its contents after a reset
(R23, R55, R57, R81, R95, R110, R154, R155, R182 and the tables that open the chapters). A field is marked
"model's own" where the spec names no such register; INVENTORY.md lists them all. -/

namespace Sys2Proof.Machine

/-! ## Names the spec uses for its states (11.1) -/

/-- The role of the part, sampled from the strap at power-on. -/
inductive Role where
  | desk | stage
  deriving DecidableEq, Repr

/-- The state of a fibre port (section 6.2). -/
inductive PortState where
  | dark | hunting | locked
  deriving DecidableEq, Repr

/-- The link state of an end (R122). -/
inductive LinkState where
  | down | connecting | linked | bridging | lost
  deriving DecidableEq, Repr

/-- The stage clock state (R129). -/
inductive ClockState where
  | free | locked | holdover
  deriving DecidableEq, Repr

/-- The states of a Phantom Sequencer (R11). -/
inductive PhantomState where
  | off | mutingOn | charging | on | mutingOff | discharging | fault
  deriving DecidableEq, Repr

/-- The states of a desk talk source (R57). -/
inductive TalkState where
  | off | momentary | latched
  deriving DecidableEq, Repr

/-- Whether the desk has taken a rejoin decision since its reset (R146). -/
inductive Binding where
  | unbound | bound
  deriving DecidableEq, Repr

/-- The rejoin decisions (R146), and none before the first (R176). -/
inductive Decision where
  | none | fullReplay | adoption | resume
  deriving DecidableEq, Repr

/-- The rejoin policy field of CTRL (R177). -/
inductive Policy where
  | adopt | impose
  deriving DecidableEq, Repr

/-- The message types of the control channel (R101). -/
inductive MsgType where
  | hello | push | pull | ack | report | note | status | meter
  deriving DecidableEq, Repr

/-- What a realignment did to the local frame in progress (R131): nothing; its samples were presented for some
cycles and then again in full; it was cut short at some cycles. -/
inductive FrameCut where
  | whole
  | repeated (cycles : Nat)
  | skipped (cycles : Nat)
  deriving DecidableEq, Repr

/-! ## The pieces -/

/-- A ramped gain (section 2.3), in units of 2^−20. -/
structure Ramp where
  current : Int
  target : Int
  step : Int
  remaining : Nat
  deriving DecidableEq, Repr

/-- What the preamp port last sent for a channel (R18). -/
structure Sent where
  gain : Nat
  pad : Bool
  phantom : Bool
  valid : Bool
  deriving DecidableEq, Repr

/-- The per-channel state of the input blocks (the table that opens chapter 1). The phantom timer holds the
superframe count at which it expires. -/
structure Channel where
  clip : Bool
  peak : Nat
  gate : Ramp
  polarity : Bool
  appliedGain : Nat
  appliedPad : Bool
  appliedPhantom : Bool
  phantom : PhantomState
  phantomTimer : Option Word
  sent : Sent
  mismatch : Nat
  deriving DecidableEq, Repr

/-- A transfer in progress on the preamp port: the channel, the outgoing word and the prior sent record (R18). -/
structure Transfer where
  channel : Nat
  word : Half
  prior : Sent
  deriving DecidableEq, Repr

/-- The Preamp Control Port: the update queue (R17), the transfer in progress, one absent flag per chip (R20). -/
structure Preamp where
  queue : List Nat
  transfer : Option Transfer
  absent : List Bool
  deriving DecidableEq, Repr

/-- One monitor mix (the table that opens chapter 3): 112 sends, master, desk-talk and stage-talk gains. -/
structure Mix where
  sends : List Ramp
  master : Ramp
  gd : Ramp
  gt : Ramp
  clip : Bool
  peak : Nat
  deriving DecidableEq, Repr

/-- The island timer's count, island engaged, and the last island values (R50, R51). -/
structure Island where
  count : Nat
  engaged : Bool
  lastElapsed : Nat
  lastEngaged : Bool
  deriving DecidableEq, Repr

/-- A desk talk source's record (R57). The timers hold the superframe count at which they expire. -/
structure TalkRecord where
  state : TalkState
  mask : Half
  limit : Byte
  limitTimer : Option Word
  renewTimer : Option Word
  deriving DecidableEq, Repr

/-- The Talk Arbiter: both source records and the carried source (R57, R63). -/
structure Arbiter where
  a : TalkRecord
  b : TalkRecord
  carried : Option TalkSource
  deriving DecidableEq, Repr

/-- The Stage Talk Input (R69): debounced state (true is pressed) and debounce counter. `pinLow` is the level of
the talk pin at the last boundary (model's own: the pin itself). -/
structure Button where
  pinLow : Bool
  pressed : Bool
  counter : Nat
  deriving DecidableEq, Repr

/-- The metering state: the stage collector's cursor and mark (R76), the meter table of the window, the desk's
pending store and completed-sweep counter (section 5.2). A pending entry is `none` where its present flag is 0. -/
structure Meters where
  cursor : Nat
  mark : Nat
  table : List Word
  store : List (Option Word)
  sweeps : Nat
  deriving DecidableEq, Repr

/-- A good frame as an elastic buffer holds it (R99): tag value, far-end header, far-end slots, control bytes. -/
structure RxFrame where
  tag : Nat
  header : Half
  slots : List Int
  control : List Byte
  deriving DecidableEq, Repr

/-- A fibre port (section 6.2). `los` is the module's loss-of-signal level; `goodNow` says a good frame has
completed in the frame time in progress (R96); `lockedWhole` says the port has been LOCKED since the previous
superframe boundary (R113). The last three are what those rules read, without a name of their own there. -/
structure Port where
  los : Bool
  state : PortState
  marginal : Bool
  huntRun : Nat
  failRun : Nat
  badNow : Nat
  badLast : Nat
  badTotal : Word
  lastGood : Option Nat
  newest : Option Nat
  buffer : List (Option RxFrame)
  goodNow : Bool
  lockedWhole : Bool
  deriving DecidableEq, Repr

/-- The Path Selector (R111, R113). -/
structure Selector where
  active : Option PortId
  cleanCount : Nat
  deriving DecidableEq, Repr

/-- The Frame Deliverer and Concealer (the table that opens chapter 7): cursor, hold count, last output of each
far-end slot, conceal run, rejoin gate and pending flag, pending switchover; and the desk-talk mask in use (R68). -/
structure Deliverer where
  cursor : Nat
  hold : Nat
  lastOut : List Int
  run : Nat
  gate : Ramp
  rejoinPending : Bool
  switchover : Option (PortId × PortId)
  maskInUse : Half
  deriving DecidableEq, Repr

/-- The Link Supervisor (R122). `helloAge` counts the superframe boundaries since this end last began a HELLO, up
to 3 (what R125 reads; model's own name). -/
structure Link where
  state : LinkState
  heard : Bool
  roleFault : Bool
  bridging : Nat
  returnTo : Option LinkState
  farFresh : Bool
  helloAge : Nat
  deriving DecidableEq, Repr

/-- The arrival of a good desk frame (R130): port, tag value, and the moment at which it completed, in oscillator cycles
from the start of the local frame in progress. -/
structure Arrival where
  port : PortId
  tag : Nat
  moment : Int
  deriving DecidableEq, Repr

/-- The Clock Trim Unit (R129 to R133). `frameLen` is the length in cycles of the local frame in progress, and `ideal`
its ideal end, in cycles from its start (R130); `cut` is what a realignment did to it (R131). `period` is the measured
desk frame period in cycles, and `lastArrival` the last good arrival on the active port in LOCKED (R130); `spacings`
counts the spacings measured (model's own: what the free value of a measurement is told by, log 7). -/
structure Clock where
  state : ClockState
  trim : Int
  measFrames : Nat
  measCycles : Nat
  runPos : Nat
  realignPending : Bool
  frameLen : Nat
  ideal : Rat
  cut : FrameCut
  period : Rat
  lastArrival : Option Arrival
  spacings : Nat
  deriving DecidableEq, Repr

/-- A reply waiting at the stage (R107): an ACK with the version applied, or a REPORT. -/
inductive Reply where
  | ack (record : Nat) (version : Word)
  | report (record : Nat)
  deriving DecidableEq, Repr

/-- The Control Channel Scheduler (section 6.4): the bytes of the message in progress still to send, the due
flags, the METER count, the reply queue and the forward cursor. -/
structure Scheduler where
  sending : List Byte
  helloDue : Bool
  statusDue : Bool
  meterCount : Nat
  replies : List Reply
  noteCursor : Word
  deriving DecidableEq, Repr

/-- A message with a good check, as the receiver hands it on (R104). -/
structure Msg where
  type : MsgType
  payload : List Byte
  deriving DecidableEq, Repr

/-- The Control Channel Receiver (R102): the bytes held since the header candidate (none is HUNT, one is LENGTH,
more is COLLECT), and the messages handed on whose steps have not been taken yet (model's own: the table makes
each message's handling a step of its own). -/
structure Receiver where
  held : List Byte
  inbox : List Msg
  deriving DecidableEq, Repr

/-- A desk shadow entry (R135). Its replication state follows from the lists below. -/
structure Shadow where
  contents : List Byte
  version : Word
  confirmed : Word
  stamp : Word
  deriving DecidableEq, Repr

/-- An in-flight entry (R140). -/
structure InFlight where
  record : Nat
  version : Word
  stamp : Word
  deriving DecidableEq, Repr

/-- A member of the adoption set: unsent (`none`) or outstanding with the stamp of its PULL (R147, R148). -/
structure Adoptee where
  record : Nat
  pulled : Option Word
  deriving DecidableEq, Repr

/-- The desk side of the Replication Engine (chapter 8). -/
structure DeskRepl where
  shadow : List Shadow
  counter : Word
  dirty : List Nat
  inFlight : List InFlight
  adoption : List Adoptee
  adopted : Nat
  binding : Binding
  decision : Decision
  deriving DecidableEq, Repr

/-- A live record: contents, stored version (R155), and the superframe count at its last apply (R159). -/
structure Live where
  contents : List Byte
  version : Word
  stamp : Word
  deriving DecidableEq, Repr

/-- The stage side of the Replication Engine (R155). -/
structure StageRepl where
  live : List Live
  fresh : Bool
  deriving DecidableEq, Repr

/-- The scanner's record of an ACCEPTED entry (R167): `expiry` is the superframe count of its deadline (R170). -/
structure Accepted where
  record : Nat
  kind : Byte
  tag : Half
  clamped : Bool
  expiry : Word
  deriving DecidableEq, Repr

/-- The Board Scanner (R164): timer count, the next entry of a scan in progress, scan count, accepted records. `reads`
holds, by word number, the words of that entry which the scan has read and a host write has replaced since (R171). -/
structure Scanner where
  timer : Nat
  pos : Option Nat
  reads : List (Nat × Word)
  count : Word
  accepted : List (Option Accepted)
  deriving DecidableEq, Repr

/-- A record of the event ring (R173). -/
structure Event where
  sequence : Word
  stamp : Word
  type : Byte
  origin : Byte
  subject : Half
  detail : Word
  deriving DecidableEq, Repr

/-- The Event Writer: the ring of 64 records and the written count (R173). -/
structure Ring where
  records : List Event
  written : Word
  deriving DecidableEq, Repr

/-- The fields of the status block that no other block keeps (R176): switch count, concealed-frame count, far
header (R94), last stage STATUS and STATUS count. -/
structure Status where
  switches : Word
  concealed : Word
  farIsland : Bool
  farLink : BitVec 3
  stageStatus : List Byte
  statusCount : Word
  deriving DecidableEq, Repr

/-- The writable fields of CTRL (R177): the two code fields hold their encodings (11.10). -/
structure Ctrl where
  run : Bool
  period : BitVec 2
  cadence : BitVec 2
  hold : Bool
  policy : Policy
  deriving DecidableEq, Repr

/-- The registers (section 9.6): CTRL, NOTICE, its last-read snapshot, NOTICE_EN, the LINKSTAT change bits. The
other LINKSTAT fields are their owners'. `hostData` is the word the last register read returned (model's own: the
host's side of the bus). -/
structure Regs where
  ctrl : Ctrl
  notice : BitVec 7
  snapshot : BitVec 7
  enable : BitVec 7
  change : BitVec 5
  hostData : Word
  deriving DecidableEq, Repr

/-- What the end is driving: the samples on its converter output lanes in slot order (R48, R49, R91) and the frame
it is transmitting on both fibres (R90). -/
structure Output where
  slots : List Int
  frame : List Byte
  deriving DecidableEq, Repr

/-- The host-writable RAM of the window, the request board (R160): address and byte, addresses strictly rising, no
byte 0 listed. An unlisted address reads 0, which is what a reset leaves (R182). -/
abbrev Memory := List Host.Cell

/-- The whole state of one SL96. -/
structure State where
  role : Role
  superframe : Word
  frameIndex : Nat
  channels : List Channel
  stepperDue : Bool
  preamp : Preamp
  mixes : List Mix
  island : Island
  arbiter : Arbiter
  button : Button
  talkSeen : Bool
  meters : Meters
  portA : Port
  portB : Port
  selector : Selector
  deliverer : Deliverer
  link : Link
  clock : Clock
  sched : Scheduler
  receiver : Receiver
  desk : DeskRepl
  stage : StageRepl
  board : Memory
  scanner : Scanner
  ring : Ring
  status : Status
  regs : Regs
  output : Output
  pending : List Instr
  deriving DecidableEq, Repr

/-! ## How a step can stop -/

/-- The faults. There are none: the spec gives every command of the table an effect in every state, so no step
of this machine ends in a fault. -/
inductive Fault where
  deriving DecidableEq, Repr

/-- The refusals of the model. -/
inductive Refusal where
  /-- Raised by `exec` alone, for a command that has no meaning yet. Safe: nothing can be proved of it. -/
  | notModelled (mnemonic : String)
  deriving DecidableEq, Repr

/-! ## Reset contents -/

/-- A ramped gain at rest at a value (R28). -/
def Ramp.atRest (v : Int) : Ramp := { current := v, target := v, step := 0, remaining := 0 }

/-- A channel after a reset (R23). -/
def Channel.initial : Channel :=
  { clip := false, peak := 0, gate := .atRest 1048576, polarity := false, appliedGain := 0, appliedPad := false,
    appliedPhantom := false, phantom := .off, phantomTimer := none,
    sent := { gain := 0, pad := false, phantom := false, valid := false }, mismatch := 0 }

/-- A mix after a reset (R55). -/
def Mix.initial : Mix :=
  { sends := List.replicate 112 (.atRest 0), master := .atRest 0, gd := .atRest 0, gt := .atRest 0,
    clip := false, peak := 0 }

/-- A talk source after a reset (R57). -/
def TalkRecord.initial : TalkRecord :=
  { state := .off, mask := 0, limit := 0, limitTimer := none, renewTimer := none }

/-- A port after a reset (R95): DARK if its LOS is asserted at that moment, HUNTING if not. -/
def Port.initial (los : Bool) : Port :=
  { los := los, state := if los then .dark else .hunting, marginal := false, huntRun := 0, failRun := 0,
    badNow := 0, badLast := 0, badTotal := 0, lastGood := none, newest := none,
    buffer := List.replicate 8 none, goodNow := false, lockedWhole := false }

/-- The number of far-end slots of an end (chapter 7): 96 stage inputs at the desk; 16 returns and the talk slot
at the stage. -/
def farSlots : Role → Nat
  | .desk => 96
  | .stage => 17

/-- The number of converter output slots of an end (R48, R91). -/
def outputSlots : Role → Nat
  | .desk => 96
  | .stage => 32

/-- The default contents of a record (11.6). -/
def defaultContents (record : Nat) : List Byte :=
  if record < 96 then List.replicate 16 0
  else if record < 112 then [0, 24, 231, 231] ++ List.replicate 12 0
  else if record = 224 then [255] ++ List.replicate 15 0
  else List.replicate 16 0

/-- The desk side after a reset (R154). -/
def DeskRepl.initial : DeskRepl :=
  { shadow := (List.range 226).map fun r =>
      { contents := defaultContents r, version := 0, confirmed := 0, stamp := 0 },
    counter := 1, dirty := [], inFlight := [], adoption := [], adopted := 0, binding := .unbound,
    decision := .none }

/-- The stage side after a reset (R155). -/
def StageRepl.initial : StageRepl :=
  { live := (List.range 226).map fun r => { contents := defaultContents r, version := 0, stamp := 0 },
    fresh := true }

/-- A record of the event ring after a reset (R182). -/
def Event.initial : Event :=
  { sequence := 0, stamp := 0, type := 0, origin := 0, subject := 0, detail := 0 }

/-- The part after a reset, for a role, the levels of the two LOS inputs and of the talk pin at that moment, and
the commands still waiting (R182 and the chapters' own reset rules). -/
def State.initial (role : Role) (losA losB pinLow : Bool) (pending : List Instr) : State :=
  { role := role,
    superframe := 0,
    frameIndex := 0,
    channels := List.replicate 96 .initial,
    stepperDue := false,
    preamp := { queue := List.range 96, transfer := none, absent := List.replicate 12 false },
    mixes := List.replicate 16 .initial,
    island := { count := 0, engaged := false, lastElapsed := 0, lastEngaged := false },
    arbiter := { a := .initial, b := .initial, carried := none },
    button := { pinLow := pinLow, pressed := false, counter := 0 },
    talkSeen := false,
    meters := { cursor := 0, mark := 0, table := List.replicate 112 0, store := List.replicate 112 none,
                sweeps := 0 },
    portA := .initial losA,
    portB := .initial losB,
    selector := { active := none, cleanCount := 0 },
    deliverer := { cursor := 0, hold := 0, lastOut := List.replicate (farSlots role) 0, run := 0,
                   gate := .atRest 0, rejoinPending := true, switchover := none, maskInUse := 0 },
    link := { state := .down, heard := false, roleFault := false, bridging := 0, returnTo := none,
              farFresh := false, helloAge := 3 },
    clock := { state := .free, trim := 0, measFrames := 0, measCycles := 0, runPos := 0,
               realignPending := false, frameLen := 512, ideal := 512, cut := .whole, period := 512,
               lastArrival := none, spacings := 0 },
    sched := { sending := [], helloDue := false, statusDue := false, meterCount := 0, replies := [],
               noteCursor := 0 },
    receiver := { held := [], inbox := [] },
    desk := .initial,
    stage := .initial,
    board := [],
    scanner := { timer := 0, pos := none, reads := [], count := 0, accepted := List.replicate 32 none },
    ring := { records := List.replicate 64 .initial, written := 0 },
    status := { switches := 0, concealed := 0, farIsland := false, farLink := 0,
                stageStatus := List.replicate 8 0, statusCount := 0 },
    regs := { ctrl := { run := false, period := 0, cadence := 0, hold := false, policy := .adopt },
              notice := 0, snapshot := 0, enable := 0, change := 0, hostData := 0 },
    output := { slots := List.replicate (outputSlots role) 0, frame := [] },
    pending := pending }

/-- The machine right after reset. DESIGN CHOICE (log 1): the spec leaves the role to the strap and the port states to
the LOS inputs; the strap is taken as low (DESK) and both LOS inputs as asserted (both ports DARK). -/
def State.reset : State := State.initial .desk true true false []

end Sys2Proof.Machine
end

