-- ==== Sys2Proof/Machine/Memory.lean ====
section
/-! DEFINITION. The host-writable RAM of the window (R160): bytes in a canonical list, words little-endian. -/

namespace Sys2Proof.Machine

/-- What an address that is not listed reads as: a reset leaves every word of the board 0 (R182). -/
abbrev Memory.unlisted : Byte := 0

/-- The canonical form: addresses strictly rising, and no byte listed that an unlisted address reads as. -/
def Memory.wf : Memory → Bool
  | [] => true
  | c :: m => c.2 != Memory.unlisted && m.all (fun d => decide (c.1 < d.1)) && Memory.wf m

/-- The byte at an address. -/
def Memory.readByte : Memory → Nat → Byte
  | [], _ => Memory.unlisted
  | c :: m, a => if a = c.1 then c.2 else Memory.readByte m a

/-- A byte write, which keeps the canonical form. -/
def Memory.writeByte : Memory → Nat → Byte → Memory
  | [], a, b => if b = Memory.unlisted then [] else [(a, b)]
  | c :: m, a, b =>
    if a < c.1 then if b = Memory.unlisted then c :: m else (a, b) :: c :: m
    else if a = c.1 then if b = Memory.unlisted then m else (a, b) :: m
    else c :: Memory.writeByte m a b

/-- Byte `k` of a word, byte 0 the least significant (R160). -/
def wordByte (w : Word) (k : Nat) : Byte := (w >>> (8 * k)).setWidth 8

/-- A word from its four bytes, the first the least significant (R160). -/
def wordOfBytes (b0 b1 b2 b3 : Byte) : Word := b3 ++ b2 ++ b1 ++ b0

/-- The little-endian word at an address (R160). -/
def Memory.readWord (m : Memory) (a : Nat) : Word :=
  wordOfBytes (m.readByte a) (m.readByte (a + 1)) (m.readByte (a + 2)) (m.readByte (a + 3))

/-- A whole word write at an address (R160). -/
def Memory.writeWord (m : Memory) (a : Nat) (w : Word) : Memory :=
  (((m.writeByte a (wordByte w 0)).writeByte (a + 1) (wordByte w 1)).writeByte (a + 2) (wordByte w 2)).writeByte
    (a + 3) (wordByte w 3)

/-- The address of word `k` of board entry `i` (11.5). -/
def entryAddress (i k : Nat) : Nat := 32 * i + 4 * k

end Sys2Proof.Machine
end

