-- ==== Sys2Proof/Machine/Operands.lean ====
section
/-! DEFINITION. Every operand form and layout of chapter 11: codes, preamp words, frames and their check, control
messages, record contents and the clamp, meter words and register words. Pure functions of plain values. -/

namespace Sys2Proof.Machine

/-! ## Codes (11.1) -/

/-- The role code. -/
def roleCode : Role → BitVec 1
  | .desk => 0
  | .stage => 1

/-- The port state code: LOCKED and MARGINAL is 3. -/
def portCode (p : Port) : BitVec 2 :=
  match p.state with
  | .dark => 0
  | .hunting => 1
  | .locked => if p.marginal then 3 else 2

/-- The active port code. -/
def activeCode : Option PortId → BitVec 2
  | none => 0
  | some .a => 1
  | some .b => 2

/-- The number of a port in an event: 0 A, 1 B (R100). -/
def portNumber : PortId → Nat
  | .a => 0
  | .b => 1

/-- The link state code. -/
def linkCode : LinkState → BitVec 3
  | .down => 0
  | .connecting => 1
  | .linked => 2
  | .bridging => 3
  | .lost => 4

/-- The clock state code. -/
def clockCode : ClockState → Byte
  | .free => 0
  | .locked => 1
  | .holdover => 2

/-- The number of a talk source in a request and in an event: 0 A, 1 B. -/
def sourceNumber : TalkSource → Nat
  | .a => 0
  | .b => 1

/-- The carried-desk-source code of LINKSTAT: 0 none, 1 A, 2 B. -/
def carriedCode : Option TalkSource → BitVec 2
  | none => 0
  | some .a => 1
  | some .b => 2

/-- The binding code. -/
def bindingCode : Binding → Byte
  | .unbound => 0
  | .bound => 1

/-- The code of the last rejoin decision. -/
def decisionCode : Decision → Byte
  | .none => 0
  | .fullReplay => 1
  | .adoption => 2
  | .resume => 3

/-! ## Multi-byte fields, most significant byte first (chapter 11) -/

/-- The two bytes of a 16-bit field. -/
def be16 (h : Half) : List Byte := [h.extractLsb' 8 8, h.extractLsb' 0 8]

/-- The four bytes of a 32-bit field. -/
def be32 (w : Word) : List Byte :=
  [w.extractLsb' 24 8, w.extractLsb' 16 8, w.extractLsb' 8 8, w.extractLsb' 0 8]

/-- The byte at an offset of a payload. -/
def byteAt (l : List Byte) (k : Nat) : Byte := l.getD k 0

/-- The 16-bit field at an offset of a payload. -/
def half16At (l : List Byte) (k : Nat) : Half := byteAt l k ++ byteAt l (k + 1)

/-- The 32-bit field at an offset of a payload. -/
def word32At (l : List Byte) (k : Nat) : Word :=
  byteAt l k ++ byteAt l (k + 1) ++ byteAt l (k + 2) ++ byteAt l (k + 3)

/-! ## The check of frames and messages (R93) -/

/-- One data bit into the check register. -/
def crcBit (r : Half) (bit : Bool) : Half := if r.msb = bit then r <<< 1 else (r <<< 1) ^^^ 0x1021#16

/-- One byte into the check register, most significant bit first. -/
def crcByte (r : Half) (b : Byte) : Half :=
  crcBit (crcBit (crcBit (crcBit (crcBit (crcBit (crcBit (crcBit r (b.getLsbD 7)) (b.getLsbD 6)) (b.getLsbD 5))
    (b.getLsbD 4)) (b.getLsbD 3)) (b.getLsbD 2)) (b.getLsbD 1)) (b.getLsbD 0)

/-- The check over a list of bytes: the register starts at 0xFFFF and is not inverted at the end. -/
def crc16 (bytes : List Byte) : Half := bytes.foldl crcByte 0xFFFF#16

/-! ## Preamp words (11.2) -/

/-- How many bits of a 16-bit word are ones. -/
def onesCount (w : Half) : Nat := (List.range 16).countP fun k => w.getLsbD k

/-- The outgoing word of a transfer (R18): chip address, input, gain, pad, phantom and odd parity. -/
def preampWord (channel gain : Nat) (pad phantom : Bool) : Half :=
  let upper : BitVec 15 :=
    BitVec.ofNat 4 (channel / 8) ++ BitVec.ofNat 3 (channel % 8) ++ BitVec.ofNat 6 gain ++ BitVec.ofBool pad ++
      BitVec.ofBool phantom
  upper ++ BitVec.ofBool (decide (onesCount (upper ++ 0#1) % 2 = 0))

/-- The presence marker of a returned word is 1010 (R20). -/
def returnedPresent (w : Half) : Bool := w.extractLsb' 12 4 == 0b1010#4

/-- The echoed gain of a returned word. -/
def returnedGain (w : Half) : Nat := (w.extractLsb' 6 6).toNat

/-- The echoed pad of a returned word. -/
def returnedPad (w : Half) : Bool := w.getLsbD 5

/-- The echoed phantom of a returned word. -/
def returnedPhantom (w : Half) : Bool := w.getLsbD 4

/-- The overcurrent bit of a returned word. -/
def returnedOvercurrent (w : Half) : Bool := w.getLsbD 3

/-! ## Frame tags (R92) -/

/-- The number of tag values, 48 × 256. -/
abbrev tagCount : Nat := 12288

/-- The next tag. -/
def nextTag (t : Nat) : Nat := (t + 1) % tagCount

/-- The tag `d` places before a tag. -/
def tagBefore (t d : Nat) : Nat := (t + (tagCount - d)) % tagCount

/-- How far `t2` is ahead of `t1` (R92). -/
def tagAhead (t2 t1 : Nat) : Nat := (t2 + (tagCount - t1 % tagCount)) % tagCount

/-- The two tag bytes: superframe number mod 256, and the frame index in bits 5..0 (11.3). -/
def tagBytes (superframe : Word) (index : Nat) : List Byte := [superframe.setWidth 8, BitVec.ofNat 6 index |>.setWidth 8]

/-! ## Frames (11.3) -/

/-- The three bytes of an audio sample, most significant first. -/
def sampleBytes (x : Int) : List Byte :=
  let w : Sample := BitVec.ofInt 24 x
  [w.extractLsb' 16 8, w.extractLsb' 8 8, w.extractLsb' 0 8]

/-- The samples of a run of audio slots. -/
def samplesOf : List Byte → List Int
  | b0 :: b1 :: b2 :: rest => (b0 ++ b1 ++ b2 : Sample).toInt :: samplesOf rest
  | _ => []

/-- The stage header byte: stage talk, island engaged, sender link state. -/
def stageHeader (talk island : Bool) (link : LinkState) : Byte :=
  0#3 ++ linkCode link ++ BitVec.ofBool island ++ BitVec.ofBool talk

/-- A frame's bytes with the frame check appended, high byte first (R93). -/
def withCheck (body : List Byte) : List Byte := body ++ be16 (crc16 body)

/-- The stage → desk frame. -/
def stageFrame (superframe : Word) (index : Nat) (header : Byte) (slots : List Int) (control : List Byte) :
    List Byte :=
  withCheck (tagBytes superframe index ++ [header] ++ slots.flatMap sampleBytes ++ control)

/-- The desk → stage frame. -/
def deskFrame (superframe : Word) (index : Nat) (mask : Half) (returns : List Int) (talk : Int)
    (control : List Byte) : List Byte :=
  withCheck (tagBytes superframe index ++ be16 mask ++ returns.flatMap sampleBytes ++ sampleBytes talk ++ control)

/-- The length of the frames an end of this role receives (R90). -/
def farFrameBytes : Role → Nat
  | .desk => 297
  | .stage => 61

/-- The far-end header and slots of a good frame, by the receiving end's role (11.3). A good frame of another
length has no layout in the spec: its header and slots are free values (log 6). -/
def farContents (role : Role) (bytes : List Byte) : Half × List Int :=
  if bytes.length = farFrameBytes role then
    match role with
    | .desk => (0#8 ++ byteAt bytes 2, samplesOf ((bytes.drop 3).take 288))
    | .stage => (half16At bytes 2, samplesOf ((bytes.drop 4).take 51))
  else
    (Config.foreignHeader bytes, (List.range (farSlots role)).map fun n => (Config.foreignSlot bytes n).toInt)

/-- A received frame as the port checks it (R93): `none` where it is bad, the frame it holds where it is good. The
control bytes are the four before the check in either layout. -/
def checkFrame (role : Role) (bytes : List Byte) : Option RxFrame :=
  let body := bytes.take (bytes.length - 2)
  let index := (byteAt bytes 1).toNat % 64
  if bytes.length < 8 then none
  else if crc16 body ≠ half16At bytes (bytes.length - 2) then none
  else if 48 ≤ index then none
  else
    let far := farContents role bytes
    some { tag := 48 * (byteAt bytes 0).toNat + index, header := far.1, slots := far.2,
           control := body.drop (bytes.length - 6) }

/-! ## Control messages (R101, 11.4) -/

/-- The type code of a message. -/
def MsgType.code : MsgType → BitVec 5
  | .hello => 1
  | .push => 2
  | .pull => 3
  | .ack => 4
  | .report => 5
  | .note => 6
  | .status => 7
  | .meter => 8

/-- The header byte of a message: 101 and the type. -/
def MsgType.header (t : MsgType) : Byte := 0b101#3 ++ t.code

/-- The largest payload of a type: its fixed length, or 67 for METER. -/
def MsgType.maxPayload : MsgType → Nat
  | .hello => 3
  | .push => 22
  | .pull => 2
  | .ack => 6
  | .report => 22
  | .note => 16
  | .status => 8
  | .meter => 67

/-- The type a header candidate names, and `none` for any other byte (R101). -/
def MsgType.ofHeader (b : Byte) : Option MsgType :=
  [MsgType.hello, .push, .pull, .ack, .report, .note, .status, .meter].find? fun t => t.header == b

/-- Whether a type travels toward an end of this role (R101). -/
def MsgType.toward : MsgType → Role → Bool
  | .hello, _ => true
  | .push, r => r == .stage
  | .pull, r => r == .stage
  | .ack, r => r == .desk
  | .report, r => r == .desk
  | .note, r => r == .desk
  | .status, r => r == .desk
  | .meter, r => r == .desk

/-- Whether the receiver of an end hands a message with a good check to a consumer: its type travels toward this
end, and its length is right for its type; a METER is handed on whatever its length (R104). -/
def handedOn (role : Role) (m : Msg) : Bool :=
  m.type.toward role && (m.type == .meter || m.payload.length == m.type.maxPayload)

/-- The whole message: header, length, payload, check (R101). -/
def messageBytes (t : MsgType) (payload : List Byte) : List Byte :=
  withCheck (t.header :: BitVec.ofNat 8 payload.length :: payload)

/-! ## Records (section 8.1, 11.6) -/

/-- The kinds of stage-setting records. -/
inductive RecordKind where
  | channel | mix | send | talkRoute | island
  deriving DecidableEq, Repr

/-- The number of records, IDs 0..225. -/
abbrev recordCount : Nat := 226

/-- The kind of a record ID. -/
def recordKind (record : Nat) : RecordKind :=
  if record < 96 then .channel
  else if record < 112 then .mix
  else if record < 224 then .send
  else if record = 224 then .talkRoute
  else .island

/-- How many fields a kind has in its layout (11.6), and so how many SET_FIELD accepts (R166). -/
def fieldCount : RecordKind → Nat
  | .channel => 4
  | .mix => 4
  | .send => 16
  | .talkRoute => 3
  | .island => 2

/-- The clamp of byte `k` of a record of a kind (R134). A byte beyond the kind's fields is stored as 0. -/
def clampByte (kind : RecordKind) (k : Nat) (b : Byte) : Byte :=
  match kind with
  | .channel =>
    if k = 0 then (if 60 < b.toNat then 60 else b) else if k < 4 then (if b = 0 then 0 else 1) else 0
  | .mix => if k = 1 then (if 60 < b.toNat then 60 else b) else if k < 4 then b else 0
  | .send => b
  | .talkRoute =>
    if k = 0 then (if 96 ≤ b.toNat ∧ b.toNat ≤ 254 then 255 else b) else if k < 3 then b else 0
  | .island =>
    if k = 0 then b
    else if k = 1 then (if 61 ≤ b.toNat ∧ b.toNat ≤ 254 then 60 else b) else 0

/-- The clamp of the 16 requested bytes of a record (R134). -/
def clampContents (record : Nat) (requested : List Byte) : List Byte :=
  (List.range 16).map fun k => clampByte (recordKind record) k (byteAt requested k)

/-- Whether a request is clamped: some stored byte differs from the byte requested (R134). -/
def isClamped (record : Nat) (requested : List Byte) : Bool :=
  (List.range 16).any fun k => clampByte (recordKind record) k (byteAt requested k) != byteAt requested k

/-- The contents of a record as the part shows and sends them: a byte that the layout of its kind marks as 0 is written
and sent as 0 and not examined, whatever a received message held there (R183, 11.6). -/
def layoutContents (record : Nat) (contents : List Byte) : List Byte :=
  (List.range 16).map fun k => if k < fieldCount (recordKind record) then byteAt contents k else 0

/-! ## Meter words (11.7) -/

/-- A meter word from its fields. -/
def meterWord (peak : Nat) (clip : Bool) (mark : Nat) : Word :=
  BitVec.ofNat 7 mark ++ BitVec.ofBool clip ++ BitVec.ofNat 24 peak

/-- The peak field of a meter word. -/
def meterPeak (w : Word) : Nat := (w.extractLsb' 0 24).toNat

/-- The clip field of a meter word. -/
def meterClip (w : Word) : Bool := w.getLsbD 24

/-- The mark field of a meter word. -/
def meterMark (w : Word) : Nat := (w.extractLsb' 25 7).toNat

/-! ## Registers (11.10) -/

/-- The scan period or the meter cadence a two-bit code stands for: 1, 2, 4 or 8. -/
def codeValue (c : BitVec 2) : Nat := 2 ^ c.toNat

/-- The policy bit. -/
def policyCode : Policy → BitVec 1
  | .adopt => 0
  | .impose => 1

/-- What a read of CTRL returns: the stored fields, RESET as 0, and ROLE (R177). -/
def ctrlWord (role : Role) (c : Ctrl) : Word :=
  0#23 ++ roleCode role ++ 0#1 ++ policyCode c.policy ++ BitVec.ofBool c.hold ++ c.cadence ++ c.period ++
    BitVec.ofBool c.run

/-- The writable fields of a written CTRL word (R177). -/
def ctrlOfWord (w : Word) : Ctrl :=
  { run := w.getLsbD 0, period := w.extractLsb' 1 2, cadence := w.extractLsb' 3 2, hold := w.getLsbD 5,
    policy := if w.getLsbD 6 then .impose else .adopt }

/-- The RESET bit of a written CTRL word. -/
def ctrlReset (w : Word) : Bool := w.getLsbD 7

/-! ## Counters that saturate (R97, R115, R116, R164, R176) -/

/-- One more, staying at 4,294,967,295. -/
def satSucc (w : Word) : Word := if w = 4294967295#32 then w else w + 1

/-- Whether a timer set to expire at the superframe count `expiry` has reached it. -/
def reached (now expiry : Word) : Bool := decide ((now - expiry).toNat < 2147483648)

end Sys2Proof.Machine
end

