-- ==== Sys2Proof/Machine/Update.lean ====
section
/-! DEFINITION. One update per field of State: every operation writes the state through these, and
Laws/State.lean says once, field by field, what each leaves alone. -/

namespace Sys2Proof.Machine

/-- `s` with its superframe replaced. -/
def State.setSuperframe (s : State) (v : Word) : State := { s with superframe := v }

/-- `s` with its frameIndex replaced. -/
def State.setFrameIndex (s : State) (v : Nat) : State := { s with frameIndex := v }

/-- `s` with its channels replaced. -/
def State.setChannels (s : State) (v : List Channel) : State := { s with channels := v }

/-- `s` with its stepperDue replaced. -/
def State.setStepperDue (s : State) (v : Bool) : State := { s with stepperDue := v }

/-- `s` with its preamp replaced. -/
def State.setPreamp (s : State) (v : Preamp) : State := { s with preamp := v }

/-- `s` with its mixes replaced. -/
def State.setMixes (s : State) (v : List Mix) : State := { s with mixes := v }

/-- `s` with its island replaced. -/
def State.setIsland (s : State) (v : Island) : State := { s with island := v }

/-- `s` with its arbiter replaced. -/
def State.setArbiter (s : State) (v : Arbiter) : State := { s with arbiter := v }

/-- `s` with its button replaced. -/
def State.setButton (s : State) (v : Button) : State := { s with button := v }

/-- `s` with its talkSeen replaced. -/
def State.setTalkSeen (s : State) (v : Bool) : State := { s with talkSeen := v }

/-- `s` with its meters replaced. -/
def State.setMeters (s : State) (v : Meters) : State := { s with meters := v }

/-- `s` with its portA replaced. -/
def State.setPortA (s : State) (v : Port) : State := { s with portA := v }

/-- `s` with its portB replaced. -/
def State.setPortB (s : State) (v : Port) : State := { s with portB := v }

/-- `s` with its selector replaced. -/
def State.setSelector (s : State) (v : Selector) : State := { s with selector := v }

/-- `s` with its deliverer replaced. -/
def State.setDeliverer (s : State) (v : Deliverer) : State := { s with deliverer := v }

/-- `s` with its link replaced. -/
def State.setLink (s : State) (v : Link) : State := { s with link := v }

/-- `s` with its clock replaced. -/
def State.setClock (s : State) (v : Clock) : State := { s with clock := v }

/-- `s` with its sched replaced. -/
def State.setSched (s : State) (v : Scheduler) : State := { s with sched := v }

/-- `s` with its receiver replaced. -/
def State.setReceiver (s : State) (v : Receiver) : State := { s with receiver := v }

/-- `s` with its desk replaced. -/
def State.setDesk (s : State) (v : DeskRepl) : State := { s with desk := v }

/-- `s` with its stage replaced. -/
def State.setStage (s : State) (v : StageRepl) : State := { s with stage := v }

/-- `s` with its board replaced. -/
def State.setBoard (s : State) (v : Memory) : State := { s with board := v }

/-- `s` with its scanner replaced. -/
def State.setScanner (s : State) (v : Scanner) : State := { s with scanner := v }

/-- `s` with its ring replaced. -/
def State.setRing (s : State) (v : Ring) : State := { s with ring := v }

/-- `s` with its status replaced. -/
def State.setStatus (s : State) (v : Status) : State := { s with status := v }

/-- `s` with its regs replaced. -/
def State.setRegs (s : State) (v : Regs) : State := { s with regs := v }

/-- `s` with its output replaced. -/
def State.setOutput (s : State) (v : Output) : State := { s with output := v }

/-- `s` with its pending replaced. -/
def State.setPending (s : State) (v : List Instr) : State := { s with pending := v }

/-- The port of a name. -/
def State.port (s : State) : PortId → Port
  | .a => s.portA
  | .b => s.portB

/-- `s` with one port replaced. -/
def State.setPort (s : State) (p : PortId) (v : Port) : State :=
  match p with
  | .a => s.setPortA v
  | .b => s.setPortB v

/-- The other port. -/
def otherPort : PortId → PortId
  | .a => .b
  | .b => .a

end Sys2Proof.Machine
end

