-- ==== Sys2Proof/Machine/Flags.lean ====
section
/-! DEFINITION. The flags of the part: NOTICE with its snapshot and enables, the interrupt pin, and the LINKSTAT
change bits (R178 to R180). -/

namespace Sys2Proof.Machine

/-- The NOTICE flags, in bit order (11.10). -/
inductive Notice where
  | board | event | link | meter | talk | sync | window
  deriving DecidableEq, Repr

/-- The bit of a flag. -/
def noticeBit : Notice → BitVec 7
  | .board => 1
  | .event => 2
  | .link => 4
  | .meter => 8
  | .talk => 16
  | .sync => 32
  | .window => 64

/-- The LINKSTAT change bits, in bit order (11.10). -/
inductive Change where
  | portA | portB | active | link | stageTalk
  deriving DecidableEq, Repr

/-- The bit of a change bit. -/
def changeBit : Change → BitVec 5
  | .portA => 1
  | .portB => 2
  | .active => 4
  | .link => 8
  | .stageTalk => 16

/-- Setting a NOTICE flag; a set flag stays set (R178). -/
def setNotice (n : Notice) (s : State) : State :=
  s.setRegs { s.regs with notice := s.regs.notice ||| noticeBit n }

/-- Setting a LINKSTAT change bit, and the LINK notice with it (R180). -/
def setChange (c : Change) (s : State) : State :=
  setNotice .link (s.setRegs { s.regs with change := s.regs.change ||| changeBit c })

/-- The change bit of a port. -/
def portChange : PortId → Change
  | .a => .portA
  | .b => .portB

/-- A host read of NOTICE (R178): the flags are returned and copied into the snapshot. -/
def readNotice (s : State) : State :=
  s.setRegs { s.regs with snapshot := s.regs.notice, hostData := s.regs.notice.setWidth 32 }

/-- What a write of NOTICE clears: each flag written 0 whose snapshot bit is 1 (R178). -/
def noticeCleared (written snapshot : BitVec 7) : BitVec 7 := ~~~written &&& snapshot

/-- A host write of NOTICE (R178): each such flag is cleared, and then its snapshot bit. -/
def writeNotice (value : Word) (s : State) : State :=
  let c := noticeCleared (value.setWidth 7) s.regs.snapshot
  s.setRegs { s.regs with notice := s.regs.notice &&& ~~~c, snapshot := s.regs.snapshot &&& ~~~c }

/-- A host write of NOTICE_EN (R179): the seven assigned bits are stored; the others read 0 (R183). -/
def writeEnable (value : Word) (s : State) : State :=
  s.setRegs { s.regs with enable := value.setWidth 7 }

/-- The interrupt pin (R179): asserted while any flag is set in both NOTICE and NOTICE_EN. -/
def interruptPin (s : State) : Bool := s.regs.notice &&& s.regs.enable != 0

/-- The stage talk field of LINKSTAT (R70, R72): the button's active state at the stage, stage talk seen at the
desk. -/
def stageTalkField (s : State) : Bool :=
  match s.role with
  | .desk => s.talkSeen
  | .stage => s.button.pressed

/-- The LINKSTAT word: the six fields from their owners, and the change bits (R180, 11.10). -/
def linkstatWord (s : State) : Word :=
  0#11 ++ s.regs.change ++ 0#4 ++ carriedCode s.arbiter.carried ++ BitVec.ofBool (stageTalkField s) ++
    linkCode s.link.state ++ activeCode s.selector.active ++ portCode s.portB ++ portCode s.portA

/-- A host read of LINKSTAT (R180): fields and change bits are returned together, then every change bit is cleared. -/
def readLinkstat (s : State) : State :=
  s.setRegs { s.regs with hostData := linkstatWord s, change := 0 }

/-- A refused host write (R161): the write is dropped and the WINDOW notice is set. -/
def refuseWrite (s : State) : State := setNotice .window s

end Sys2Proof.Machine
end

