-- ==== Sys2Proof/Machine/Level.lean ====
section
/-! DEFINITION. Level Arithmetic (chapter 2): level codes and gains, the ramp law, rounding and saturation. Every
sample and gain is an exact integer (R33). -/

namespace Sys2Proof.Machine

/-- Gain unity, 1,048,576 units of 2^−20. -/
abbrev unity : Int := 1048576

/-- The level table M: the twelve gains of one octave (section 2.2). -/
def levelTable : List Int :=
  [1048576, 1110928, 1176987, 1246974, 1321123, 1399681, 1482910, 1571089, 1664511, 1763488, 1868350, 1979448]

/-- The gain G(c) of a level code (R26): k = c − 231, q = floor(k / 12), r = k − 12q. The divisions round toward
minus infinity (`Int` division by a positive number). -/
def levelGain (c : Nat) : Int :=
  if c = 0 then 0
  else
    let k : Int := (c : Int) - 231
    let q : Int := k / 12
    let m : Int := levelTable.getD (k - 12 * q).toNat 0
    if 0 ≤ q then m * 2 ^ q.toNat else m / 2 ^ (-q).toNat

/-- Forcing a value (R28): the gain jumps there and is at rest. -/
def rampForce (v : Int) : Ramp := { current := v, target := v, step := 0, remaining := 0 }

/-- Setting a target (R29): an equal target does nothing; a different one starts a 256-frame ramp from the present
current, its step truncated toward zero. -/
def rampTarget (t : Int) (g : Ramp) : Ramp :=
  if t = g.target then g
  else { current := g.current, target := t, step := (t - g.current).tdiv 256, remaining := 256 }

/-- One advance (R30): at rest nothing changes; the last advance snaps to the target. -/
def rampAdvance (g : Ramp) : Ramp :=
  if g.remaining = 0 then g
  else if g.remaining = 1 then { g with current := g.target, remaining := 0 }
  else { g with current := g.current + g.step, remaining := g.remaining - 1 }

/-- The gain rounding (R34): to nearest, halves toward plus infinity. -/
def gainRound (v : Int) : Int := (v + 524288) / 1048576

/-- Saturation to a range (R35). -/
def saturate (lo hi v : Int) : Int := if v < lo then lo else if hi < v then hi else v

/-- Saturation to the 24-bit sample range (R35). -/
def satSample (v : Int) : Int := saturate (-8388608) 8388607 v

/-- The bus clamp (R35). -/
def busClamp (v : Int) : Int := saturate (-2147483648) 2147483647 v

/-- One step of concealment decay, v − floor(v / 8) (R119). -/
def decay (v : Int) : Int := v - v / 8

end Sys2Proof.Machine
end

