-- ==== Sys2Proof/Machine/Ops.lean ====
section
/-! DEFINITION. The operations the blocks share: the Event Writer, the tables and lists they reach into, and the
preamp update queue. -/

namespace Sys2Proof.Machine

/-! ## The Event Writer (R173 to R175) -/

/-- The event types (R175). -/
inductive EventType where
  | portState | switchover | linkState | farRestart | roleFault | adoptDone | talkPreempted | talkResumed
  | talkTimeout | stageTalk | phantomFault | preampMismatch | preampAbsent | clockRange | islandDim
  deriving DecidableEq, Repr

/-- The code of an event type (R175). -/
def eventCode : EventType → Byte
  | .portState => 1
  | .switchover => 2
  | .linkState => 3
  | .farRestart => 4
  | .roleFault => 5
  | .adoptDone => 6
  | .talkPreempted => 7
  | .talkResumed => 8
  | .talkTimeout => 9
  | .stageTalk => 10
  | .phantomFault => 11
  | .preampMismatch => 12
  | .preampAbsent => 13
  | .clockRange => 14
  | .islandDim => 15

/-- The forward cursor never lags the written count by more than 64 (R108); at the desk it holds its reset value
(R110). -/
def forwardCursor (role : Role) (written cursor : Word) : Word :=
  match role with
  | .desk => cursor
  | .stage => if 64 < (written - cursor).toNat then written - 64#32 else cursor

/-- Writing a record into the ring (R173): its sequence is the written count before it, it goes to ring index
sequence mod 64, the count goes up by 1, and the EVENT notice is set. At 4,294,967,295 nothing more is written. -/
def appendEvent (stamp : Word) (type origin : Byte) (subject : Half) (detail : Word) (s : State) : State :=
  if s.ring.written = 4294967295#32 then s
  else
    let record : Event :=
      { sequence := s.ring.written, stamp := stamp, type := type, origin := origin, subject := subject,
        detail := detail }
    let written := s.ring.written + 1
    setNotice .event
      ((s.setRing { records := s.ring.records.set (s.ring.written.toNat % 64) record, written := written }).setSched
        { s.sched with noteCursor := forwardCursor s.role written s.sched.noteCursor })

/-- An event of this end's own (R173): stamped with its superframe count, origin 0 at the desk and 1 at the stage. -/
def writeEvent (type : EventType) (subject : Nat) (detail : Word) (s : State) : State :=
  appendEvent s.superframe (eventCode type) ((roleCode s.role).setWidth 8) (BitVec.ofNat 16 subject) detail s

/-- Setting a NOTICE flag where a condition holds. -/
def noticeIf (c : Bool) (n : Notice) (s : State) : State := if c then setNotice n s else s

/-! ## Tables -/

/-- The state of an input channel. -/
def channelAt (s : State) (n : Nat) : Channel := s.channels.getD n .initial

/-- `s` with one channel replaced. -/
def setChannel (n : Nat) (c : Channel) (s : State) : State := s.setChannels (s.channels.set n c)

/-- The contents of a live record (R155). -/
def liveContents (s : State) (record : Nat) : List Byte :=
  ((s.stage.live[record]?).map Live.contents).getD (defaultContents record)

/-- A content byte of a live record. -/
def liveByte (s : State) (record k : Nat) : Byte := byteAt (liveContents s record) k

/-- A shadow entry (R135). -/
def shadowAt (s : State) (record : Nat) : Shadow :=
  s.desk.shadow.getD record { contents := defaultContents record, version := 0, confirmed := 0, stamp := 0 }

/-- The contents of a shadow entry as the part shows, sends and edits them (R183). -/
def shadowContents (s : State) (record : Nat) : List Byte := layoutContents record (shadowAt s record).contents

/-! ## The preamp update queue (R17) -/

/-- Enqueueing a channel: at the tail unless it is already in the queue. -/
def enqueue (n : Nat) (s : State) : State :=
  if n ∈ s.preamp.queue then s
  else s.setPreamp { s.preamp with queue := s.preamp.queue ++ [n] }

/-- The order in which a list of independent events is taken. -/
def forEach {α : Type} (f : α → State → State) (l : List α) (s : State) : State :=
  l.foldl (fun s a => f a s) s

end Sys2Proof.Machine
end

