-- ==== Sys2Proof/Machine/Channels.lean ====
section
/-! DEFINITION. Input Channels and Preamp Control (chapter 1): the input chain, the gate, the Gain Stepper, the
Phantom Sequencer and the Preamp Control Port, with the meanings of their commands. All are stage blocks (R24). -/

namespace Sys2Proof.Machine

/-! ## The input chain (section 1.1) -/

/-- The clip test on the raw sample (R2). -/
def clips (x : Int) : Bool := decide (8355840 ≤ x) || decide (x ≤ -8355840)

/-- Polarity (R3): inversion saturates −8,388,608. -/
def applyPolarity (polarity : Bool) (x : Int) : Int := if polarity then satSample (-x) else x

/-- The channel's state and its post-gate sample after one frame (R1): clip test, polarity, gate advance,
multiplication, peak. -/
def chainStep (x : Int) (c : Channel) : Channel × Int :=
  let y := applyPolarity c.polarity x
  let gate := rampAdvance c.gate
  let p := gainRound (y * gate.current)
  ({ c with clip := c.clip || clips x, gate := gate, peak := max c.peak p.natAbs }, p)

/-- The chain over all channels, slot n of the input lanes being channel n's sample (R1, R91). A slot the lanes do
not present is read as 0. -/
def inputChain : List Sample → List Channel → List (Channel × Int)
  | _, [] => []
  | [], c :: cs => chainStep 0 c :: inputChain [] cs
  | x :: xs, c :: cs => chainStep x.toInt c :: inputChain xs cs

/-! ## The gate (section 1.2) -/

/-- A gate is closed when its current value and its target are 0 (R6). -/
def gateIsClosed (g : Ramp) : Bool := g.current == 0 && g.target == 0

/-! ## The Phantom Sequencer (section 1.5) -/

/-- The 800 ms of the phantom timer, in superframe boundaries (R11). -/
abbrev phantomBoundaries : Word := 800#32

/-- The reaction of MUTING_ON and MUTING_OFF to a closed gate (R12, R14); in any other state, nothing. -/
def phantomClosed (n : Nat) (s : State) : State :=
  let c := channelAt s n
  let timer := some (s.superframe + phantomBoundaries)
  if gateIsClosed c.gate then
    match c.phantom with
    | .mutingOn =>
      enqueue n (setChannel n { c with appliedPhantom := true, phantomTimer := timer, phantom := .charging } s)
    | .mutingOff =>
      enqueue n (setChannel n { c with appliedPhantom := false, phantomTimer := timer, phantom := .discharging } s)
    | _ => s
  else s

/-- The field of the live record changes 0→1 (R12 to R15). A closed gate brings its reaction at once. -/
def phantomFieldOn (n : Nat) (s : State) : State :=
  let c := channelAt s n
  match c.phantom with
  | .off => phantomClosed n (setChannel n { c with gate := rampTarget 0 c.gate, phantom := .mutingOn } s)
  | .mutingOff => phantomClosed n (setChannel n { c with gate := rampTarget 0 c.gate, phantom := .mutingOn } s)
  | .discharging =>
    phantomClosed n
      (setChannel n { c with gate := rampTarget 0 c.gate, phantomTimer := none, phantom := .mutingOn } s)
  | .mutingOn | .charging | .on | .fault => s

/-- The field of the live record changes 1→0 (R12 to R15). -/
def phantomFieldOff (n : Nat) (s : State) : State :=
  let c := channelAt s n
  match c.phantom with
  | .mutingOn => setChannel n { c with gate := rampTarget unity c.gate, phantom := .off } s
  | .charging =>
    phantomClosed n
      (setChannel n { c with gate := rampTarget 0 c.gate, phantomTimer := none, phantom := .mutingOff } s)
  | .on => phantomClosed n (setChannel n { c with gate := rampTarget 0 c.gate, phantom := .mutingOff } s)
  | .fault =>
    setChannel n { c with phantomTimer := some (s.superframe + phantomBoundaries), phantom := .discharging } s
  | .off | .mutingOff | .discharging => s

/-- The timer of CHARGING or DISCHARGING expires (R13, R14): the gate reopens. -/
def phantomTimeout (n : Nat) (s : State) : State :=
  let c := channelAt s n
  match c.phantom with
  | .charging => setChannel n { c with gate := rampTarget unity c.gate, phantomTimer := none, phantom := .on } s
  | .discharging => setChannel n { c with gate := rampTarget unity c.gate, phantomTimer := none, phantom := .off } s
  | .off | .mutingOn | .on | .mutingOff | .fault => s

/-- An overcurrent report (R15): in MUTING_ON, CHARGING, ON or MUTING_OFF the gate snaps shut, phantom goes off, the
channel is enqueued, PHANTOM_FAULT is written and the sequencer enters FAULT. -/
def phantomOvercurrent (n : Nat) (s : State) : State :=
  let c := channelAt s n
  match c.phantom with
  | .mutingOn | .charging | .on | .mutingOff =>
    writeEvent .phantomFault n 0
      (enqueue n
        (setChannel n { c with gate := rampForce 0, appliedPhantom := false, phantomTimer := none, phantom := .fault } s))
  | .off | .discharging | .fault => s

/-- Whether the phantom timer of a channel has reached its expiry (R11). -/
def phantomDue (s : State) (n : Nat) : Bool :=
  match (channelAt s n).phantomTimer with
  | some e => reached s.superframe e
  | none => false

/-- PHANTOM_TIMER_EXPIRY (R11), taken where the timer of the channel has reached its expiry. -/
def phantomExpiry (n : Nat) (s : State) : State :=
  if s.role = .stage ∧ phantomDue s n then phantomTimeout n s else s

/-- GATE_CLOSED (R6), taken where the sequencer waits for a gate that is now closed. -/
def gateClosedReaction (n : Nat) (s : State) : State := if s.role = .stage then phantomClosed n s else s

/-! ## The applied CHANNEL record (section 1.3) -/

/-- A content byte used as a bit. -/
def bitOf (b : Byte) : Bool := b != 0

/-- A changed pad is applied at once and the channel enqueued (R8). -/
def applyPad (n : Nat) (pad : Bool) (s : State) : State :=
  enqueue n (setChannel n { channelAt s n with appliedPad := pad } s)

/-- The Channel Processor takes a changed polarity (R3). -/
def applyPolarityField (n : Nat) (polarity : Bool) (s : State) : State :=
  setChannel n { channelAt s n with polarity := polarity } s

/-- What the input blocks do once CHANNEL record n is replaced (R7): they act on the fields that differ. A changed
gain is read from the live record at the stepper's next expiry. -/
def applyChannelRecord (n : Nat) (old new : List Byte) (s : State) : State :=
  let s := if byteAt new 1 = byteAt old 1 then s else applyPad n (bitOf (byteAt new 1)) s
  let s := if byteAt new 2 = byteAt old 2 then s
    else if bitOf (byteAt new 2) then phantomFieldOn n s else phantomFieldOff n s
  if byteAt new 3 = byteAt old 3 then s else applyPolarityField n (bitOf (byteAt new 3)) s

/-! ## The Gain Stepper (section 1.4) -/

/-- The gain field of a channel's live record. -/
def liveGain (s : State) (n : Nat) : Nat := (liveByte s n 0).toNat

/-- Whether a channel is the channel of the transfer in progress. -/
def inTransfer (s : State) (n : Nat) : Bool :=
  match s.preamp.transfer with
  | some t => t.channel == n
  | none => false

/-- One dB toward the target (R9). -/
def gainToward (target applied : Nat) : Nat := if applied < target then applied + 1 else applied - 1

/-- The stepper's examination of one channel (R9). -/
def stepChannel (n : Nat) (s : State) : State :=
  let c := channelAt s n
  if c.appliedGain ≠ liveGain s n ∧ n ∉ s.preamp.queue ∧ inTransfer s n = false then
    enqueue n (setChannel n { c with appliedGain := gainToward (liveGain s n) c.appliedGain } s)
  else s

/-- GAIN_STEPPER_EXPIRY (R9), taken where the stepper's timer has expired: every channel, in ascending number. -/
def stepperExpiry (s : State) : State :=
  if s.role = .stage ∧ s.stepperDue then forEach stepChannel (List.range 96) (s.setStepperDue false) else s

/-! ## The Preamp Control Port (section 1.7) -/

/-- TRANSFER_START (R18), taken where the port is idle and the queue is not empty. -/
def startTransfer (s : State) : State :=
  match s.role, s.preamp.transfer, s.preamp.queue with
  | .stage, none, n :: rest =>
    let c := channelAt s n
    let word := preampWord n c.appliedGain c.appliedPad c.appliedPhantom
    let sent : Sent := { gain := c.appliedGain, pad := c.appliedPad, phantom := c.appliedPhantom, valid := true }
    setChannel n { c with sent := sent }
      (s.setPreamp { s.preamp with queue := rest, transfer := some { channel := n, word := word, prior := c.sent } })
  | _, _, _ => s

/-- The absent flag of a chip. -/
def chipAbsent (s : State) (chip : Nat) : Bool := s.preamp.absent.getD chip false

/-- Writing the absent flag of a chip. -/
def setAbsent (chip : Nat) (v : Bool) (s : State) : State :=
  s.setPreamp { s.preamp with absent := s.preamp.absent.set chip v }

/-- A returned word with a wrong marker (R20). -/
def chipMissing (chip : Nat) (s : State) : State :=
  if chipAbsent s chip then s else writeEvent .preampAbsent chip 0 (setAbsent chip true s)

/-- Whether the echo matches the prior sent record (R21). -/
def echoMatches (prior : Sent) (w : Half) : Bool :=
  prior.gain == returnedGain w && prior.pad == returnedPad w && prior.phantom == returnedPhantom w

/-- The detail of PREAMP_MISMATCH (11.8): echoed gain, pad and phantom. -/
def mismatchDetail (w : Half) : Word :=
  0#22 ++ BitVec.ofBool (returnedPhantom w) ++ BitVec.ofBool (returnedPad w) ++ BitVec.ofNat 8 (returnedGain w)

/-- The echo check (R21). -/
def echoCheck (n : Nat) (prior : Sent) (w : Half) (s : State) : State :=
  let c := channelAt s n
  if prior.valid = false then s
  else if echoMatches prior w then setChannel n { c with mismatch := 0 } s
  else
    let s := setChannel n { c with mismatch := min 255 (c.mismatch + 1) } s
    enqueue n (if c.mismatch = 0 then writeEvent .preampMismatch n (mismatchDetail w) s else s)

/-- TRANSFER_COMPLETE (R20 to R22): the presence marker, then the echo check, then the overcurrent bit. -/
def completeTransfer (w : Half) (s : State) : State :=
  match s.role, s.preamp.transfer with
  | .stage, some t =>
    let s := s.setPreamp { s.preamp with transfer := none }
    if returnedPresent w then
      let s := echoCheck t.channel t.prior w (setAbsent (t.channel / 8) false s)
      if returnedOvercurrent w then phantomOvercurrent t.channel s else s
    else chipMissing (t.channel / 8) s
  | _, _ => s

/-! ## The meanings -/

/-- GAIN_STEPPER_EXPIRY (R9). -/
def execGainStepperExpiry (s : State) : Host.Outcome State Fault Refusal := .next (stepperExpiry s)

/-- GATE_CLOSED (R6, R12, R14). -/
def execGateClosed (channel : Fin 96) (s : State) : Host.Outcome State Fault Refusal :=
  .next (gateClosedReaction channel.val s)

/-- PHANTOM_TIMER_EXPIRY (R11, R13, R14). -/
def execPhantomTimerExpiry (channel : Fin 96) (s : State) : Host.Outcome State Fault Refusal :=
  .next (phantomExpiry channel.val s)

/-- TRANSFER_START (R18). -/
def execTransferStart (s : State) : Host.Outcome State Fault Refusal := .next (startTransfer s)

/-- TRANSFER_COMPLETE (R20 to R22). -/
def execTransferComplete (returned : Half) (s : State) : Host.Outcome State Fault Refusal :=
  .next (completeTransfer returned s)

end Sys2Proof.Machine
end

