-- ==== Sys2Proof/Machine/Entries.lean ====
section
/-! DEFINITION. Board entries as the part writes them (R163), the accepted records (R167), completion and deadline
(R169, R170), and the meaning of DEADLINE_EXPIRY. -/

namespace Sys2Proof.Machine

/-- The states of a board entry the part writes (section 9.2). -/
inductive EntryState where
  | accepted | done | held | refused
  deriving DecidableEq, Repr

/-- The state code of an entry (section 9.2). FREE is 0 and POSTED is 1. -/
def entryStateCode : EntryState → Byte
  | .accepted => 2
  | .done => 3
  | .held => 4
  | .refused => 5

/-- The results of an entry (section 9.2). -/
inductive EntryResult where
  | none | done | held | refusedKind | refusedTarget | refusedArgument
  deriving DecidableEq, Repr

/-- The result code of an entry (section 9.2). -/
def entryResultCode : EntryResult → Byte
  | .none => 0
  | .done => 1
  | .held => 2
  | .refusedKind => 3
  | .refusedTarget => 4
  | .refusedArgument => 5

/-- Word `k` of entry `i` as it stands (11.5). -/
def entryWord (s : State) (i k : Nat) : Word := s.board.readWord (entryAddress i k)

/-- Word `k` of entry `i` as the scan reads it (R165, R171): each word once, so a word that it had read before a host
write replaced it keeps its old value for the scan. -/
def scanWord (s : State) (i k : Nat) : Word :=
  if s.scanner.pos = some i then (s.scanner.reads.lookup k).getD (entryWord s i k) else entryWord s i k

/-- The state byte of word 0. -/
def wordState (w0 : Word) : Byte := w0.extractLsb' 0 8

/-- The kind byte of word 0. -/
def wordKind (w0 : Word) : Byte := w0.extractLsb' 8 8

/-- The tag of word 0. -/
def wordTag (w0 : Word) : Half := w0.extractLsb' 16 16

/-- The part's write of an entry (R162, R163): result and CLAMPED in word 6, the superframe count in word 7, then
word 0 with the new state and the kind and tag that the scan read. -/
def writeEntry (i : Nat) (state : EntryState) (result : EntryResult) (clamped : Bool) (kind : Byte) (tag : Half)
    (s : State) : State :=
  let m := s.board.writeWord (entryAddress i 6) (0#23 ++ BitVec.ofBool clamped ++ entryResultCode result)
  let m := Memory.writeWord m (entryAddress i 7) s.superframe
  s.setBoard (Memory.writeWord m (entryAddress i 0) (tag ++ kind ++ entryStateCode state))

/-- The accepted record the scanner holds for an entry (R167). -/
def acceptedAt (s : State) (i : Nat) : Option Accepted := s.scanner.accepted.getD i none

/-- `s` with the accepted record of an entry replaced. -/
def setAccepted (i : Nat) (a : Option Accepted) (s : State) : State :=
  s.setScanner { s.scanner with accepted := s.scanner.accepted.set i a }

/-- The completion of an ACCEPTED entry (R169): written, its accepted record dropped, the BOARD notice set. -/
def completeEntry (i : Nat) (a : Accepted) (state : EntryState) (result : EntryResult) (s : State) : State :=
  setNotice .board (setAccepted i none (writeEntry i state result a.clamped a.kind a.tag s))

/-- One entry, when a record has become CLEAN (R142): DONE if it is ACCEPTED against that record. -/
def completeIfAgainst (record : Nat) (i : Nat) (s : State) : State :=
  match acceptedAt s i with
  | some a => if a.record = record then completeEntry i a .done .done s else s
  | none => s

/-- Every entry ACCEPTED against a record that has become CLEAN completes DONE, in ascending index (R142). -/
def completeAgainst (record : Nat) (s : State) : State := forEach (completeIfAgainst record) (List.range 32) s

/-- Whether the deadline of an ACCEPTED entry has been reached (R170). -/
def deadlineDue (s : State) (i : Nat) : Bool :=
  match acceptedAt s i with
  | some a => reached s.superframe a.expiry
  | none => false

/-- DEADLINE_EXPIRY (R169, R170), taken where the deadline of the ACCEPTED entry has been reached: HELD. -/
def deadlineExpiry (i : Nat) (s : State) : State :=
  match acceptedAt s i with
  | some a => if s.role = .desk ∧ deadlineDue s i then completeEntry i a .held .held s else s
  | none => s

/-- How long an accepted edit may wait, in superframe boundaries, from the deadline byte (R170). -/
def deadlineBoundaries (d : Byte) : Nat := if d = 0 then 1000 else 10 * d.toNat

/-- DEADLINE_EXPIRY (R170). -/
def execDeadlineExpiry (entry : Fin 32) (s : State) : Host.Outcome State Fault Refusal :=
  .next (deadlineExpiry entry.val s)

end Sys2Proof.Machine
end

