-- ==== Sys2Proof/Machine/Replication.lean ====
section
/-! DEFINITION. Record Replication (chapter 8): the desk side with its dirty list, in-flight table and adoption set,
the stage side, and the meanings of the two timeouts. -/

namespace Sys2Proof.Machine

/-! ## The desk's lists (R135, R139, R140, R147) -/

/-- A record is in the in-flight table. -/
def isInFlight (d : DeskRepl) (record : Nat) : Bool := d.inFlight.any fun e => e.record == record

/-- A record is in the adoption set. -/
def isAdopting (d : DeskRepl) (record : Nat) : Bool := d.adoption.any fun e => e.record == record

/-- A record is in the dirty list. -/
def isDirty (d : DeskRepl) (record : Nat) : Bool := d.dirty.contains record

/-- The replication states (R135). -/
inductive ReplState where
  | clean | dirty | inFlight | dirtyInFlight | adopting
  deriving DecidableEq, Repr

/-- The replication state follows from where the record is found (R135). -/
def replState (d : DeskRepl) (record : Nat) : ReplState :=
  match isDirty d record, isInFlight d record, isAdopting d record with
  | true, true, _ => .dirtyInFlight
  | true, false, _ => .dirty
  | false, true, _ => .inFlight
  | false, false, true => .adopting
  | false, false, false => .clean

/-- The code of a replication state (11.1). -/
def replCode : ReplState → Byte
  | .clean => 0
  | .dirty => 1
  | .inFlight => 2
  | .dirtyInFlight => 3
  | .adopting => 4

/-- Appending a record to the dirty list: at the tail unless it is already there (R139). -/
def appendDirty (dirty : List Nat) (record : Nat) : List Nat :=
  if record ∈ dirty then dirty else dirty ++ [record]

/-- Appending several records, in order. -/
def appendAllDirty (dirty : List Nat) (records : List Nat) : List Nat := records.foldl appendDirty dirty

/-- `s` with a shadow entry replaced. -/
def setShadow (record : Nat) (e : Shadow) (s : State) : State :=
  s.setDesk { s.desk with shadow := s.desk.shadow.set record e }

/-- The end of an adoption (R151): ADOPT_DONE with the adopted count, and the SYNC notice. -/
def adoptDone (s : State) : State :=
  setNotice .sync (writeEvent .adoptDone 0 (BitVec.ofNat 32 s.desk.adopted) s)

/-- Taking a record out of the adoption set, its pull ending with it (R148); the adoption ends when that empties the
set (R151). -/
def leaveAdoption (record : Nat) (s : State) : State :=
  if isAdopting s.desk record then
    let rest := s.desk.adoption.filter fun e => e.record != record
    let t := s.setDesk { s.desk with adoption := rest }
    if rest.isEmpty then adoptDone t else t
  else s

/-! ## Edits and replays (R137, R138) -/

/-- The counter after it gives a version (R136): from 4,294,967,295 to 1. -/
def nextVersion (v : Word) : Word := if v = 4294967295#32 then 1 else v + 1

/-- An edit (R137, steps 1 to 5): the clamped bytes become the shadow contents with a new version, the record leaves
the adoption set and joins the dirty list. -/
def editRecord (record : Nat) (requested : List Byte) (s : State) : State :=
  let e : Shadow :=
    { contents := clampContents record requested, version := s.desk.counter,
      confirmed := (shadowAt s record).confirmed, stamp := s.superframe }
  let s := setShadow record e (s.setDesk { s.desk with counter := nextVersion s.desk.counter })
  let s := leaveAdoption record s
  s.setDesk { s.desk with dirty := appendDirty s.desk.dirty record }

/-- Marking every record for replay (R138): the adoption set is emptied with its pulls, and records 0..225 are
appended in ascending ID. -/
def markReplay (s : State) : State :=
  s.setDesk { s.desk with adoption := [], dirty := appendAllDirty s.desk.dirty (List.range recordCount) }

/-! ## Pushes and pulls (R140, R143, R148) -/

/-- The first dirty record with no entry in flight (R140). -/
def pushCandidate (d : DeskRepl) : Option Nat := d.dirty.find? fun r => !isInFlight d r

/-- How many pulls are outstanding. -/
def pullsOutstanding (d : DeskRepl) : Nat := d.adoption.countP fun e => e.pulled.isSome

/-- The unsent member with the lowest ID (R148). -/
def pullCandidate (d : DeskRepl) : Option Nat :=
  (List.range recordCount).find? fun r => d.adoption.any fun e => e.record == r && e.pulled.isNone

/-- Beginning a PUSH of a record (R140): it leaves the dirty list and gains an in-flight entry. -/
def beginPush (record : Nat) (s : State) : State :=
  s.setDesk { s.desk with
    dirty := s.desk.dirty.erase record,
    inFlight := s.desk.inFlight ++
      [{ record := record, version := (shadowAt s record).version, stamp := s.superframe }] }

/-- Marking a member's pull outstanding or unsent (R148). -/
def setPulled (record : Nat) (stamp : Option Word) (l : List Adoptee) : List Adoptee :=
  l.map fun e => if e.record = record then { e with pulled := stamp } else e

/-- Beginning a PULL of a member (R148). -/
def beginPull (record : Nat) (s : State) : State :=
  s.setDesk { s.desk with adoption := setPulled record (some s.superframe) s.desk.adoption }

/-- The 8 boundaries after which an unanswered PUSH or PULL is given up (R143, R148). -/
def timedOut (now stamp : Word) : Bool := reached now (stamp + 8)

/-- IN_FLIGHT_TIMEOUT (R143): the first entry in table order whose time has run out is removed, and its record is
appended to the dirty list. -/
def inFlightTimeout (s : State) : State :=
  match s.role, s.desk.inFlight.find? fun e => timedOut s.superframe e.stamp with
  | .desk, some e =>
    s.setDesk { s.desk with
      inFlight := s.desk.inFlight.erase e,
      dirty := appendDirty s.desk.dirty e.record }
  | _, _ => s

/-- Whether a member's outstanding pull has run out (R148). -/
def pullDue (s : State) (record : Nat) : Bool :=
  s.desk.adoption.any fun e => e.record == record && (e.pulled.map (timedOut s.superframe)).getD false

/-- PULL_TIMEOUT (R148): the member becomes unsent again. -/
def pullTimeout (record : Nat) (s : State) : State :=
  if s.role = .desk ∧ pullDue s record then
    s.setDesk { s.desk with adoption := setPulled record none s.desk.adoption }
  else s

/-- Leaving LINKED for CONNECTING, or entering LOST (R145): in-flight entries go back to the dirty list in table
order, and every outstanding pull is cancelled. -/
def returnInFlight (s : State) : State :=
  s.setDesk { s.desk with
    dirty := appendAllDirty s.desk.dirty (s.desk.inFlight.map InFlight.record),
    inFlight := [],
    adoption := s.desk.adoption.map fun e => { e with pulled := none } }

/-! ## ACKs and REPORTs (R141, R149) -/

/-- The in-flight entry of a record. -/
def inFlightEntry (d : DeskRepl) (record : Nat) : Option InFlight := d.inFlight.find? fun e => e.record == record

/-- An ACK's effect on the lists (R141): a matching entry is removed; a stale ACK removes nothing; with no entry, a
late ACK of the nonzero shadow version removes the record from the dirty list. -/
def ackLists (d : DeskRepl) (record : Nat) (v shadowVersion : Word) : DeskRepl :=
  match inFlightEntry d record with
  | some e => if e.version = v then { d with inFlight := d.inFlight.erase e } else d
  | none => if v ≠ 0 ∧ v = shadowVersion then { d with dirty := d.dirty.erase record } else d

/-- Nothing is waiting and nothing is unanswered (R153). -/
def pushesIdle (d : DeskRepl) : Bool := d.dirty.isEmpty && d.inFlight.isEmpty

/-- An event that empties both the dirty list and the in-flight table sets SYNC (R153). -/
def syncAfter (before : DeskRepl) (s : State) : State :=
  noticeIf (pushesIdle s.desk && !pushesIdle before) .sync s

/-- ACK_RECEIVED (R141, R142, R153). -/
def acknowledge (record : Nat) (v : Word) (s : State) : State :=
  if s.role = .desk ∧ record < recordCount then
    let e := shadowAt s record
    let t := setShadow record { e with confirmed := v } (s.setDesk (ackLists s.desk record v e.version))
    let t := if replState t.desk record = .clean then completeAgainst record t else t
    syncAfter s.desk t
  else s

/-- REPORT_RECEIVED (R149, R151): a record in the adoption set is adopted as it stands, with version 0. The bytes
that 11.6 marks as 0 are kept so too; no reader sees them (`shadowContents`, R183). DESIGN CHOICE (log 30). -/
def adoptReport (record : Nat) (contents : List Byte) (s : State) : State :=
  if s.role = .desk ∧ record < recordCount ∧ isAdopting s.desk record then
    let s := setShadow record { contents := contents, version := 0, confirmed := 0, stamp := s.superframe } s
    leaveAdoption record (s.setDesk { s.desk with adopted := s.desk.adopted + 1 })
  else s

/-! ## The rejoin decision (R146, R147) -/

/-- The records an adoption takes: shadow version 0 and not dirty (R147). -/
def adoptionRecords (d : DeskRepl) : List Nat :=
  (List.range recordCount).filter fun r =>
    (d.shadow[r]?.map Shadow.version).getD 0 == 0 && !isDirty d r

/-- The adoption begins (R147); an empty set ends it at once (R151). -/
def beginAdoption (s : State) : State :=
  let members := (adoptionRecords s.desk).map fun r => ({ record := r, pulled := none } : Adoptee)
  let t := s.setDesk { s.desk with adoption := members, adopted := 0 }
  if members.isEmpty then adoptDone t else t

/-- The decision's table (R146). -/
def rejoinChoice (farFresh : Bool) (binding : Binding) (policy : Policy) : Decision :=
  match farFresh, binding, policy with
  | true, _, _ => .fullReplay
  | false, .unbound, .adopt => .adoption
  | false, .unbound, .impose => .fullReplay
  | false, .bound, _ => .resume

/-- The rejoin decision at an entry into LINKED from CONNECTING (R146). -/
def rejoin (s : State) : State :=
  let choice := rejoinChoice s.link.farFresh s.desk.binding s.regs.ctrl.policy
  let t := s.setDesk { s.desk with binding := .bound, decision := choice }
  match choice with
  | .fullReplay => markReplay t
  | .adoption => beginAdoption t
  | .resume | .none => t

/-! ## The stage side (R155 to R158) -/

/-- The reply queue takes up to 16 replies; a further one is not taken (R107). -/
def enqueueReply (r : Reply) (s : State) : State :=
  if s.sched.replies.length < 16 then s.setSched { s.sched with replies := s.sched.replies ++ [r] } else s

/-- The apply of an admitted PUSH (R157): clamp, live record, stored version, FRESH, the blocks of its kind, the ACK.
The other kinds are read by the Mix Engine and the Link Supervisor as they stand (R39, R43, R50, R71). -/
def applyPush (record : Nat) (v : Word) (contents : List Byte) (s : State) : State :=
  let old := liveContents s record
  let new := clampContents record contents
  let s := s.setStage
    { live := s.stage.live.set record { contents := new, version := v, stamp := s.superframe }, fresh := false }
  let s := if recordKind record = .channel then applyChannelRecord record old new s else s
  enqueueReply (.ack record v) s

/-- PUSH_RECEIVED (R156, R157): acted on while LINKED, for an ID that exists. The drop in
CONNECTING is R156's own; that R52's record pushed in CONNECTING is the one the desk pushes again (R143, R145) is
DEDUCED (log 28). -/
def receivePush (record : Nat) (v : Word) (contents : List Byte) (s : State) : State :=
  if s.role = .stage ∧ s.link.state = .linked ∧ record < recordCount then applyPush record v contents s else s

/-- PULL_RECEIVED (R156, R158): acted on while LINKED, for an ID that exists. -/
def receivePull (record : Nat) (s : State) : State :=
  if s.role = .stage ∧ s.link.state = .linked ∧ record < recordCount then enqueueReply (.report record) s else s

/-! ## The meanings -/

/-- IN_FLIGHT_TIMEOUT (R143). -/
def execInFlightTimeout (s : State) : Host.Outcome State Fault Refusal := .next (inFlightTimeout s)

/-- PULL_TIMEOUT (R148). -/
def execPullTimeout (record : Fin 226) (s : State) : Host.Outcome State Fault Refusal :=
  .next (pullTimeout record.val s)

end Sys2Proof.Machine
end

