-- ==== Sys2Proof/Machine/Talk.lean ====
section
/-! DEFINITION. Talkback (chapter 4): the desk talk sources with their timers and the arbiter, the stage talk
button, stage talk as the desk sees it, and the meanings of their expiries. -/

namespace Sys2Proof.Machine

/-! ## The arbiter (R57, R63, R64) -/

/-- The record of a source. -/
def talkRecord (s : State) : TalkSource → TalkRecord
  | .a => s.arbiter.a
  | .b => s.arbiter.b

/-- `s` with the record of a source replaced. -/
def setTalkRecord (src : TalkSource) (r : TalkRecord) (s : State) : State :=
  match src with
  | .a => s.setArbiter { s.arbiter with a := r }
  | .b => s.setArbiter { s.arbiter with b := r }

/-- A source whose state is not OFF is pressed (R57). -/
def isPressed (r : TalkRecord) : Bool := r.state != .off

/-- The carried source (R63): A when A is pressed, else B when B is pressed, else none. -/
def carriedOf (a b : TalkRecord) : Option TalkSource :=
  if isPressed a then some .a else if isPressed b then some .b else none

/-- Deciding the carried source again (R63), and the events of R64. -/
def decideCarried (s : State) : State :=
  let before := s.arbiter.carried
  let after := carriedOf s.arbiter.a s.arbiter.b
  let t := s.setArbiter { s.arbiter with carried := after }
  match before, after with
  | some .b, some .a => setNotice .talk (writeEvent .talkPreempted 1 0 t)
  | some .a, some .b => setNotice .talk (writeEvent .talkResumed 1 0 t)
  | _, _ => t

/-- The record after a press (R58): mode 1 is momentary, any other valid mode is latched. -/
def pressedRecord (now : Word) (latched : Bool) (mask : Half) (limit : Byte) : TalkRecord :=
  if latched then
    { state := .latched, mask := mask, limit := limit, renewTimer := none,
      limitTimer := if limit = 0 then none else some (now + BitVec.ofNat 32 (1000 * limit.toNat)) }
  else
    { state := .momentary, mask := mask, limit := limit, limitTimer := none, renewTimer := some (now + 500#32) }

/-- A valid TALK_PRESS (R58). -/
def pressTalk (src : TalkSource) (latched : Bool) (mask : Half) (limit : Byte) (s : State) : State :=
  decideCarried (setTalkRecord src (pressedRecord s.superframe latched mask limit) s)

/-- A source let go: OFF with both timers stopped; mask and limit are kept (R59). -/
def releasedRecord (r : TalkRecord) : TalkRecord :=
  { r with state := .off, limitTimer := none, renewTimer := none }

/-- A valid TALK_RELEASE (R59). An OFF source stays as it is. -/
def releaseTalk (src : TalkSource) (s : State) : State :=
  decideCarried
    (if isPressed (talkRecord s src) then setTalkRecord src (releasedRecord (talkRecord s src)) s else s)

/-- An expiry of a source's timer (R60, R61): OFF, TALK_TIMEOUT with the cause, the TALK notice, a new decision. -/
def timeoutTalk (src : TalkSource) (cause : Word) (s : State) : State :=
  decideCarried
    (setNotice .talk
      (writeEvent .talkTimeout (sourceNumber src) cause (setTalkRecord src (releasedRecord (talkRecord s src)) s)))

/-- Whether a timer that may be stopped has reached its expiry. -/
def timerDue (now : Word) : Option Word → Bool
  | some e => reached now e
  | none => false

/-- TALK_RENEW_EXPIRY (R60), taken where the source is MOMENTARY and its renew timer has expired. -/
def renewExpiry (src : TalkSource) (s : State) : State :=
  if s.role = .desk ∧ (talkRecord s src).state = .momentary ∧
      timerDue s.superframe (talkRecord s src).renewTimer then timeoutTalk src 1 s
  else s

/-- TALK_LIMIT_EXPIRY (R61), taken where the source is LATCHED and its limit timer has expired. -/
def limitExpiry (src : TalkSource) (s : State) : State :=
  if s.role = .desk ∧ (talkRecord s src).state = .latched ∧
      timerDue s.superframe (talkRecord s src).limitTimer then timeoutTalk src 2 s
  else s

/-- The talk mask of the desk frame header: the carried source's, or 0 (R66). -/
def headerMask (s : State) : Half :=
  match s.arbiter.carried with
  | some src => (talkRecord s src).mask
  | none => 0

/-- The talk slot of the desk frame (R66, R91): source A stands in input slot 16, source B in slot 17. -/
def talkSlot (s : State) (slots : List Sample) : Int :=
  match s.arbiter.carried with
  | some .a => (slots.getD 16 0).toInt
  | some .b => (slots.getD 17 0).toInt
  | none => 0

/-! ## The stage talk button (R69, R70) -/

/-- A sample of the talk pin at a superframe boundary (R69, R70): at the present level the counter is 0 again; at the
other it counts, and the 20th in a row changes the debounced state, with the STAGE_TALK change bit and the LINK
notice. -/
def sampleButton (pinLow : Bool) (s : State) : State :=
  if s.role = .stage then
    if pinLow = s.button.pressed then s.setButton { s.button with pinLow := pinLow, counter := 0 }
    else if s.button.counter < 19 then
      s.setButton { s.button with pinLow := pinLow, counter := s.button.counter + 1 }
    else setChange .stageTalk (s.setButton { pinLow := pinLow, pressed := pinLow, counter := 0 })
  else s

/-! ## Stage talk as the desk sees it (R72, R73) -/

/-- The stage-talk bit of a delivered stage header, compared while LINKED (R72). -/
def compareStageTalk (talk : Bool) (s : State) : State :=
  if s.role = .desk ∧ s.link.state = .linked ∧ talk ≠ s.talkSeen then
    writeEvent .stageTalk 0 (if talk then 1 else 0) (setNotice .talk (setChange .stageTalk (s.setTalkSeen talk)))
  else s

/-- Leaving LINKED at the desk (R73): a set bit falls to 0 with its notices and no event. -/
def dropStageTalk (s : State) : State :=
  if s.talkSeen then setNotice .talk (setChange .stageTalk (s.setTalkSeen false)) else s

/-! ## The meanings -/

/-- TALK_RENEW_EXPIRY (R60). -/
def execTalkRenewExpiry (source : TalkSource) (s : State) : Host.Outcome State Fault Refusal :=
  .next (renewExpiry source s)

/-- TALK_LIMIT_EXPIRY (R61). -/
def execTalkLimitExpiry (source : TalkSource) (s : State) : Host.Outcome State Fault Refusal :=
  .next (limitExpiry source s)

end Sys2Proof.Machine
end

