-- ==== Sys2Proof/Machine/Board.lean ====
section
/-! DEFINITION. The request board (sections 9.2 and 9.3): what a posted entry asks for, how it is judged, how a scan
takes it, and the meanings of BOARD_SCAN and of the five requests. -/

namespace Sys2Proof.Machine

/-! ## Requests (R165, R166, 11.5) -/

/-- A valid request. -/
inductive Request where
  | setRecord (record : Nat) (contents : List Byte)
  | setField (record : Nat) (index : Nat) (value : Byte)
  | talkPress (source : TalkSource) (latched : Bool) (mask : Half) (limit : Byte)
  | talkRelease (source : TalkSource)
  | replayAll
  deriving DecidableEq, Repr

/-- The kinds of request (11.5). -/
inductive RequestKind where
  | setRecord | setField | talkPress | talkRelease | replayAll
  deriving DecidableEq, Repr

/-- The kind of a request. -/
def requestKind : Request → RequestKind
  | .setRecord _ _ => .setRecord
  | .setField _ _ _ => .setField
  | .talkPress _ _ _ _ => .talkPress
  | .talkRelease _ => .talkRelease
  | .replayAll => .replayAll

/-- The outcome of the validation: a refusal with its result, or a valid request. -/
inductive Verdict where
  | refuse (result : EntryResult)
  | valid (request : Request)
  deriving DecidableEq, Repr

/-- Argument byte `k` of an entry: byte k mod 4 of word 2 + k div 4 (11.5). -/
def argumentByte (s : State) (i k : Nat) : Byte := wordByte (scanWord s i (2 + k / 4)) (k % 4)

/-- The 16 argument bytes of an entry. -/
def argumentBytes (s : State) (i : Nat) : List Byte := (List.range 16).map (argumentByte s i)

/-- The target field of word 1. -/
def entryTarget (s : State) (i : Nat) : Nat := ((scanWord s i 1).extractLsb' 0 16).toNat

/-- The deadline byte of word 1 (R170). -/
def entryDeadline (s : State) (i : Nat) : Byte := (scanWord s i 1).extractLsb' 16 8

/-- The talk source of a target number (R57). -/
def sourceOf (target : Nat) : Option TalkSource :=
  match target with
  | 0 => some .a
  | 1 => some .b
  | _ => none

/-- The validation of a posted entry, in the order of R166: kind, target, arguments. -/
def judgeEntry (s : State) (i : Nat) : Verdict :=
  let target := entryTarget s i
  match (wordKind (scanWord s i 0)).toNat with
  | 1 =>
    if target < recordCount then .valid (.setRecord target (argumentBytes s i)) else .refuse .refusedTarget
  | 2 =>
    if target < recordCount then
      if (argumentByte s i 0).toNat < fieldCount (recordKind target) then
        .valid (.setField target (argumentByte s i 0).toNat (argumentByte s i 1))
      else .refuse .refusedArgument
    else .refuse .refusedTarget
  | 3 =>
    match sourceOf target with
    | none => .refuse .refusedTarget
    | some src =>
      let mask := argumentByte s i 2 ++ argumentByte s i 1
      match (argumentByte s i 0).toNat with
      | 1 => .valid (.talkPress src false mask (argumentByte s i 3))
      | 2 => .valid (.talkPress src true mask (argumentByte s i 3))
      | _ => .refuse .refusedArgument
  | 4 =>
    match sourceOf target with
    | none => .refuse .refusedTarget
    | some src => .valid (.talkRelease src)
  | 5 => .valid .replayAll
  | _ => .refuse .refusedKind

/-! ## Taking an entry (R165, R167, R168) -/

/-- The scan takes an entry whose state reads POSTED and for which the scanner holds no accepted record (R165, R172).
Once the scan has read word 0 (`readAt`) the answer stands: only the scan's own taking of the entry makes an accepted
record. -/
def isTakeable (s : State) (i : Nat) : Bool :=
  wordState (scanWord s i 0) == 1 && (acceptedAt s i).isNone

/-- An edit accepted (R167): the edit, the entry's write as ACCEPTED, and its accepted record. -/
def acceptEdit (i record : Nat) (requested : List Byte) (s : State) : State :=
  let kind := wordKind (scanWord s i 0)
  let tag := wordTag (scanWord s i 0)
  let clamped := isClamped record requested
  let a : Accepted :=
    { record := record, kind := kind, tag := tag, clamped := clamped,
      expiry := s.superframe + BitVec.ofNat 32 (deadlineBoundaries (entryDeadline s i)) }
  setAccepted i (some a) (writeEntry i .accepted .none clamped kind tag (editRecord record requested s))

/-- An entry finished at its scan (R166, R168): written with its state and result, and the BOARD notice set. `w0` is
word 0 as the scan read it. -/
def finishEntry (i : Nat) (state : EntryState) (result : EntryResult) (w0 : Word) (s : State) : State :=
  setNotice .board (writeEntry i state result false (wordKind w0) (wordTag w0) s)

/-- Carrying out a valid request at the scan that takes it (R167, R168). -/
def carryOut (i : Nat) (r : Request) (s : State) : State :=
  match r with
  | .setRecord record contents => acceptEdit i record contents s
  | .setField record index value =>
    acceptEdit i record ((shadowContents s record).set index value) s
  | .talkPress src latched mask limit =>
    finishEntry i .done .done (scanWord s i 0) (pressTalk src latched mask limit s)
  | .talkRelease src => finishEntry i .done .done (scanWord s i 0) (releaseTalk src s)
  | .replayAll => finishEntry i .done .done (scanWord s i 0) (markReplay s)

/-- The scan at one entry (R165): passed over, refused, carried out or accepted, in one event. -/
def takeEntry (i : Nat) (s : State) : State :=
  if isTakeable s i then
    match judgeEntry s i with
    | .refuse result => finishEntry i .refused result (scanWord s i 0) s
    | .valid r => carryOut i r s
  else s

/-! ## The scan (R164, R165) -/

/-- The scan period in force (R177). -/
def scanPeriodNow (s : State) : Nat := codeValue s.regs.ctrl.period

/-- The scan timer at a superframe boundary (R164): when the count reaches the period, a scan begins. That the scan
count rises here, as the scan begins, and not as it ends, is a DESIGN CHOICE (log 27). -/
def countScan (s : State) : State :=
  if s.role = .desk ∧ s.regs.ctrl.run then
    if scanPeriodNow s ≤ s.scanner.timer + 1 then
      s.setScanner { s.scanner with timer := 0, pos := some 0, reads := [], count := satSucc s.scanner.count }
    else s.setScanner { s.scanner with timer := s.scanner.timer + 1 }
  else s

/-- The entries the scan in progress has yet to pass, from its position up to `stop`. -/
def entriesTo (s : State) (stop : Nat) : List Nat :=
  match s.scanner.pos with
  | some k => List.range' k (stop - k)
  | none => []

/-- The scan in progress takes the entries up to `stop` in ascending index and stands at `next` (R165). -/
def scanTo (stop : Nat) (next : Option Nat) (s : State) : State :=
  let t := forEach takeEntry (entriesTo s stop) s
  t.setScanner { t.scanner with pos := next, reads := [] }

/-- BOARD_SCAN (R165): the scan in progress takes the rest of the entries and ends. A desk step (R164). -/
def finishScan (s : State) : State :=
  match s.role with
  | .desk => scanTo 32 none s
  | .stage => s

/-- Whether an entry the scan meets would be refused, or passed over. -/
def notCarriedOut (s : State) (i : Nat) : Bool :=
  !isTakeable s i ||
    match judgeEntry s i with
    | .refuse _ => true
    | .valid _ => false

/-- Whether the scan in progress comes to entry `i` next, carrying out nothing before it, and finds there a valid
request of a kind (R165). -/
def scanMeets (s : State) (i : Nat) (kind : RequestKind) : Bool :=
  s.role == .desk &&
  (match s.scanner.pos with
    | some k => decide (k ≤ i)
    | none => false) &&
  (entriesTo s i).all (notCarriedOut s) && isTakeable s i &&
    match judgeEntry s i with
    | .valid r => requestKind r == kind
    | .refuse _ => false

/-- Where a scan stands after entry `i`; after the last it has ended. -/
def afterEntry (i : Nat) : Option Nat := if i + 1 < 32 then some (i + 1) else none

/-- One request's step of the scan in progress: the entries before it are passed over or refused, this one is carried
out, and the scan stands after it. -/
def scanStep (i : Nat) (kind : RequestKind) (s : State) : State :=
  if scanMeets s i kind then scanTo (i + 1) (afterEntry i) s else s

/-! ## A host write that falls together with the scan's reads of an entry (R171) -/

/-- The scan's reading of a word, once. -/
def readOnce (s : State) (i k : Nat) (reads : List (Nat × Word)) : List (Nat × Word) :=
  match reads.lookup k with
  | some _ => reads
  | none => reads ++ [(k, entryWord s i k)]

/-- The scan at its own entry `i` reads word 0 and, where it does not pass the entry over, word `k`. Whether the entry
is POSTED and held is settled at the read of word 0 (R165, R172): an entry that is passed over then stays passed over.
-/
def readAt (i k : Nat) (s : State) : State :=
  if isTakeable s i then
    s.setScanner { s.scanner with reads := readOnce s i k (readOnce s i 0 s.scanner.reads) }
  else s.setScanner { s.scanner with pos := afterEntry i, reads := [] }

/-- The scan comes to entry `i`, taking the entries before it, and reads there; word 0 is the first it reads (R165).
Where no scan in progress has entry `i` before it, there is nothing to read. -/
def readFirst (i k : Nat) (s : State) : State :=
  match s.scanner.pos with
  | some n => if n ≤ i then readAt i k (if n = i then s else scanTo i (some i) s) else s
  | none => s

/-! ## The meanings -/

/-- BOARD_SCAN (R165). -/
def execBoardScan (s : State) : Host.Outcome State Fault Refusal := .next (finishScan s)

/-- SET_RECORD (R137, R167). -/
def execSetRecord (entry : Fin 32) (s : State) : Host.Outcome State Fault Refusal :=
  .next (scanStep entry.val .setRecord s)

/-- SET_FIELD (R137, R167). -/
def execSetField (entry : Fin 32) (s : State) : Host.Outcome State Fault Refusal :=
  .next (scanStep entry.val .setField s)

/-- TALK_PRESS (R58, R168). -/
def execTalkPress (entry : Fin 32) (s : State) : Host.Outcome State Fault Refusal :=
  .next (scanStep entry.val .talkPress s)

/-- TALK_RELEASE (R59, R168). -/
def execTalkRelease (entry : Fin 32) (s : State) : Host.Outcome State Fault Refusal :=
  .next (scanStep entry.val .talkRelease s)

/-- REPLAY_ALL (R168). -/
def execReplayAll (entry : Fin 32) (s : State) : Host.Outcome State Fault Refusal :=
  .next (scanStep entry.val .replayAll s)

end Sys2Proof.Machine
end

