-- ==== Sys2Proof/Machine/Meters.lean ====
section
/-! DEFINITION. Metering (chapter 5): the stage collector's take and the desk writer. -/

namespace Sys2Proof.Machine

/-! ## The collector (R75 to R80) -/

/-- The peak and clip latch of meter i: input i below 96, mix i − 96 from there (R75). -/
def meterAt (s : State) (i : Nat) : Nat × Bool :=
  if i < 96 then ((channelAt s i).peak, (channelAt s i).clip)
  else
    match s.mixes[i - 96]? with
    | some x => (x.peak, x.clip)
    | none => (0, false)

/-- Clearing meter i (R75). -/
def clearMeter (i : Nat) (s : State) : State :=
  if i < 96 then setChannel i { channelAt s i with peak := 0, clip := false } s
  else
    match s.mixes[i - 96]? with
    | some x => s.setMixes (s.mixes.set (i - 96) { x with peak := 0, clip := false })
    | none => s

/-- The number of meters in the group at the cursor (R76). -/
def groupCount (cursor : Nat) : Nat := min 16 (112 - cursor)

/-- The indices of the group at the cursor. -/
def groupIndices (cursor : Nat) : List Nat := List.range' cursor (groupCount cursor)

/-- The meter words of the group at the cursor (R77). -/
def groupWords (s : State) : List Word :=
  (groupIndices s.meters.cursor).map fun i =>
    meterWord (meterAt s i).1 (meterAt s i).2 s.meters.mark

/-- The payload of a METER message (R77): mark, first index, count, words. -/
def meterPayload (s : State) : List Byte :=
  [BitVec.ofNat 8 s.meters.mark, BitVec.ofNat 8 s.meters.cursor, BitVec.ofNat 8 (groupCount s.meters.cursor)] ++
    (groupWords s).flatMap be32

/-- Writing words into a table from an index on, in ascending index. -/
def writeWords : List Word → Nat → List Word → List Word
  | table, _, [] => table
  | table, i, w :: ws => writeWords (table.set i w) (i + 1) ws

/-- The collector's part of a take (R77, R80): the mirror is written, the meters cleared, cursor and mark moved;
the take that wraps sets the METER notice. -/
def takeMeters (s : State) : State :=
  let cursor := s.meters.cursor
  let next := cursor + groupCount cursor
  let wrap := decide (112 ≤ next)
  let t := forEach clearMeter (groupIndices cursor) s
  noticeIf wrap .meter
    (t.setMeters { t.meters with
      table := writeWords s.meters.table cursor (groupWords s),
      cursor := if wrap then 0 else next,
      mark := if wrap then (s.meters.mark + 1) % 128 else s.meters.mark })

/-! ## The desk writer (R82 to R87) -/

/-- The consistency test of a METER payload (R82). -/
def meterConsistent (p : List Byte) : Bool :=
  let first := (byteAt p 1).toNat
  let count := (byteAt p 2).toNat
  decide (3 ≤ p.length) && decide (first ≤ 111) && decide (1 ≤ count) && decide (count ≤ 16) &&
    decide (first + count ≤ 112) && decide (p.length = 3 + 4 * count)

/-- The words of a METER payload (R82). -/
def payloadWords (p : List Byte) : List Word :=
  (List.range (byteAt p 2).toNat).map fun j => word32At p (3 + 4 * j)

/-- Merging a word into a pending entry (R84). -/
def mergeWord (entry : Option Word) (w : Word) : Word :=
  match entry with
  | none => w
  | some e => meterWord (max (meterPeak e) (meterPeak w)) (meterClip e || meterClip w) (meterMark w)

/-- Merging words into the pending store from an index on, in ascending index (R84). -/
def mergeWords : List (Option Word) → Nat → List Word → List (Option Word)
  | store, _, [] => store
  | store, i, w :: ws => mergeWords (store.set i (some (mergeWord (store.getD i none) w))) (i + 1) ws

/-- The table after the present pending entries are written to it (R85). -/
def releaseWords : List Word → List (Option Word) → List Word
  | [], _ => []
  | t :: ts, [] => t :: ts
  | t :: ts, e :: es => e.getD t :: releaseWords ts es

/-- The meter cadence in force (R177). -/
def meterCadence (s : State) : Nat := codeValue s.regs.ctrl.cadence

/-- The comparison of the counter with the cadence (R86, R87): reached, the METER notice is set and the counter
becomes 0. -/
def compareCadence (s : State) : State :=
  if meterCadence s ≤ s.meters.sweeps then setNotice .meter (s.setMeters { s.meters with sweeps := 0 }) else s

/-- A completed sweep at the desk (R86): the counter rises, saturating at 255, and is compared unless the hold is
set. -/
def completeSweep (s : State) : State :=
  let t := s.setMeters { s.meters with sweeps := min 255 (s.meters.sweeps + 1) }
  if t.regs.ctrl.hold then t else compareCadence t

/-- A METER message at the Meter Writer (R82 to R86). -/
def writeMeters (p : List Byte) (s : State) : State :=
  let first := (byteAt p 1).toNat
  let words := payloadWords p
  if s.role = .desk ∧ meterConsistent p then
    let t :=
      if s.regs.ctrl.hold then s.setMeters { s.meters with store := mergeWords s.meters.store first words }
      else s.setMeters { s.meters with table := writeWords s.meters.table first words }
    if first + (byteAt p 2).toNat = 112 then completeSweep t else t
  else s

/-- Releasing the hold (R85, R87). -/
def releaseHold (s : State) : State :=
  compareCadence
    (s.setMeters { s.meters with
      table := releaseWords s.meters.table s.meters.store,
      store := List.replicate s.meters.store.length none })

end Sys2Proof.Machine
end

