-- ==== Sys2Proof/Machine/Control.lean ====
section
/-! DEFINITION. The control channel (sections 6.3 and 6.4): the receiver and the schedulers, and the meanings of the
commands that begin a message. -/

namespace Sys2Proof.Machine

/-! ## The receiver (R102, R103) -/

/-- Whether the check held at the end of the bytes is the check of the bytes before it (R103). -/
def checkGood (held : List Byte) : Bool :=
  crc16 (held.take (held.length - 2)) == half16At held (held.length - 2)

/-- The message a full run of held bytes is (R103): type, and payload between the length byte and the check. -/
def heldMessage (t : MsgType) (held : List Byte) : Msg :=
  { type := t, payload := (held.drop 2).take (held.length - 4) }

/-- The receiver over a run of bytes (R102, R103). `held` is what it holds, `queue` the bytes to take next: a rejected
length byte is taken again, and so are the held bytes after the header of a message with a bad check. The first
argument bounds the number of takings; `receiveFuel` is never used up. -/
def receiveLoop : Nat → List Byte → List Byte → List Byte × List Msg
  | 0, held, _ => (held, [])
  | _ + 1, held, [] => (held, [])
  | fuel + 1, held, b :: rest =>
    match held with
    | [] => if (MsgType.ofHeader b).isSome then receiveLoop fuel [b] rest else receiveLoop fuel [] rest
    | h :: body =>
      match MsgType.ofHeader h, body with
      | none, _ => receiveLoop fuel [] (body ++ b :: rest)
      | some t, [] =>
        if b.toNat ≤ t.maxPayload then receiveLoop fuel [h, b] rest else receiveLoop fuel [] (b :: rest)
      | some t, len :: _ =>
        let all := held ++ [b]
        if all.length < len.toNat + 4 then receiveLoop fuel all rest
        else if checkGood all then
          let r := receiveLoop fuel [] rest
          (r.1, heldMessage t all :: r.2)
        else receiveLoop fuel [] (all.drop 1 ++ rest)

/-- Enough takings for any run: each rejection drops a byte for good, and between two of them every byte is taken at
most once. -/
def receiveFuel (held queue : List Byte) : Nat :=
  (held.length + queue.length + 1) * (held.length + queue.length + 1)

/-- The receiver takes the control bytes of a delivered frame, and hands on what R104 hands on. -/
def receiveBytes (bytes : List Byte) (s : State) : State :=
  let r := receiveLoop (receiveFuel s.receiver.held bytes) s.receiver.held bytes
  s.setReceiver { held := r.1, inbox := s.receiver.inbox ++ r.2.filter (handedOn s.role) }

/-- A concealed frame: the receiver drops every held byte (R104). -/
def dropHeld (s : State) : State := s.setReceiver { s.receiver with held := [] }

/-! ## What a scheduler may begin (R106, R109) -/

/-- What a scheduler picks. `reply` is the head of the stage reply queue. -/
inductive Pick where
  | hello | reply | note | status | meter | pull (record : Nat) | push (record : Nat)
  deriving DecidableEq, Repr

/-- The stage scheduler's choice, first eligible first (R106). -/
def pickStage (s : State) : Option Pick :=
  if s.sched.helloDue then some .hello
  else if (s.link.state = .connecting ∨ s.link.state = .linked) ∧ s.sched.replies ≠ [] then some .reply
  else if s.link.state = .linked ∧ s.sched.noteCursor.toNat < s.ring.written.toNat then some .note
  else if s.link.state = .linked ∧ s.sched.statusDue then some .status
  else if s.link.state = .linked ∧ s.sched.meterCount < 2 then some .meter
  else none

/-- The desk scheduler's choice, first eligible first (R109). -/
def pickDesk (s : State) : Option Pick :=
  if s.sched.helloDue then some .hello
  else if s.link.state = .linked then
    match (if pullsOutstanding s.desk < 8 then pullCandidate s.desk else none) with
    | some r => some (.pull r)
    | none => (if s.desk.inFlight.length < 8 then pushCandidate s.desk else none).map Pick.push
  else none

/-- The scheduler's choice at this moment (R105). -/
def pick (s : State) : Option Pick :=
  match s.role with
  | .desk => pickDesk s
  | .stage => pickStage s

/-! ## Beginning a message (R105): the whole message is fixed at once -/

/-- The message in progress. -/
def send (t : MsgType) (payload : List Byte) (s : State) : State :=
  s.setSched { s.sched with sending := messageBytes t payload }

/-- A Bool as a payload byte. -/
def boolByte (b : Bool) : Byte := if b then 1 else 0

/-- The payload of a HELLO (R123, 11.4): role, heard, and a stage's FRESH. -/
def helloPayload (s : State) : List Byte :=
  [(roleCode s.role).setWidth 8, boolByte s.link.heard, boolByte (s.role == .stage && s.stage.fresh)]

/-- HELLO_BEGIN (R106, R109, R123). -/
def beginHello (s : State) : State :=
  let t := send .hello (helloPayload s) s
  (t.setSched { t.sched with helloDue := false }).setLink { s.link with helloAge := 0 }

/-- The payload of a PUSH: ID, version, contents (11.4). -/
def pushPayload (s : State) (record : Nat) : List Byte :=
  be16 (BitVec.ofNat 16 record) ++ be32 (shadowAt s record).version ++ shadowContents s record

/-- The type and payload of a reply; a REPORT reads the live record now (R107). -/
def replyMessage (s : State) : Reply → MsgType × List Byte
  | .ack record v => (.ack, be16 (BitVec.ofNat 16 record) ++ be32 v)
  | .report record =>
    (.report, be16 (BitVec.ofNat 16 record) ++
      be32 (((s.stage.live[record]?).map Live.version).getD 0) ++ liveContents s record)

/-- REPLY_BEGIN (R107): the head of the reply queue. -/
def beginReply (s : State) : State :=
  match s.sched.replies with
  | r :: rest =>
    let t := send (replyMessage s r).1 (replyMessage s r).2 s
    t.setSched { t.sched with replies := rest }
  | [] => s

/-- The payload of a NOTE: the event record as the stage holds it (R108, 11.4). -/
def notePayload (e : Event) : List Byte :=
  be32 e.sequence ++ be32 e.stamp ++ [e.type, e.origin] ++ be16 e.subject ++ be32 e.detail

/-- NOTE_BEGIN (R108). -/
def beginNote (s : State) : State :=
  let e := s.ring.records.getD (s.sched.noteCursor.toNat % 64) .initial
  let t := send .note (notePayload e) s
  t.setSched { t.sched with noteCursor := t.sched.noteCursor + 1 }

/-- The eight bytes of a STATUS payload (11.4): the island fields are the last island values (R50). -/
def statusPayload (s : State) : List Byte :=
  [clockCode s.clock.state, BitVec.ofInt 8 s.clock.trim, boolByte s.island.lastEngaged,
   BitVec.ofNat 8 s.island.lastElapsed, (portCode s.portA).setWidth 8, (portCode s.portB).setWidth 8,
   (activeCode s.selector.active).setWidth 8, (linkCode s.link.state).setWidth 8]

/-- STATUS_BEGIN (R106, R176). -/
def beginStatus (s : State) : State :=
  let t := send .status (statusPayload s) s
  (t.setSched { t.sched with statusDue := false }).setStatus
    { s.status with statusCount := satSucc s.status.statusCount }

/-- METER_TAKE (R77, R106). -/
def beginMeter (s : State) : State :=
  let t := takeMeters s
  t.setSched { t.sched with
    sending := messageBytes .meter (meterPayload s), meterCount := t.sched.meterCount + 1 }

/-- PUSH_BEGIN (R109, R140). -/
def beginPushMessage (record : Nat) (s : State) : State := beginPush record (send .push (pushPayload s record) s)

/-- PULL_BEGIN (R109, R148). -/
def beginPullMessage (record : Nat) (s : State) : State :=
  beginPull record (send .pull (be16 (BitVec.ofNat 16 record)) s)

/-- Beginning what the scheduler picked (R105). -/
def beginPick (k : Pick) (s : State) : State :=
  match k with
  | .hello => beginHello s
  | .reply => beginReply s
  | .note => beginNote s
  | .status => beginStatus s
  | .meter => beginMeter s
  | .pull record => beginPullMessage record s
  | .push record => beginPushMessage record s

/-! ## Handing over the control bytes (R105) -/

/-- The scheduler's pick at a byte position: with no message in progress, the first eligible message begins. -/
def pickNow (s : State) : State :=
  match s.sched.sending, pick s with
  | [], some k => beginPick k s
  | _, _ => s

/-- The byte handed over at a position: the next byte of the message in progress, or the fill byte 0x00. -/
def handByte (s : State) : State × Byte :=
  let s := pickNow s
  match s.sched.sending with
  | b :: rest => (s.setSched { s.sched with sending := rest }, b)
  | [] => (s, 0)

/-- The control bytes of some positions, in order. -/
def handBytes : Nat → State → State × List Byte
  | 0, s => (s, [])
  | n + 1, s =>
    let r := handByte s
    let q := handBytes n r.1
    (q.1, r.2 :: q.2)

/-! ## The meanings: a message begun between two frames is the pick at the next byte position -/

/-- Whether the scheduler would begin `k` now: no message in progress and `k` its pick (R105). Such a pick is made in
the superframe that stands, before a boundary that is due: a METER begun there counts in that superframe, and what the
boundary makes due is not yet picked. DESIGN CHOICE (log 29). -/
def mayBegin (k : Pick) (s : State) : Bool := s.sched.sending.isEmpty && pick s == some k

/-- HELLO_BEGIN (R106, R109, R123). -/
def execHelloBegin (s : State) : Host.Outcome State Fault Refusal :=
  .next (if mayBegin .hello s then beginHello s else s)

/-- PUSH_BEGIN (R140). -/
def execPushBegin (s : State) : Host.Outcome State Fault Refusal :=
  match pick s with
  | some (.push record) => .next (if mayBegin (.push record) s then beginPushMessage record s else s)
  | _ => .next s

/-- PULL_BEGIN (R148). -/
def execPullBegin (s : State) : Host.Outcome State Fault Refusal :=
  match pick s with
  | some (.pull record) => .next (if mayBegin (.pull record) s then beginPullMessage record s else s)
  | _ => .next s

/-- REPLY_BEGIN (R107). -/
def execReplyBegin (s : State) : Host.Outcome State Fault Refusal :=
  .next (if mayBegin .reply s then beginReply s else s)

/-- NOTE_BEGIN (R108). -/
def execNoteBegin (s : State) : Host.Outcome State Fault Refusal :=
  .next (if mayBegin .note s then beginNote s else s)

/-- STATUS_BEGIN (R106). -/
def execStatusBegin (s : State) : Host.Outcome State Fault Refusal :=
  .next (if mayBegin .status s then beginStatus s else s)

/-- METER_TAKE (R77). -/
def execMeterTake (s : State) : Host.Outcome State Fault Refusal :=
  .next (if mayBegin .meter s then beginMeter s else s)

end Sys2Proof.Machine
end

