-- ==== Sys2Proof/Machine/Clocks.lean ====
section
/-! DEFINITION. The stage Clock Trim Unit (section 7.4): clock states, frame lengths, realignment, trim periods, and the
meaning of TRIM_PERIOD_END. In DESK role the unit stays FREE with trim 0 (R129). -/

namespace Sys2Proof.Machine

/-- The number of local frames of a trim period and of a holdover run (R132, R133). -/
abbrev trimFrames : Nat := 4096

/-- The error over a trim period, d = C − 2,097,152 (R132). -/
def trimError (cycles : Nat) : Int := (cycles : Int) - 2097152

/-- The trim range (R132). -/
def clampTrim (d : Int) : Int := saturate (-64) 63 d

/-- TRIM_PERIOD_END (R132), taken where 4,096 measured frames have run: trim is set from the error, CLOCK_RANGE is
written where the error is out of range, and both counts start again from 0. -/
def endTrimPeriod (s : State) : State :=
  if s.role = .stage ∧ trimFrames ≤ s.clock.measFrames then
    let d := trimError s.clock.measCycles
    let s := s.setClock { s.clock with trim := clampTrim d, measFrames := 0, measCycles := 0 }
    if clampTrim d = d then s else writeEvent .clockRange 0 (BitVec.ofInt 32 d) s
  else s

/-- Entering LOCKED from another clock state (R129): a realignment is pending. -/
def enterLocked (s : State) : State :=
  if s.clock.state = .locked then s
  else s.setClock { s.clock with state := .locked, realignPending := true }

/-- Leaving LOCKED for HOLDOVER (R129): the flag is cleared, the trim period in progress is discarded, the run starts
at 0, and no arrival is measured from any more; the measured period stays (log 7). A period that has run its 4,096
frames is ended first: it was completed in LOCKED (R132). The frame in progress keeps the length it began with, and
run position 0 is that of the next frame to begin: DESIGN CHOICE (log 24). -/
def enterHoldover (s : State) : State :=
  let s := endTrimPeriod s
  s.setClock { s.clock with
    state := .holdover, realignPending := false, measFrames := 0, measCycles := 0, runPos := 0,
    lastArrival := none }

/-- The clock at a stage link state change (R129). -/
def clockOnLink (old new : LinkState) (s : State) : State :=
  match new with
  | .connecting | .linked => enterLocked s
  | .bridging | .lost => if old = .connecting ∨ old = .linked then enterHoldover s else s
  | .down => s

/-- The frame in progress ends after a whole number of cycles. -/
def fixedFrame (cycles : Nat) (c : Clock) : Clock := { c with frameLen := cycles, ideal := cycles }

/-- The frame in progress ends at the first cycle at or after its ideal end (R130). -/
def idealFrame (ideal : Rat) (c : Clock) : Clock := { c with frameLen := ideal.ceil.toNat, ideal := ideal }

/-- The realignment to a desk frame that completes when the local frame in progress has run `phase` cycles (R131): below
256 the frame in progress runs one period from the arrival, from 256 on it ends there. The first trim period begins. -/
def realign (phase : Nat) (c : Clock) : Clock :=
  let c := { c with realignPending := false, measFrames := 0, measCycles := 0 }
  if phase = 0 then idealFrame c.period { c with cut := .whole }
  else if phase < 256 then idealFrame c.period { c with cut := .repeated phase }
  else fixedFrame phase { c with cut := .skipped phase }

/-- The measurement of the desk frame period (R130), where the frame before this one in the desk's tags has arrived on
the same port: from the spacing of the two, by a free value (log 7). A missed frame, a switch of the active port or a
jump in the tags leaves the period as it was. -/
def measurePeriod (p : PortId) (tag : Nat) (phase : Nat) (c : Clock) : Clock :=
  match c.lastArrival with
  | some a =>
    if a.port = p ∧ tag = nextTag a.tag then
      { c with
        period := Config.measuredPeriod c.spacings c.period (phase - a.moment), spacings := c.spacings + 1 }
    else c
  | none => c

/-- A good desk frame completes on the active port of a LOCKED stage clock, when the local frame in progress has run
`phase` cycles: it realigns the clock where that is pending (R131), else it is measured (R130). A frame that the
realignment restarts has its start at the arrival. -/
def clockArrival (p : PortId) (tag phase : Nat) (s : State) : State :=
  if s.role = .stage ∧ s.clock.state = .locked then
    let moment := if s.clock.realignPending ∧ phase < 256 then 0 else phase
    let c := if s.clock.realignPending then realign phase s.clock else measurePeriod p tag phase s.clock
    s.setClock { c with lastArrival := some { port := p, tag := tag, moment := moment } }
  else s

/-- The length of a frame begun in HOLDOVER at a run position (R133). -/
def holdoverLength (trim : Int) (runPos : Nat) : Nat :=
  if runPos < trim.natAbs then (if 0 < trim then 513 else 511) else 512

/-- Whether the local frame that ends here belongs to the trim period: LOCKED, realigned, and not the frame that the
realignment itself cut short (R131, R132). -/
def isMeasured (c : Clock) : Bool :=
  match c.cut with
  | .skipped _ => false
  | .whole | .repeated _ => c.state == .locked && !c.realignPending

/-- An arrival's moment, from the start of the frame that begins when one of `cycles` ends. -/
def fromNextFrame (cycles : Nat) (a : Arrival) : Arrival := { a with moment := a.moment - cycles }

/-- The clock at a local frame (R130, R132, R133): the frame that ends is measured where it belongs to the trim
period, and the frame that begins takes its length. In LOCKED, from the realignment on, its ideal end is one period
after that of the frame before it, so the fraction of a cycle carries over. That the period is read as the frame begins
is a DESIGN CHOICE (log 7). -/
def clockFrame (c : Clock) : Clock :=
  let m := isMeasured c
  let c := { c with
    measFrames := if m then c.measFrames + 1 else c.measFrames,
    measCycles := if m then c.measCycles + c.frameLen else c.measCycles,
    lastArrival := c.lastArrival.map (fromNextFrame c.frameLen),
    cut := .whole }
  match c.state with
  | .free => fixedFrame 512 c
  | .locked =>
    if c.realignPending then fixedFrame 512 c else idealFrame (c.ideal - c.frameLen + c.period) c
  | .holdover =>
    fixedFrame (holdoverLength c.trim c.runPos) { c with runPos := (c.runPos + 1) % trimFrames }

/-- TRIM_PERIOD_END (R132). -/
def execTrimPeriodEnd (s : State) : Host.Outcome State Fault Refusal := .next (endTrimPeriod s)

end Sys2Proof.Machine
end

