-- ==== Sys2Proof/Machine/Mixes.lean ====
section
/-! DEFINITION. Monitor Mix Engine (chapter 3): the frame computation of the 16 mixes, and the island. A stage block
(R56). -/

namespace Sys2Proof.Machine

/-! ## What the engine reads (R38 to R41) -/

/-- The 112 send codes of a mix, from its seven SEND blocks (R39, section 3.2). -/
def sendCodes (s : State) (m : Nat) : List Byte :=
  (List.range 7).flatMap fun b => liveContents s (112 + 7 * m + b)

/-- The stage talk channel field of TALK ROUTE (R71). -/
def talkRouteChannel (s : State) : Nat := (liveByte s 224 0).toNat

/-- The stage talk mask of TALK ROUTE: the low byte covers mixes 0..7 (R41). -/
def talkRouteMask (s : State) : Half := liveByte s 224 2 ++ liveByte s 224 1

/-- The hold of the ISLAND record, in seconds (section 3.6). -/
def islandHold (s : State) : Nat := (liveByte s 225 0).toNat

/-- The island dim of the ISLAND record (section 3.6). -/
def islandDim (s : State) : Nat := (liveByte s 225 1).toNat

/-- The stage-talk sample T (R38): the post-gate sample of the channel TALK ROUTE names, 0 for channel 255. -/
def stageTalkSample (s : State) (postGate : List Int) : Int :=
  if talkRouteChannel s = 255 then 0 else postGate.getD (talkRouteChannel s) 0

/-- The target of the desk-talk gain of a mix (R41). -/
def deskTalkTarget (s : State) (m : Nat) : Int :=
  if s.deliverer.maskInUse.getLsbD m then levelGain (liveByte s (96 + m) 2).toNat else 0

/-- The target of the stage-talk gain of a mix (R41). -/
def stageTalkTarget (s : State) (m : Nat) : Int :=
  if s.button.pressed ∧ talkRouteChannel s ≠ 255 ∧ (talkRouteMask s).getLsbD m then
    levelGain (liveByte s (96 + m) 3).toNat
  else 0

/-- A mix is talk engaged when a target just given to its talk gains is nonzero (R42). -/
def talkEngaged (gd gt : Int) : Bool := gd != 0 || gt != 0

/-- The effective master code (R43). -/
def effectiveMaster (code dim : Nat) (engaged island : Bool) (islandDim : Nat) : Nat :=
  if code = 0 then 0
  else if island ∧ islandDim = 255 then 0
  else max 1 (code - (if engaged then dim else 0) - (if island then islandDim else 0))

/-- The effective master code of a mix as the engine computes it at the target step (R43). -/
def mixMasterCode (s : State) (m : Nat) : Nat :=
  effectiveMaster (liveByte s (96 + m) 0).toNat (liveByte s (96 + m) 1).toNat
    (talkEngaged (deskTalkTarget s m) (stageTalkTarget s m)) s.island.engaged (islandDim s)

/-! ## The frame computation (R37) -/

/-- Target step and advance of one ramped gain (R37, R44). -/
def rampFrame (t : Int) (g : Ramp) : Ramp := rampAdvance (rampTarget t g)

/-- Target step and advance of the sends, one code to each (R40, R44). -/
def sendsFrame : List Ramp → List Byte → List Ramp
  | [], _ => []
  | g :: gs, [] => rampFrame 0 g :: sendsFrame gs []
  | g :: gs, c :: cs => rampFrame (levelGain c.toNat) g :: sendsFrame gs cs

/-- The bus sum S (R45). -/
def busSum (sources : List Int) (sends : List Ramp) : Int :=
  (List.zipWith (fun x g => x * g.current) sources sends).sum

/-- The bus value P (R45): the gain rounding of S, then the bus clamp. -/
def busValue (sources : List Int) (sends : List Ramp) : Int := busClamp (gainRound (busSum sources sends))

/-- The output of a mix before saturation (R46). -/
def mixRounded (p d t : Int) (master gd gt : Ramp) : Int :=
  gainRound (p * master.current + d * gd.current + t * gt.current)

/-- One mix for one frame (R37): targets, advance, sum, hand-over. The result holds the output sample. -/
def mixStep (s : State) (sources : List Int) (d t : Int) (m : Nat) (x : Mix) : Mix × Int :=
  let gd := rampFrame (deskTalkTarget s m) x.gd
  let gt := rampFrame (stageTalkTarget s m) x.gt
  let master := rampFrame (levelGain (mixMasterCode s m)) x.master
  let sends := sendsFrame x.sends (sendCodes s m)
  let rounded := mixRounded (busValue sources sends) d t master gd gt
  let out := satSample rounded
  ({ sends := sends, master := master, gd := gd, gt := gt, clip := x.clip || decide (out ≠ rounded),
     peak := max x.peak out.natAbs }, out)

/-- All the mixes from mix `m` on. They do not read one another's state (R37). -/
def mixAll (s : State) (sources : List Int) (d t : Int) : Nat → List Mix → List (Mix × Int)
  | _, [] => []
  | m, x :: xs => mixStep s sources d t m x :: mixAll s sources d t (m + 1) xs

/-- The returns as the Deliverer gives them out in this frame (R38). -/
def returnsOut (s : State) : List Int := s.deliverer.lastOut.take 16

/-- The desk-talk sample D as the Deliverer gives it out in this frame (R38). -/
def deskTalkOut (s : State) : Int := s.deliverer.lastOut.getD 16 0

/-- The engine's frame (R37, R48, R49): mixes to output slots 0..15, returns to slots 16..31. -/
def mixFrame (postGate : List Int) (s : State) : State :=
  let r := mixAll s (postGate ++ returnsOut s) (deskTalkOut s) (stageTalkSample s postGate) 0 s.mixes
  (s.setMixes (r.map Prod.fst)).setOutput { s.output with slots := r.map Prod.snd ++ returnsOut s }

/-! ## The island (section 3.6) -/

/-- The elapsed whole seconds of the island timer (R50). -/
def islandElapsed (s : State) : Nat := s.island.count / 1000

/-- Whether the island timer has reached a nonzero hold in LOST with the island not engaged (R51). -/
def islandDue (s : State) : Bool :=
  s.role == .stage && s.link.state == .lost && !s.island.engaged && islandHold s != 0 &&
    decide (islandHold s ≤ islandElapsed s)

/-- The engagement (R51), in the boundary that brings the timer to the hold: the island engages and ISLAND_DIM is
written with the hold and the dim. -/
def engageIsland (s : State) : State :=
  if islandDue s then
    writeEvent .islandDim (islandHold s) (BitVec.ofNat 32 (islandDim s))
      (s.setIsland { s.island with engaged := true })
  else s

/-- The island timer at a superframe boundary (R50): it runs exactly while LOST, and stops rising at 255,000. -/
def countIsland (s : State) : State :=
  if s.role = .stage ∧ s.link.state = .lost then
    s.setIsland { s.island with count := min 255000 (s.island.count + 1) }
  else s

/-- Leaving LOST (R50, R52): the last island values are kept, the timer stops at 0, island engaged is cleared. -/
def leaveIsland (s : State) : State :=
  s.setIsland { count := 0, engaged := false, lastElapsed := islandElapsed s, lastEngaged := s.island.engaged }

end Sys2Proof.Machine
end

