-- ==== Sys2Proof/Machine/Supervisor.lean ====
section
/-! DEFINITION. The Link Supervisor (section 7.3): link state changes with everything they reach (R128), bridging, the
HELLO handshake, and the meaning of BRIDGING_EXPIRY. -/

namespace Sys2Proof.Machine

/-- The detail of LINK_STATE: state left in bits 7..0, state entered in bits 15..8 (11.8). -/
def linkDetail (old new : LinkState) : Word := 0#16 ++ (0#5 ++ linkCode new) ++ (0#5 ++ linkCode old)

/-- The states in which every far-end slot is zero (R120). -/
def isSilent (l : LinkState) : Bool := l == .down || l == .lost

/-- How many output slots carry an end's own samples: the 16 mixes at the stage, none at the desk (R48, R49, R91). -/
def ownSlots : Role → Nat
  | .desk => 0
  | .stage => 16

/-- The output slots with the far-end samples among them 0 (R49, R120). -/
def silenceOutput (role : Role) (slots : List Int) : List Int :=
  slots.take (ownSlots role) ++ List.replicate (slots.length - ownSlots role) 0

/-- The Deliverer at a link state change (R120, R121): entering DOWN or LOST zeroes the far-end slots and the output
slots that carry them, and entering LOST makes a rejoin pending. The conceal run is 0 from this event on: DEDUCED
(log 11). -/
def linkAudio (new : LinkState) (s : State) : State :=
  if isSilent new then
    (s.setDeliverer { s.deliverer with
      lastOut := List.replicate s.deliverer.lastOut.length 0, run := 0,
      rejoinPending := s.deliverer.rejoinPending || new == .lost }).setOutput
      { s.output with slots := silenceOutput s.role s.output.slots }
  else s

/-- The desk blocks at a link state change (R73, R145, R146). -/
def linkDesk (old new : LinkState) (s : State) : State :=
  let s := if old = .linked then dropStageTalk s else s
  let s := if (old = .linked ∧ new = .connecting) ∨ new = .lost then returnInFlight s else s
  if old = .connecting ∧ new = .linked then rejoin s else s

/-- The stage blocks at a link state change (R50, R52, R68, R106, R129). -/
def linkStage (old new : LinkState) (s : State) : State :=
  let s := s.setDeliverer { s.deliverer with maskInUse := 0 }
  let s := if old = .lost then leaveIsland s else s
  let s := if new = .lost then s.setIsland { s.island with count := 0 } else s
  let s := if old = .linked then s.setSched { s.sched with statusDue := false } else s
  clockOnLink old new s

/-- The supervisor's own fields at a link state change (R123, R127). That the bridging counter and the return state,
which R122 gives in BRIDGING alone, are 0 and none once it is left is a DESIGN CHOICE (log 32). -/
def linkSupervise (old new : LinkState) (s : State) : State :=
  match new with
  | .connecting =>
    let fresh := isSilent old
    (s.setLink { s.link with
      heard := s.link.heard && !fresh, roleFault := s.link.roleFault && !fresh, bridging := 0,
      returnTo := none }).setSched { s.sched with helloDue := true }
  | .bridging => s.setLink { s.link with bridging := 0, returnTo := some old }
  | .linked | .lost | .down => s.setLink { s.link with bridging := 0, returnTo := none }

/-- A change of link state, in one event (R122, R128): LINKSTAT and the LINK notice, LINK_STATE, then every block that
acts on it. R173 leaves the order of events that come together open: that LINK_STATE is written before what the blocks
write, the ADOPT_DONE of an adoption set empty at the rejoin decision (R151) and CLOCK_RANGE (R132) among it, is a DESIGN
CHOICE (log 26). -/
def changeLink (new : LinkState) (s : State) : State :=
  let old := s.link.state
  let s := setChange .link (s.setLink { s.link with state := new })
  let s := writeEvent .linkState 0 (linkDetail old new) s
  let s := linkSupervise old new (linkAudio new s)
  match s.role with
  | .desk => linkDesk old new s
  | .stage => linkStage old new s

/-- The frames a bridge lasts (R127). -/
abbrev bridgeFrames : Nat := 48

/-- BRIDGING_EXPIRY (R127), taken where the bridging counter has reached 48: LOST. -/
def bridgingExpiry (s : State) : State :=
  if s.link.state = .bridging ∧ bridgeFrames ≤ s.link.bridging then changeLink .lost s else s

/-- The bridging counter at a local frame (R127). -/
def countBridging (s : State) : State :=
  if s.link.state = .bridging then
    s.setLink { s.link with bridging := min bridgeFrames (s.link.bridging + 1) }
  else s

/-- A port becomes active (R123, R127). A bridge whose counter has reached 48 is LOST first. -/
def linkActivated (s : State) : State :=
  let s := bridgingExpiry s
  match s.link.state with
  | .down | .lost => changeLink .connecting s
  | .bridging => changeLink (s.link.returnTo.getD .connecting) s
  | .connecting | .linked => s

/-- The active port becomes none (R127). -/
def linkDeactivated (s : State) : State :=
  match s.link.state with
  | .connecting | .linked => changeLink .bridging s
  | .down | .bridging | .lost => s

/-! ## The handshake (R124 to R126) -/

/-- The role a HELLO names (R123): none for a byte that is no role code. -/
def helloRole (b : Byte) : Option Role :=
  if b = 0 then some .desk else if b = 1 then some .stage else none

/-- At the desk, far fresh takes the fresh field of an accepted HELLO (R122). -/
def setFarFresh (fresh : Bool) (s : State) : State :=
  match s.role with
  | .desk => s.setLink { s.link with farFresh := fresh }
  | .stage => s

/-- A HELLO of the same role (R126): ROLE_FAULT once per connect. -/
def sameRole (s : State) : State :=
  if s.link.roleFault then s
  else writeEvent .roleFault (roleCode s.role).toNat 0 (s.setLink { s.link with roleFault := true })

/-- A HELLO of the opposite role in CONNECTING (R124). A stage whose heard was 0 takes it as one with heard 0. -/
def helloConnecting (heard fresh : Bool) (s : State) : State :=
  let complete := heard && (s.role == .desk || s.link.heard)
  let s := setFarFresh fresh (s.setLink { s.link with heard := true })
  if complete then
    let s := changeLink .linked s
    s.setSched { s.sched with helloDue := true }
  else s

/-- A HELLO of the opposite role in LINKED (R125). With heard 1 it is ignored when this end has begun a HELLO in the
present superframe or either of the two before it. -/
def helloLinked (heard fresh : Bool) (s : State) : State :=
  if heard then
    if s.link.helloAge ≤ 2 then s else setFarFresh fresh (changeLink .connecting s)
  else
    let s := setFarFresh fresh (changeLink .connecting s)
    match s.role with
    | .desk => writeEvent .farRestart 0 (if fresh then 1 else 0) s
    | .stage => s

/-- HELLO_RECEIVED (R123 to R126): acted on in CONNECTING and LINKED. -/
def receiveHello (p : List Byte) (s : State) : State :=
  match helloRole (byteAt p 0), s.link.state with
  | some r, .connecting =>
    if r = s.role then sameRole s else helloConnecting (byteAt p 1 != 0) (byteAt p 2 != 0) s
  | some r, .linked =>
    if r = s.role then sameRole s else helloLinked (byteAt p 1 != 0) (byteAt p 2 != 0) s
  | _, _ => s

/-! ## The meaning -/

/-- BRIDGING_EXPIRY (R127). -/
def execBridgingExpiry (s : State) : Host.Outcome State Fault Refusal := .next (bridgingExpiry s)

end Sys2Proof.Machine
end

