-- ==== Sys2Proof/Machine/Messages.lean ====
section
/-! DEFINITION. What each consumer does with a message the receiver handed on (R104), and the meanings of the
_RECEIVED commands: each takes the message at the head of the receiver's inbox. -/

namespace Sys2Proof.Machine

/-- NOTE_RECEIVED (R174): with origin 1, an event of origin 1 whose stamp word holds the stage's detail and whose
detail word holds the stage's sequence. Any other origin is dropped. That the bits of the stage's detail which 11.8 marks
as 0, or names for no field, are copied as they stand too is a DESIGN CHOICE (log 31). -/
def receiveNote (p : List Byte) (s : State) : State :=
  if s.role = .desk ∧ byteAt p 9 = 1 then
    appendEvent (word32At p 12) (byteAt p 8) 1 (half16At p 10) (word32At p 0) s
  else s

/-- STATUS_RECEIVED (R176): the last stage STATUS is replaced whole and the STATUS count rises. -/
def receiveStatus (p : List Byte) (s : State) : State :=
  if s.role = .desk then
    s.setStatus { s.status with
      stageStatus := (List.range 8).map (byteAt p), statusCount := satSucc s.status.statusCount }
  else s

/-- The record ID field of a PUSH, PULL, ACK or REPORT (11.4). -/
def payloadRecord (p : List Byte) : Nat := (half16At p 0).toNat

/-- The 16 content bytes of a PUSH or REPORT (11.4). -/
def payloadContents (p : List Byte) : List Byte := (List.range 16).map fun k => byteAt p (6 + k)

/-- A message at its consumer (R104). -/
def consume (m : Msg) (s : State) : State :=
  match m.type with
  | .hello => receiveHello m.payload s
  | .push => receivePush (payloadRecord m.payload) (word32At m.payload 2) (payloadContents m.payload) s
  | .pull => receivePull (payloadRecord m.payload) s
  | .ack => acknowledge (payloadRecord m.payload) (word32At m.payload 2) s
  | .report => adoptReport (payloadRecord m.payload) (payloadContents m.payload) s
  | .note => receiveNote m.payload s
  | .status => receiveStatus m.payload s
  | .meter => writeMeters m.payload s

/-- The message at the head of the inbox, if it is of a type, goes to its consumer. -/
def consumeHead (t : MsgType) (s : State) : State :=
  match s.receiver.inbox with
  | m :: rest => if m.type = t then consume m (s.setReceiver { s.receiver with inbox := rest }) else s
  | [] => s

/-- Every message still in the inbox goes to its consumer, in order. -/
def consumeAll (s : State) : State :=
  forEach consume s.receiver.inbox (s.setReceiver { s.receiver with inbox := [] })

/-- HELLO_RECEIVED (R124). -/
def execHelloReceived (s : State) : Host.Outcome State Fault Refusal := .next (consumeHead .hello s)

/-- PUSH_RECEIVED (R157). -/
def execPushReceived (s : State) : Host.Outcome State Fault Refusal := .next (consumeHead .push s)

/-- PULL_RECEIVED (R158). -/
def execPullReceived (s : State) : Host.Outcome State Fault Refusal := .next (consumeHead .pull s)

/-- ACK_RECEIVED (R141). -/
def execAckReceived (s : State) : Host.Outcome State Fault Refusal := .next (consumeHead .ack s)

/-- REPORT_RECEIVED (R149). -/
def execReportReceived (s : State) : Host.Outcome State Fault Refusal := .next (consumeHead .report s)

/-- NOTE_RECEIVED (R174). -/
def execNoteReceived (s : State) : Host.Outcome State Fault Refusal := .next (consumeHead .note s)

/-- STATUS_RECEIVED (R176). -/
def execStatusReceived (s : State) : Host.Outcome State Fault Refusal := .next (consumeHead .status s)

/-- METER_RECEIVED (R82). -/
def execMeterReceived (s : State) : Host.Outcome State Fault Refusal := .next (consumeHead .meter s)

end Sys2Proof.Machine
end

