-- ==== Sys2Proof/Machine/Ports.lean ====
section
/-! DEFINITION. Fibre Ports (section 6.2) and Path Selector (section 7.1), with the delivery cursor's adjustments
(R116, R117), and the meanings of the port commands. -/

namespace Sys2Proof.Machine

/-! ## The Path Selector (R111 to R115) -/

/-- The detail of SWITCHOVER (11.8): from port, to port, conceal run length saturating at 65,535. -/
def switchoverDetail (src dst : PortId) (run : Nat) : Word :=
  BitVec.ofNat 16 (min 65535 run) ++ BitVec.ofNat 8 (portNumber dst) ++ BitVec.ofNat 8 (portNumber src)

/-- Writing a pending switchover, which clears it (R115). -/
def flushSwitchover (s : State) : State :=
  match s.deliverer.switchover with
  | some (src, dst) =>
    writeEvent .switchover (portNumber dst) (switchoverDetail src dst s.deliverer.run)
      (s.setDeliverer { s.deliverer with switchover := none })
  | none => s

/-- The cursor when a port becomes active from none: its newest tag less 4, and no hold (R116). -/
def anchorCursor (newest : Nat) (s : State) : State :=
  s.setDeliverer { s.deliverer with cursor := tagBefore newest 4, hold := 0 }

/-- A change of the active port, in one event (R111, R115, R116, R127). -/
def setActive (new : Option PortId) (s : State) : State :=
  let old := s.selector.active
  let s := setChange .active (s.setSelector { active := new, cleanCount := 0 })
  match old, new with
  | none, some p => linkActivated (anchorCursor ((s.port p).newest.getD 0) s)
  | some p, some q =>
    let s := flushSwitchover s
    (s.setDeliverer { s.deliverer with switchover := some (p, q) }).setStatus
      { s.status with switches := satSucc s.status.switches }
  | some _, none => linkDeactivated (flushSwitchover s)
  | none, none => s

/-- The standby clean count back to 0 (R112). -/
def clearClean (s : State) : State := s.setSelector { s.selector with cleanCount := 0 }

/-- A port has left LOCKED (R112). -/
def selectorLeft (p : PortId) (s : State) : State :=
  match s.selector.active with
  | some q =>
    if q = p then
      if (s.port (otherPort p)).state = .locked then setActive (some (otherPort p)) s else setActive none s
    else clearClean s
  | none => s

/-- A port has entered LOCKED (R112). -/
def selectorEntered (p : PortId) (s : State) : State :=
  match s.selector.active with
  | some _ => clearClean s
  | none => setActive (some p) s

/-- A change of a port's state or MARGINAL (R100): LINKSTAT, the LINK notice, PORT_STATE. -/
def portChanged (p : PortId) (s : State) : State :=
  writeEvent .portState (portNumber p) ((portCode (s.port p)).setWidth 32) (setChange (portChange p) s)

/-! ## Port state changes (R95 to R97) -/

/-- LOS asserts (R95): the port enters DARK from any state. -/
def losAsserted (p : PortId) (s : State) : State :=
  let v := s.port p
  let t := s.setPort p { v with
    los := true, state := .dark, marginal := false, huntRun := 0, failRun := 0, badNow := 0, badLast := 0,
    buffer := List.replicate 8 none, goodNow := false, lockedWhole := false }
  match v.state with
  | .dark => t
  | .hunting => portChanged p t
  | .locked => selectorLeft p (portChanged p t)

/-- LOS deasserts (R95): a DARK port enters HUNTING. -/
def losDeasserted (p : PortId) (s : State) : State :=
  let v := s.port p
  match v.state with
  | .dark =>
    portChanged p (s.setPort p { v with
      los := false, state := .hunting, huntRun := 0, lastGood := none, goodNow := false })
  | .hunting | .locked => s.setPort p { v with los := false }

/-- The port enters LOCKED (R96). -/
def lockPort (p : PortId) (s : State) : State :=
  let v := s.port p
  selectorEntered p (portChanged p (s.setPort p { v with
    state := .locked, failRun := 0, badNow := 0, badLast := 0, marginal := false, lockedWhole := false }))

/-- The port returns to HUNTING (R97). Its buffer keeps its frames. -/
def unlockPort (p : PortId) (s : State) : State :=
  let v := s.port p
  selectorLeft p (portChanged p (s.setPort p { v with
    state := .hunting, huntRun := 0, lastGood := none, marginal := false, lockedWhole := false }))

/-! ## Arrivals (R93, R96, R99, R117) -/

/-- The hunt run after a good frame with a tag (R96). -/
def huntAfter (v : Port) (tag : Nat) : Nat :=
  match v.lastGood with
  | some l => if tag = nextTag l then min 3 (v.huntRun + 1) else 1
  | none => 1

/-- A good frame at a port that is not DARK (R96, R99): filed in place tag mod 8, newest, and counted by a hunting
port. -/
def fileFrame (f : RxFrame) (v : Port) : Port :=
  let v := { v with buffer := v.buffer.set (f.tag % 8) (some f), newest := some f.tag, goodNow := true }
  match v.state with
  | .hunting => { v with huntRun := huntAfter v f.tag, lastGood := some f.tag }
  | .dark | .locked => v

/-- The comparison of the newest tag with the cursor (R117). -/
def adjustCursor (newest : Nat) (s : State) : State :=
  let l := tagAhead newest s.deliverer.cursor
  if 1 ≤ l ∧ l ≤ 7 then s
  else if 8 ≤ l ∧ l ≤ 6143 then anchorCursor newest s
  else if l = 0 ∨ 12285 ≤ l then
    s.setDeliverer { s.deliverer with hold := min 7 (4 + (tagCount - l) % tagCount) }
  else anchorCursor newest s

/-- A frame completes on a port (R93): a bad one is not used for anything; a good one is filed, compared, and measured
by the stage clock or, where a realignment is pending, realigns it (R130, R131); a hunt run of 3 locks the port in the
same event (R96). A good frame of a foreign length realigns as any other: DESIGN CHOICE (log 25). -/
def receiveFrame (p : PortId) (bytes : List Byte) (phase : Nat) (s : State) : State :=
  if (s.port p).state = .dark then s
  else
    match checkFrame s.role bytes with
    | none => s
    | some f =>
      let s := s.setPort p (fileFrame f (s.port p))
      let s := if s.selector.active = some p then clockArrival p f.tag phase (adjustCursor f.tag s) else s
      if (s.port p).state = .hunting ∧ 3 ≤ (s.port p).huntRun then lockPort p s else s

/-- Whether the arrival of these bytes brings a HUNTING port's hunt run to 3 (R96). -/
def arrivalLocks (p : PortId) (bytes : List Byte) (s : State) : Bool :=
  (s.port p).state == .hunting &&
    match checkFrame s.role bytes with
    | some f => decide (3 ≤ huntAfter (s.port p) f.tag)
    | none => false

/-! ## Frame times (R96, R97) -/

/-- A failed frame time of a LOCKED port (R97). The 16th in a row unlocks it in the same event. -/
def failFrameTime (p : PortId) (s : State) : State :=
  let v := s.port p
  let t := s.setPort p { v with
    failRun := min 16 (v.failRun + 1), badNow := v.badNow + 1, badTotal := satSucc v.badTotal, goodNow := false }
  if 16 ≤ v.failRun + 1 then unlockPort p t else t

/-- The judging of the frame time that ends (R96, R97). -/
def judgePort (p : PortId) (s : State) : State :=
  let v := s.port p
  match v.state with
  | .dark => s.setPort p { v with goodNow := false }
  | .hunting => s.setPort p { v with huntRun := if v.goodNow then v.huntRun else 0, goodNow := false }
  | .locked => if v.goodNow then s.setPort p { v with failRun := 0, goodNow := false } else failFrameTime p s

/-- The frame time that ends is judged on both ports. -/
def judgePorts (s : State) : State := judgePort .b (judgePort .a s)

/-- PORT_UNLOCK (R97), taken where the frame time in progress is the 16th in a row without a good frame. -/
def judgeUnlock (p : PortId) (s : State) : State :=
  let v := s.port p
  if v.state = .locked ∧ v.goodNow = false ∧ 15 ≤ v.failRun then failFrameTime p s else s

/-! ## Superframe boundaries (R98, R113, R114) -/

/-- MARGINAL after a superframe with a count of bad frames (R98). -/
def marginalAfter (bad : Nat) (marginal : Bool) : Bool :=
  if 4 ≤ bad then true else if bad = 0 then false else marginal

/-- A LOCKED port closes the superframe (R98). -/
def closeSuperframe (p : PortId) (s : State) : State :=
  let v := s.port p
  match v.state with
  | .locked =>
    let m := marginalAfter v.badNow v.marginal
    let t := s.setPort p { v with badLast := v.badNow, badNow := 0, marginal := m }
    if m = v.marginal then t else portChanged p t
  | .dark | .hunting => s

/-- The standby port was LOCKED throughout the superframe just closed, with no bad frame (R113). -/
def standbyClean (v : Port) : Bool := v.state == .locked && v.lockedWhole && v.badLast == 0

/-- The standby clean count at a boundary (R113). -/
def updateClean (s : State) : State :=
  s.setSelector { s.selector with
    cleanCount :=
      match s.selector.active with
      | some p => if standbyClean (s.port (otherPort p)) then min 255 (s.selector.cleanCount + 1) else 0
      | none => 0 }

/-- Remembering which ports are LOCKED at this boundary (R113). -/
def markLocked (p : PortId) (s : State) : State :=
  s.setPort p { s.port p with lockedWhole := (s.port p).state == .locked }

/-- The marginal switch (R114). -/
def marginalSwitch (s : State) : State :=
  match s.selector.active with
  | some p =>
    if (s.port p).marginal ∧ 1 ≤ s.selector.cleanCount then setActive (some (otherPort p)) s else s
  | none => s

/-- The ports and the selector at a superframe boundary (R98, R113, R114). -/
def closePorts (s : State) : State :=
  marginalSwitch (markLocked .b (markLocked .a (updateClean (closeSuperframe .b (closeSuperframe .a s)))))

/-! ## The meanings -/

/-- LOS_ASSERT (R95). -/
def execLosAssert (port : PortId) (s : State) : Host.Outcome State Fault Refusal := .next (losAsserted port s)

/-- LOS_DEASSERT (R95). -/
def execLosDeassert (port : PortId) (s : State) : Host.Outcome State Fault Refusal := .next (losDeasserted port s)

/-- FRAME_RECEIVED (R93). -/
def execFrameReceived (port : PortId) (bytes : List Byte) (phase : Nat) (s : State) :
    Host.Outcome State Fault Refusal := .next (receiveFrame port bytes phase s)

/-- PORT_LOCK (R96): the arrival that locks the port. -/
def execPortLock (port : PortId) (bytes : List Byte) (phase : Nat) (s : State) :
    Host.Outcome State Fault Refusal :=
  .next (if arrivalLocks port bytes s then receiveFrame port bytes phase s else s)

/-- PORT_UNLOCK (R97). -/
def execPortUnlock (port : PortId) (s : State) : Host.Outcome State Fault Refusal := .next (judgeUnlock port s)

end Sys2Proof.Machine
end

