-- ==== Sys2Proof/Machine/Delivery.lean ====
section
/-! DEFINITION. Frame Deliverer and Concealer (section 7.2): delivery, concealment and the rejoin gate. -/

namespace Sys2Proof.Machine

/-- The frame present for a tag in a port's buffer (R99). -/
def presentFrame (v : Port) (tag : Nat) : Option RxFrame :=
  match v.buffer.getD (tag % 8) none with
  | some f => if f.tag = tag then some f else none
  | none => none

/-- The rejoin gate at the first frame delivered while a rejoin is pending: forced to 0 and given target unity
(R121). -/
def startRejoin (d : Deliverer) : Deliverer :=
  if d.rejoinPending then { d with gate := rampTarget unity (rampForce 0), rejoinPending := false } else d

/-- The header of a delivered frame at its consumers (R94): at the stage the mask in use while LINKED (R68); at the
desk the far header and stage talk (R72). -/
def deliverHeader (header : Half) (s : State) : State :=
  match s.role with
  | .stage =>
    if s.link.state = .linked then s.setDeliverer { s.deliverer with maskInUse := header } else s
  | .desk =>
    compareStageTalk (header.getLsbD 0)
      (s.setStatus { s.status with farIsland := header.getLsbD 1, farLink := header.extractLsb' 2 3 })

/-- A delivered frame (R116, R121): a pending switchover is written first; the rejoin gate advances and scales every
far-end slot; header and control bytes go to their consumers; the conceal run becomes 0. That SWITCHOVER stands in the
ring before the STAGE_TALK of the same frame is a DESIGN CHOICE (log 26). -/
def deliverFrame (f : RxFrame) (s : State) : State :=
  let s := flushSwitchover s
  let d := startRejoin s.deliverer
  let gate := rampAdvance d.gate
  let s := s.setDeliverer { d with
    gate := gate, lastOut := f.slots.map (fun x => gainRound (x * gate.current)), run := 0,
    cursor := nextTag d.cursor }
  receiveBytes f.control (deliverHeader f.header s)

/-- A concealed frame (R116, R119): the first repeats the last output, later ones decay it; it is counted, and the
receiver drops what it holds. -/
def concealFrame (s : State) : State :=
  let d := s.deliverer
  let s := s.setDeliverer { d with
    gate := rampAdvance d.gate, run := d.run + 1,
    lastOut := if d.run = 0 then d.lastOut else d.lastOut.map decay }
  dropHeld (s.setStatus { s.status with concealed := satSucc s.status.concealed })

/-- A local frame in DOWN or LOST (R120): every far-end slot gives out 0 and nothing is counted. -/
def silentFrame (s : State) : State :=
  let d := s.deliverer
  s.setDeliverer { d with gate := rampAdvance d.gate, lastOut := List.replicate d.lastOut.length 0, run := 0 }

/-- The cursor moves to the next tag over a frame that is absent; a held frame leaves it and counts the hold down
(R116). -/
def passCursor (s : State) : State :=
  let d := s.deliverer
  if d.hold = 0 then s.setDeliverer { d with cursor := nextTag d.cursor }
  else s.setDeliverer { d with hold := d.hold - 1 }

/-- The Deliverer's frame (R116, R119, R120). -/
def farFrame (s : State) : State :=
  if isSilent s.link.state then silentFrame s
  else
    match s.selector.active with
    | some p =>
      match (if s.deliverer.hold = 0 then presentFrame (s.port p) s.deliverer.cursor else none) with
      | some f => deliverFrame f s
      | none => concealFrame (passCursor s)
    | none => concealFrame s

end Sys2Proof.Machine
end

