-- ==== Sys2Proof/Machine/Boundary.lean ====
section
/-! DEFINITION. The superframe boundary (R98, R113, R114, R123, R106, R164, R50, R51, R69, R9, R176), the steps of the
part that are due and not yet taken, and the meanings of SUPERFRAME_BOUNDARY, ISLAND_ENGAGE and DEBOUNCE_CHANGE. -/

namespace Sys2Proof.Machine

/-! ## What is due (log 3) -/

/-- The channels, in ascending number. -/
abbrev allChannels : List Nat := List.range 96

/-- The stage steps that are due: gates closed, the trim period, the stepper, the phantom timers, and the next preamp
transfer. In DESK role none is ever due (R24, R56, R67, R129). -/
def settleStage (s : State) : State :=
  let s := forEach gateClosedReaction allChannels s
  let s := stepperExpiry (endTrimPeriod s)
  startTransfer (forEach phantomExpiry allChannels s)

/-- The desk steps that are due: talk timers, timed-out pushes and pulls, deadlines. In STAGE role none is ever due
(R67, R154, R181). -/
def settleDesk (s : State) : State :=
  let s := limitExpiry .b (limitExpiry .a (renewExpiry .b (renewExpiry .a s)))
  let s := forEach (fun _ t => inFlightTimeout t) (List.range 8) s
  let s := forEach pullTimeout (List.range recordCount) s
  forEach deadlineExpiry (List.range 32) s

/-- Every step of the table that is due and has not been taken, in one order: the received messages, the end of a
bridge, then the blocks of the role. A frame or a boundary of the local clock does not pass one over (log 3). -/
def settle (s : State) : State :=
  let s := bridgingExpiry (consumeAll s)
  match s.role with
  | .desk => settleDesk s
  | .stage => settleStage s

/-! ## The boundary -/

/-- The superframe count goes up (R176) and the next frame is frame 0 of its superframe (R92). -/
def advanceSuperframe (s : State) : State := (s.setSuperframe (s.superframe + 1)).setFrameIndex 0

/-- HELLO due at a boundary in CONNECTING (R123), and the age of the last HELLO begun (R125). -/
def boundaryHello (s : State) : State :=
  let s := s.setLink { s.link with helloAge := min 3 (s.link.helloAge + 1) }
  if s.link.state = .connecting then s.setSched { s.sched with helloDue := true } else s

/-- The stage scheduler at a boundary (R106): the METER count starts again, and STATUS falls due at a superframe
number that is a multiple of 8 while LINKED. -/
def boundaryScheduler (s : State) : State :=
  s.setSched { s.sched with
    meterCount := 0,
    statusDue := s.sched.statusDue || (s.link.state == .linked && s.superframe.toNat % 8 == 0) }

/-- The Gain Stepper's timer at a boundary (R9): it expires at every second one after the reset. -/
def boundaryStepper (s : State) : State :=
  if s.superframe.toNat % 2 = 0 then s.setStepperDue true else s

/-- The stage's own values in its status block, refreshed at a boundary (R176). The island fields are the values kept at
the last departure from LOST, in LOST too: DEDUCED (log 20). -/
def refreshStatus (s : State) : State := s.setStatus { s.status with stageStatus := statusPayload s }

/-- The stage blocks at a boundary. -/
def boundaryStage (pinLow : Bool) (s : State) : State :=
  refreshStatus (boundaryStepper (sampleButton pinLow (engageIsland (countIsland (boundaryScheduler s)))))

/-- A superframe boundary: the count (R176), the ports and the selector (R98, R113, R114), HELLO (R123), then the desk
scan timer (R164) or the stage blocks. -/
def boundary (pinLow : Bool) (s : State) : State :=
  let s := boundaryHello (closePorts (advanceSuperframe s))
  match s.role with
  | .desk => countScan s
  | .stage => boundaryStage pinLow s

/-- The superframe just ended, up to its boundary: the steps that are due, the rest of a scan in progress, which
finishes before the next boundary (R164), and the judging of the superframe's last frame time, which belongs to it
(R96 to R98). That the judging comes after the others is a DESIGN CHOICE (log 23). -/
def endSuperframe (s : State) : State := judgePorts (finishScan (settle s))

/-- The boundary with everything that comes before it. -/
def superframeStep (pinLow : Bool) (s : State) : State := boundary pinLow (endSuperframe s)

/-- The frames of a superframe. -/
abbrev superframeFrames : Nat := 48

/-- A superframe boundary comes when the 48 frames of the superframe have run, and at no other moment (R92). -/
def boundaryDue (s : State) : Bool := decide (superframeFrames ≤ s.frameIndex)

/-- SUPERFRAME_BOUNDARY (R98), taken where it is due. -/
def execSuperframeBoundary (talkPinLow : Bool) (s : State) : Host.Outcome State Fault Refusal :=
  .next (if boundaryDue s then superframeStep talkPinLow s else s)

/-- ISLAND_ENGAGE (R51): the boundary, where it is the one that engages the island; the talk pin is sampled at its last
level (log 4). -/
def execIslandEngage (s : State) : Host.Outcome State Fault Refusal :=
  let t := superframeStep s.button.pinLow s
  .next (if boundaryDue s && t.island.engaged && !(settle s).island.engaged then t else s)

/-- DEBOUNCE_CHANGE (R69): the boundary whose sample is at the other level, where it is the one that changes the
debounced state (log 4). -/
def execDebounceChange (s : State) : Host.Outcome State Fault Refusal :=
  let t := superframeStep (!s.button.pressed) s
  .next (if boundaryDue s && t.button.pressed != s.button.pressed then t else s)

end Sys2Proof.Machine
end

