-- ==== Sys2Proof/Machine/Frame.lean ====
section
/-! DEFINITION. One frame of the local frame clock (R90): the far end's frame is delivered or concealed, the input
chain and the mixes run, the outgoing frame is built, and the ports judge the frame time that ended; and the meaning of
FRAME. -/

namespace Sys2Proof.Machine

/-- The stage clock at a frame (R130, R132, R133). The desk's is never steered and measures nothing (R129). -/
def clockStep (s : State) : State :=
  match s.role with
  | .desk => s
  | .stage => s.setClock (clockFrame s.clock)

/-- The post-gate samples of a frame (R1). -/
def postGateSamples (slots : List Sample) (s : State) : List Int := (inputChain slots s.channels).map Prod.snd

/-- The channels after a frame (R1). -/
def chainedChannels (slots : List Sample) (s : State) : List Channel := (inputChain slots s.channels).map Prod.fst

/-- The stage's frame (R90): header, post-gate slots and the scheduler's control bytes. -/
def stageTransmit (postGate : List Int) (s : State) : State :=
  let r := handBytes 4 s
  let header := stageHeader s.button.pressed s.island.engaged s.link.state
  r.1.setOutput { s.output with frame := stageFrame s.superframe s.frameIndex header postGate r.2 }

/-- The desk's frame (R66, R90, R91): the carried mask, the returns, the carried sample, the control bytes. -/
def deskTransmit (slots : List Sample) (s : State) : State :=
  let r := handBytes 4 s
  let returns := (List.range 16).map fun j => (slots.getD j 0).toInt
  r.1.setOutput { s.output with
    frame := deskFrame s.superframe s.frameIndex (headerMask s) returns (talkSlot s slots) r.2 }

/-- The stage blocks at a frame (R1, R37, R90). -/
def stageAudio (slots : List Sample) (s : State) : State :=
  let postGate := postGateSamples slots s
  stageTransmit postGate (mixFrame postGate (s.setChannels (chainedChannels slots s)))

/-- The desk blocks at a frame (R90, R91): the stage inputs as the Deliverer gives them out go to the output lanes. -/
def deskAudio (slots : List Sample) (s : State) : State :=
  deskTransmit slots (s.setOutput { s.output with slots := s.deliverer.lastOut })

/-- The audio and the outgoing frame of an end. -/
def audioStep (slots : List Sample) (s : State) : State :=
  match s.role with
  | .desk => deskAudio slots s
  | .stage => stageAudio slots s

/-- The frame index moves on (R92). -/
def advanceFrame (s : State) : State := s.setFrameIndex (s.frameIndex + 1)

/-- What the blocks do at a frame, in order (log 5): clock, delivery, audio, the bridging counter (R127). -/
def frameBlocks (slots : List Sample) (s : State) : State :=
  advanceFrame (countBridging (audioStep slots (farFrame (clockStep s))))

/-- One local frame, in one event. It begins a frame time and ends the one before it, which is judged on both ports
(R96, R97) after this frame's delivery; frame 0 ends none, since the boundary before it has judged the last one (log
23). -/
def frameStep (slots : List Sample) (s : State) : State :=
  if s.frameIndex = 0 then frameBlocks slots s else judgePorts (frameBlocks slots s)

/-- What comes before a frame: the steps that are due, and the boundary where 48 frames have run since the last one
(log 3). -/
def beforeFrame (s : State) : State :=
  if boundaryDue s then settle (superframeStep s.button.pinLow s) else settle s

/-- FRAME (R90). The local frame clock goes by its own count of the frame's cycles (R130), so the count that the sender
states is not read (log 7). -/
def execFrame (slots : List Sample) (_cycles : Nat) (s : State) : Host.Outcome State Fault Refusal :=
  .next (frameStep slots (beforeFrame s))

end Sys2Proof.Machine
end

