-- ==== Sys2Proof/Machine/Window.lean ====
section
/-! DEFINITION. The host's side (chapter 9): the window as the host reads it (R160, R176, R181, 11.5 to 11.9), its
writes, the four registers (R177 to R180), power-on and soft reset (R182), and the meanings of those commands. -/

namespace Sys2Proof.Machine

/-! ## The window as it reads (section 9.1). No row of the table is a window read: a read has no effect (R160) -/

/-- The status block word at index `k` (11.9). -/
def statusWord (s : State) (k : Nat) : Word :=
  match k with
  | 0 => s.superframe
  | 1 => s.ring.written
  | 2 => 0#8 ++ BitVec.ofNat 8 s.desk.inFlight.length ++ BitVec.ofNat 16 s.desk.dirty.length
  | 3 => BitVec.ofNat 16 s.desk.adopted ++ BitVec.ofNat 16 s.desk.adoption.length
  | 4 => s.portA.badTotal
  | 5 => s.portB.badTotal
  | 6 => s.status.switches
  | 7 => s.status.concealed
  | 8 => decisionCode s.desk.decision ++ bindingCode s.desk.binding ++ (0#5 ++ s.status.farLink) ++
      boolByte s.status.farIsland
  | 9 => wordOfBytes (byteAt s.status.stageStatus 0) (byteAt s.status.stageStatus 1)
      (byteAt s.status.stageStatus 2) (byteAt s.status.stageStatus 3)
  | 10 => wordOfBytes (byteAt s.status.stageStatus 4) (byteAt s.status.stageStatus 5)
      (byteAt s.status.stageStatus 6) (byteAt s.status.stageStatus 7)
  | 11 => s.status.statusCount
  | 12 => s.scanner.count
  | _ => 0

/-- Word `k` of an event record (11.8). -/
def eventWord (e : Event) (k : Nat) : Word :=
  match k with
  | 0 => e.sequence
  | 1 => e.stamp
  | 2 => e.subject ++ e.origin ++ e.type
  | _ => e.detail

/-- Word `k` of 16 content bytes (11.6). -/
def contentWord (c : List Byte) (k : Nat) : Word :=
  wordOfBytes (byteAt c (4 * k)) (byteAt c (4 * k + 1)) (byteAt c (4 * k + 2)) (byteAt c (4 * k + 3))

/-- Word `k` of a shadow entry at the desk (11.6). UPDATING is set and cleared inside one event (R162). -/
def shadowWord (s : State) (record k : Nat) : Word :=
  match k with
  | 4 => (shadowAt s record).version
  | 5 => (shadowAt s record).confirmed
  | 6 => 0#24 ++ replCode (replState s.desk record)
  | 7 => (shadowAt s record).stamp
  | _ => contentWord (shadowContents s record) k

/-- Word `k` of the shadow entry that shows a live record at the stage (R159). -/
def liveWord (s : State) (record k : Nat) : Word :=
  match k with
  | 4 => ((s.stage.live[record]?).map Live.version).getD 0
  | 5 => ((s.stage.live[record]?).map Live.version).getD 0
  | 6 => 0
  | 7 => ((s.stage.live[record]?).map Live.stamp).getD 0
  | _ => contentWord (liveContents s record) k

/-- Word `k` of the shadow entry of a record, by role (R135, R159). -/
def recordWord (s : State) (record k : Nat) : Word :=
  match s.role with
  | .desk => shadowWord s record k
  | .stage => liveWord s record k

/-- A host read of the window word at a word-aligned offset (R160). -/
def readWindow (s : State) (offset : Nat) : Word :=
  if offset < 0x400 then s.board.readWord offset
  else if offset < 0x440 then statusWord s ((offset - 0x400) / 4)
  else if offset < 0x840 then
    eventWord (s.ring.records.getD ((offset - 0x440) / 16) .initial) ((offset - 0x440) / 4 % 4)
  else if offset < 0xA00 then s.meters.table.getD ((offset - 0x840) / 4) 0
  else if offset < 0x2640 then recordWord s ((offset - 0xA00) / 32) ((offset - 0xA00) / 4 % 8)
  else 0

/-- A host read of CTRL (R177). -/
def readCtrl (s : State) : Word := ctrlWord s.role s.regs.ctrl

/-- A host read of NOTICE_EN (R179). -/
def readEnable (s : State) : Word := s.regs.enable.setWidth 32

/-! ## Writes into the window (R161, R163) -/

/-- Whether a host write into the window is stored (R161): a whole aligned word, in words 0 to 5 of a board entry, in
DESK role. -/
def boardWritable (role : Role) (offset : Nat) (width : Width) : Bool :=
  role == .desk && width == .word && decide (offset % 4 = 0) && decide (offset < 0x400) &&
    decide (offset / 4 % 8 ≤ 5)

/-- A whole word stored in the board (R161, R163). Where it falls together with the scan's read of that word and the read
is taken first, the scan goes on with the word it read (R171). -/
def storeBoard (offset : Nat) (value : Word) (afterRead : Bool) (s : State) : State :=
  let s := if afterRead then readFirst (offset / 32) (offset / 4 % 8) s else s
  s.setBoard (s.board.writeWord offset value)

/-- A host write into the window (R161): stored as written, or refused. -/
def writeWindow (offset : Nat) (width : Width) (value : Word) (afterRead : Bool) (s : State) : State :=
  if boardWritable s.role offset width then storeBoard offset value afterRead s else refuseWrite s

/-! ## Reset (R177, R182) -/

/-- A soft reset (R177): everything takes its reset value; the role is kept, and so are the levels on the pins and the
commands that wait outside. -/
def softReset (s : State) : State :=
  State.initial s.role s.portA.los s.portB.los s.button.pinLow s.pending

/-- The role a strap level gives: low is DESK, high is STAGE. -/
def strapRole (high : Bool) : Role := if high then .stage else .desk

/-- Power-on (R182): the role is sampled. -/
def powerOn (strapHigh losA losB : Bool) (s : State) : State :=
  State.initial (strapRole strapHigh) losA losB s.button.pinLow s.pending

/-! ## CTRL (R177) -/

/-- RUN 0→1 starts the scan count again (R164). -/
def runChange (old : Ctrl) (s : State) : State :=
  if !old.run && s.regs.ctrl.run then s.setScanner { s.scanner with timer := 0 } else s

/-- METER_HOLD 1→0 releases the hold (R85, R87). -/
def holdChange (old : Ctrl) (s : State) : State :=
  if old.hold && !s.regs.ctrl.hold then releaseHold s else s

/-- The effects of a change of the CTRL fields (R177). In STAGE role the fields have none. -/
def ctrlEffects (old : Ctrl) (s : State) : State :=
  match s.role with
  | .desk => holdChange old (runChange old s)
  | .stage => s

/-- A whole-word write of CTRL (R177): a soft reset, or every writable field replaced in one event. -/
def storeCtrl (w : Word) (s : State) : State :=
  if ctrlReset w then softReset s
  else ctrlEffects s.regs.ctrl (s.setRegs { s.regs with ctrl := ctrlOfWord w })

/-- A host write of CTRL (R161, R177). -/
def writeCtrl (width : Width) (w : Word) (s : State) : State :=
  if width = .word then storeCtrl w s else refuseWrite s

/-- Bit `k` of a written word forced to a value: the bit a CTRL row is named for (log 9). -/
def forceBit (k : Nat) (b : Bool) (w : Word) : Word :=
  if b then w ||| (1#32 <<< k) else w &&& ~~~(1#32 <<< k)

/-- A CTRL word that does not ask for a reset (log 9). -/
def noReset (w : Word) : Word := forceBit 7 false w

/-! ## The meanings -/

/-- POWER_ON (R182). -/
def execPowerOn (strapHigh losA losB : Bool) (s : State) : Host.Outcome State Fault Refusal :=
  .next (powerOn strapHigh losA losB s)

/-- SOFT_RESET (R177). -/
def execSoftReset (width : Width) (value : Word) (s : State) : Host.Outcome State Fault Refusal :=
  .next (writeCtrl width (forceBit 7 true value) s)

/-- RUN_START (R164). -/
def execRunStart (width : Width) (value : Word) (s : State) : Host.Outcome State Fault Refusal :=
  .next (writeCtrl width (forceBit 0 true (noReset value)) s)

/-- RUN_STOP (R164). -/
def execRunStop (width : Width) (value : Word) (s : State) : Host.Outcome State Fault Refusal :=
  .next (writeCtrl width (forceBit 0 false (noReset value)) s)

/-- SCAN_PERIOD (R164). -/
def execScanPeriod (width : Width) (value : Word) (s : State) : Host.Outcome State Fault Refusal :=
  .next (writeCtrl width (noReset value) s)

/-- METER_CADENCE (R86). -/
def execMeterCadence (width : Width) (value : Word) (s : State) : Host.Outcome State Fault Refusal :=
  .next (writeCtrl width (noReset value) s)

/-- METER_HOLD_SET (R85). -/
def execMeterHoldSet (width : Width) (value : Word) (s : State) : Host.Outcome State Fault Refusal :=
  .next (writeCtrl width (forceBit 5 true (noReset value)) s)

/-- METER_HOLD_RELEASE (R85, R87). -/
def execMeterHoldRelease (width : Width) (value : Word) (s : State) : Host.Outcome State Fault Refusal :=
  .next (writeCtrl width (forceBit 5 false (noReset value)) s)

/-- POLICY (R146). -/
def execPolicy (width : Width) (value : Word) (s : State) : Host.Outcome State Fault Refusal :=
  .next (writeCtrl width (noReset value) s)

/-- NOTICE_READ (R178). -/
def execNoticeRead (s : State) : Host.Outcome State Fault Refusal := .next (readNotice s)

/-- NOTICE_WRITE (R161, R178). -/
def execNoticeWrite (width : Width) (value : Word) (s : State) : Host.Outcome State Fault Refusal :=
  .next (if width = .word then writeNotice value s else refuseWrite s)

/-- NOTICE_EN_WRITE (R161, R179). -/
def execNoticeEnWrite (width : Width) (value : Word) (s : State) : Host.Outcome State Fault Refusal :=
  .next (if width = .word then writeEnable value s else refuseWrite s)

/-- LINKSTAT_READ (R180). -/
def execLinkstatRead (s : State) : Host.Outcome State Fault Refusal := .next (readLinkstat s)

/-- LINKSTAT_WRITE (R161): refused whatever its width and value. -/
def execLinkstatWrite (_width : Width) (_value : Word) (s : State) : Host.Outcome State Fault Refusal :=
  .next (refuseWrite s)

/-- WINDOW_WRITE (R161, R163, R171). -/
def execWindowWrite (offset : BitVec 14) (width : Width) (value : Word) (s : State) (afterRead : Bool := false) :
    Host.Outcome State Fault Refusal := .next (writeWindow offset.toNat width value afterRead s)

end Sys2Proof.Machine
end

