-- ==== Sys2Proof/Machine/Dispatch.lean ====
section
/-! DEFINITION. Which meaning each command has: one arm per row of spec/opcode_table.json, in the table's order. -/

namespace Sys2Proof.Machine

def exec (i : Instr) (s : State) : Host.Outcome State Fault Refusal :=
  match i with
  | .powerOn strapHigh losA losB => Sys2Proof.Machine.execPowerOn strapHigh losA losB s
  | .softReset width value => Sys2Proof.Machine.execSoftReset width value s
  | .runStart width value => Sys2Proof.Machine.execRunStart width value s
  | .runStop width value => Sys2Proof.Machine.execRunStop width value s
  | .scanPeriod width value => Sys2Proof.Machine.execScanPeriod width value s
  | .meterCadence width value => Sys2Proof.Machine.execMeterCadence width value s
  | .meterHoldSet width value => Sys2Proof.Machine.execMeterHoldSet width value s
  | .meterHoldRelease width value => Sys2Proof.Machine.execMeterHoldRelease width value s
  | .policy width value => Sys2Proof.Machine.execPolicy width value s
  | .noticeRead => Sys2Proof.Machine.execNoticeRead s
  | .noticeWrite width value => Sys2Proof.Machine.execNoticeWrite width value s
  | .noticeEnWrite width value => Sys2Proof.Machine.execNoticeEnWrite width value s
  | .linkstatRead => Sys2Proof.Machine.execLinkstatRead s
  | .linkstatWrite width value => Sys2Proof.Machine.execLinkstatWrite width value s
  | .windowWrite offset width value afterRead => Sys2Proof.Machine.execWindowWrite offset width value s afterRead
  | .frame slots cycles => Sys2Proof.Machine.execFrame slots cycles s
  | .superframeBoundary talkPinLow => Sys2Proof.Machine.execSuperframeBoundary talkPinLow s
  | .boardScan => Sys2Proof.Machine.execBoardScan s
  | .setRecord entry => Sys2Proof.Machine.execSetRecord entry s
  | .setField entry => Sys2Proof.Machine.execSetField entry s
  | .talkPress entry => Sys2Proof.Machine.execTalkPress entry s
  | .talkRelease entry => Sys2Proof.Machine.execTalkRelease entry s
  | .replayAll entry => Sys2Proof.Machine.execReplayAll entry s
  | .talkRenewExpiry source => Sys2Proof.Machine.execTalkRenewExpiry source s
  | .talkLimitExpiry source => Sys2Proof.Machine.execTalkLimitExpiry source s
  | .deadlineExpiry entry => Sys2Proof.Machine.execDeadlineExpiry entry s
  | .inFlightTimeout => Sys2Proof.Machine.execInFlightTimeout s
  | .pullTimeout record => Sys2Proof.Machine.execPullTimeout record s
  | .gainStepperExpiry => Sys2Proof.Machine.execGainStepperExpiry s
  | .gateClosed channel => Sys2Proof.Machine.execGateClosed channel s
  | .phantomTimerExpiry channel => Sys2Proof.Machine.execPhantomTimerExpiry channel s
  | .transferStart => Sys2Proof.Machine.execTransferStart s
  | .transferComplete returned => Sys2Proof.Machine.execTransferComplete returned s
  | .losAssert port => Sys2Proof.Machine.execLosAssert port s
  | .losDeassert port => Sys2Proof.Machine.execLosDeassert port s
  | .frameReceived port bytes phase => Sys2Proof.Machine.execFrameReceived port bytes phase s
  | .portLock port bytes phase => Sys2Proof.Machine.execPortLock port bytes phase s
  | .portUnlock port => Sys2Proof.Machine.execPortUnlock port s
  | .bridgingExpiry => Sys2Proof.Machine.execBridgingExpiry s
  | .islandEngage => Sys2Proof.Machine.execIslandEngage s
  | .trimPeriodEnd => Sys2Proof.Machine.execTrimPeriodEnd s
  | .debounceChange => Sys2Proof.Machine.execDebounceChange s
  | .helloBegin => Sys2Proof.Machine.execHelloBegin s
  | .pushBegin => Sys2Proof.Machine.execPushBegin s
  | .pullBegin => Sys2Proof.Machine.execPullBegin s
  | .replyBegin => Sys2Proof.Machine.execReplyBegin s
  | .noteBegin => Sys2Proof.Machine.execNoteBegin s
  | .statusBegin => Sys2Proof.Machine.execStatusBegin s
  | .meterTake => Sys2Proof.Machine.execMeterTake s
  | .helloReceived => Sys2Proof.Machine.execHelloReceived s
  | .pushReceived => Sys2Proof.Machine.execPushReceived s
  | .pullReceived => Sys2Proof.Machine.execPullReceived s
  | .ackReceived => Sys2Proof.Machine.execAckReceived s
  | .reportReceived => Sys2Proof.Machine.execReportReceived s
  | .noteReceived => Sys2Proof.Machine.execNoteReceived s
  | .statusReceived => Sys2Proof.Machine.execStatusReceived s
  | .meterReceived => Sys2Proof.Machine.execMeterReceived s

end Sys2Proof.Machine
end

