-- ==== Sys2Proof/Safety.lean ====
section
/-! DEFINITION. What statements about the machine are made of: the parts of State and what it means that a command
keeps the others, and the invariants the spec gives (R17, R32, R51, R63, R68, R92, R96, R97, R105, R120, R132, R139,
R140, R142, R147). -/

namespace Sys2Proof.Machine

/-! ## Frames -/

/-- The parts of State, one for each field. -/
inductive Part where
  | role | superframe | frameIndex | channels | stepperDue | preamp | mixes | island | arbiter | button | talkSeen | meters | portA | portB | selector | deliverer | link | clock | sched | receiver | desk | stage | board | scanner | ring | status | regs | output | pending
  deriving DecidableEq, Repr

/-- A part holds the same in two states. -/
def Part.same : Part → State → State → Prop
  | .role, s, t => t.role = s.role
  | .superframe, s, t => t.superframe = s.superframe
  | .frameIndex, s, t => t.frameIndex = s.frameIndex
  | .channels, s, t => t.channels = s.channels
  | .stepperDue, s, t => t.stepperDue = s.stepperDue
  | .preamp, s, t => t.preamp = s.preamp
  | .mixes, s, t => t.mixes = s.mixes
  | .island, s, t => t.island = s.island
  | .arbiter, s, t => t.arbiter = s.arbiter
  | .button, s, t => t.button = s.button
  | .talkSeen, s, t => t.talkSeen = s.talkSeen
  | .meters, s, t => t.meters = s.meters
  | .portA, s, t => t.portA = s.portA
  | .portB, s, t => t.portB = s.portB
  | .selector, s, t => t.selector = s.selector
  | .deliverer, s, t => t.deliverer = s.deliverer
  | .link, s, t => t.link = s.link
  | .clock, s, t => t.clock = s.clock
  | .sched, s, t => t.sched = s.sched
  | .receiver, s, t => t.receiver = s.receiver
  | .desk, s, t => t.desk = s.desk
  | .stage, s, t => t.stage = s.stage
  | .board, s, t => t.board = s.board
  | .scanner, s, t => t.scanner = s.scanner
  | .ring, s, t => t.ring = s.ring
  | .status, s, t => t.status = s.status
  | .regs, s, t => t.regs = s.regs
  | .output, s, t => t.output = s.output
  | .pending, s, t => t.pending = s.pending

/-- Every part of State but those listed is left as it was: the frame of a command. -/
def Keeps (touched : List Part) (s t : State) : Prop := ∀ p, p ∉ touched → p.same s t

/-! ## Memory (R160, R161) -/

/-- The board's RAM is in canonical form and lists only bytes of the board region. -/
def BoardOk (s : State) : Prop := s.board.wf = true ∧ ∀ c ∈ s.board, c.1 < 0x400

/-! ## The preamp update queue (R17) -/

/-- A channel stands in the update queue at most once, and every number in the queue or in transfer is a channel's. -/
def QueueOk (s : State) : Prop :=
  s.preamp.queue.Nodup ∧ (∀ n ∈ s.preamp.queue, n < 96) ∧ ∀ t ∈ s.preamp.transfer, t.channel < 96

/-! ## The desk's lists (R139, R140, R142, R147) -/

/-- Whether the desk may hold in-flight entries: LINKED, or in a bridge entered from LINKED (R145). -/
def mayFly (l : Link) : Prop := l.state = .linked ∨ (l.state = .bridging ∧ l.returnTo = some .linked)

/-- The dirty list, the in-flight table and the adoption set: no record twice in the first two, at most 8 in flight,
only records that exist, no member of the adoption set in either of the others, and nothing in flight outside LINKED
and a bridge entered from it, nor ever at the stage. -/
structure ListsOk (s : State) : Prop where
  dirtyOnce : s.desk.dirty.Nodup
  dirtyIds : ∀ r ∈ s.desk.dirty, r < recordCount
  flightOnce : (s.desk.inFlight.map InFlight.record).Nodup
  flightIds : ∀ e ∈ s.desk.inFlight, e.record < recordCount
  flightCount : s.desk.inFlight.length ≤ 8
  adoptingIds : ∀ e ∈ s.desk.adoption, e.record < recordCount
  adoptingClear : ∀ e ∈ s.desk.adoption, isDirty s.desk e.record = false ∧ isInFlight s.desk e.record = false
  flightLink : ¬ mayFly s.link → s.desk.inFlight = []
  flightRole : s.role = .stage → s.desk.inFlight = []

/-- No board entry stays ACCEPTED once the record it targets is CLEAN (R142): the record of every accepted edit is
dirty or in flight. -/
def AcceptedOk (s : State) : Prop :=
  s.scanner.accepted.length = 32 ∧ ∀ i a, acceptedAt s i = some a →
    a.record < recordCount ∧ (isDirty s.desk a.record = true ∨ isInFlight s.desk a.record = true)

/-! ## Talk, the mask and the island (R51, R63, R68) -/

/-- The carried source is the one the arbiter decides (R63): B only while A is OFF. -/
def CarriedOk (s : State) : Prop := s.arbiter.carried = carriedOf s.arbiter.a s.arbiter.b

/-- The desk-talk mask in use is empty at the desk, and at the stage outside LINKED (R68). -/
def MaskOk (s : State) : Prop := s.role = .desk ∨ s.link.state ≠ .linked → s.deliverer.maskInUse = 0

/-- Island engaged is 1 only at a stage in LOST whose island timer has reached a nonzero hold (R51). -/
def IslandOk (s : State) : Prop :=
  s.island.engaged = true →
    s.role = .stage ∧ s.link.state = .lost ∧ islandHold s ≠ 0 ∧ islandHold s ≤ islandElapsed s

/-! ## Far-end audio and the clock (R120, R132) -/

/-- Every far-end slot is zero in DOWN and LOST (R120). -/
def SilentOk (s : State) : Prop :=
  s.link.state = .down ∨ s.link.state = .lost → ∀ x ∈ s.deliverer.lastOut, x = 0

/-- The trim stays within −64..+63 (R132). -/
def TrimOk (s : State) : Prop := -64 ≤ s.clock.trim ∧ s.clock.trim ≤ 63

/-! ## Frame times and tags (R92, R96, R97) -/

/-- The frame index stays among the 48 of a superframe, and stands at 48 only while a boundary is due (R92). -/
def IndexOk (s : State) : Prop := s.frameIndex ≤ 48

/-- What the judging of a frame time makes of a port (R96, R97): a failed one costs a hunting port its run, counts on a
LOCKED port, and is the 16th in a row that returns it to HUNTING. -/
def FrameTimeJudged (v w : Port) : Prop :=
  w.goodNow = false ∧
  (v.state = .dark → w = { v with goodNow := false }) ∧
  (v.state = .hunting → w = { v with huntRun := if v.goodNow then v.huntRun else 0, goodNow := false }) ∧
  (v.state = .locked → v.goodNow = true → w = { v with failRun := 0, goodNow := false }) ∧
  (v.state = .locked → v.goodNow = false → v.failRun < 15 → w =
    { v with failRun := v.failRun + 1, badNow := v.badNow + 1, badTotal := satSucc v.badTotal }) ∧
  (v.state = .locked → v.goodNow = false → 15 ≤ v.failRun → w =
    { v with
      state := .hunting, huntRun := 0, failRun := 16, badNow := v.badNow + 1, badTotal := satSucc v.badTotal,
      lastGood := none, marginal := false, lockedWhole := false, goodNow := false })

/-! ## What is due (log 3) -/

/-- No step of the table is due that a frame or a boundary would take first: no message waits (R104), no bridge has
run its frames (R127), and no timer or reaction of the role's own blocks has come up: at the stage the phantom
reactions and timers (R11, R12, R14), the trim period (R132), the stepper (R9) and the next transfer (R18), at the
desk the talk timers (R60, R61), the unanswered pushes and pulls (R143, R148) and the deadlines (R170). -/
structure NothingDue (s : State) : Prop where
  inbox : s.receiver.inbox = []
  bridge : s.link.state = .bridging → s.link.bridging < 48
  gates : s.role = .stage → ∀ n < 96, (channelAt s n).gate.current = 0 → (channelAt s n).gate.target = 0 →
    (channelAt s n).phantom ≠ .mutingOn ∧ (channelAt s n).phantom ≠ .mutingOff
  phantoms : s.role = .stage → ∀ n < 96, (channelAt s n).phantom = .charging ∨ (channelAt s n).phantom = .discharging →
    ∀ e, (channelAt s n).phantomTimer = some e → reached s.superframe e = false
  trim : s.role = .stage → s.clock.measFrames < 4096
  stepper : s.role = .stage → s.stepperDue = false
  transfer : s.role = .stage → s.preamp.transfer = none → s.preamp.queue = []
  renews : s.role = .desk → ∀ src, (talkRecord s src).state = .momentary →
    ∀ e, (talkRecord s src).renewTimer = some e → reached s.superframe e = false
  limits : s.role = .desk → ∀ src, (talkRecord s src).state = .latched →
    ∀ e, (talkRecord s src).limitTimer = some e → reached s.superframe e = false
  pushes : s.role = .desk → ∀ e ∈ s.desk.inFlight, reached s.superframe (e.stamp + 8) = false
  pulls : s.role = .desk → ∀ e ∈ s.desk.adoption, e.record < recordCount →
    ∀ stamp, e.pulled = some stamp → reached s.superframe (stamp + 8) = false
  deadlines : s.role = .desk → ∀ i < 32, ∀ a, acceptedAt s i = some a → reached s.superframe a.expiry = false

/-- No scan is in progress at the desk (R164). -/
def NoScan (s : State) : Prop := s.role = .desk → s.scanner.pos = none ∧ s.scanner.reads = []

/-! ## The control bytes (R105, R106, R109) -/

/-- The row of the table that begins what a scheduler picks. -/
def beginRow : Pick → Instr
  | .hello => .helloBegin
  | .reply => .replyBegin
  | .note => .noteBegin
  | .status => .statusBegin
  | .meter => .meterTake
  | .pull _ => .pullBegin
  | .push _ => .pushBegin

/-- No message is eligible, by the tables of R106 and R109. -/
def NothingEligible (s : State) : Prop :=
  s.sched.helloDue = false ∧
  (s.role = .stage →
    (s.link.state = .connecting ∨ s.link.state = .linked → s.sched.replies = []) ∧
    (s.link.state = .linked → s.ring.written.toNat ≤ s.sched.noteCursor.toNat ∧ s.sched.statusDue = false ∧
      2 ≤ s.sched.meterCount)) ∧
  (s.role = .desk → s.link.state = .linked →
    (8 ≤ s.desk.adoption.countP (fun e => e.pulled.isSome) ∨
      ∀ e ∈ s.desk.adoption, e.record < 226 → e.pulled ≠ none) ∧
    (8 ≤ s.desk.inFlight.length ∨ ∀ r ∈ s.desk.dirty, ∃ e ∈ s.desk.inFlight, e.record = r))

/-- One byte position of the scheduler (R105): the next byte of the message in progress; with none, the first byte of
the message its row begins; with none eligible either, the fill byte. -/
def HandsOver (s : State) : Prop :=
  (∀ b rest, s.sched.sending = b :: rest →
    handByte s = (s.setSched { s.sched with sending := rest }, b)) ∧
  (s.sched.sending = [] → NothingEligible s → handByte s = (s, 0)) ∧
  (s.sched.sending = [] → ¬ NothingEligible s → ∃ k t b rest, pick s = some k ∧ exec (beginRow k) s = .next t ∧
    t.sched.sending = b :: rest ∧ handByte s = (t.setSched { t.sched with sending := rest }, b))

/-! ## Ramped gains (R32) -/

/-- A value lies in a range, both ends included. -/
def inRange (lo hi v : Int) : Prop := lo ≤ v ∧ v ≤ hi

/-- A ramped gain within a range (R30, R32): current and target lie in it, no more than 256 advances are to come, a gain
at rest stands on its target, and the steps left before the snap stay in the range. -/
structure RampOk (lo hi : Int) (g : Ramp) : Prop where
  current : inRange lo hi g.current
  target : inRange lo hi g.target
  remaining : g.remaining ≤ 256
  rest : g.remaining = 0 → g.current = g.target
  course : g.remaining ≠ 0 → inRange lo hi (g.current + g.step * ((g.remaining : Int) - 1))

/-- The largest gain, G(255) (R25). -/
abbrev maxGain : Int := 4194304

/-- Every ramped gain of a mix within 0..4,194,304 (R44). -/
def MixOk (x : Mix) : Prop :=
  (∀ g ∈ x.sends, RampOk 0 maxGain g) ∧ RampOk 0 maxGain x.master ∧ RampOk 0 maxGain x.gd ∧ RampOk 0 maxGain x.gt

/-- Every ramped gain of the part stays within the range of the values its owner forces and targets (R32). -/
def RampsOk (s : State) : Prop :=
  (∀ c ∈ s.channels, RampOk 0 unity c.gate) ∧ (∀ x ∈ s.mixes, MixOk x) ∧ RampOk 0 unity s.deliverer.gate

/-! ## Sizes of the tables -/

/-- Every table has the size the spec gives it: 96 channels, 12 chips, 16 mixes of 112 sends, 112 meters, 8 buffer
places with every far-end slot in each frame they hold, a last output for every far-end slot, 226 records of 16 bytes,
32 entries, 64 ring records. -/
structure Sized (s : State) : Prop where
  channels : s.channels.length = 96
  chips : s.preamp.absent.length = 12
  mixes : s.mixes.length = 16
  sends : ∀ x ∈ s.mixes, x.sends.length = 112
  meters : s.meters.table.length = 112
  store : s.meters.store.length = 112
  bufferA : s.portA.buffer.length = 8
  bufferB : s.portB.buffer.length = 8
  slotsA : ∀ f, some f ∈ s.portA.buffer → f.slots.length = farSlots s.role
  slotsB : ∀ f, some f ∈ s.portB.buffer → f.slots.length = farSlots s.role
  lastOut : s.deliverer.lastOut.length = farSlots s.role
  shadow : s.desk.shadow.length = 226
  shadowBytes : ∀ e ∈ s.desk.shadow, e.contents.length = 16
  live : s.stage.live.length = 226
  liveBytes : ∀ e ∈ s.stage.live, e.contents.length = 16
  accepted : s.scanner.accepted.length = 32
  ring : s.ring.records.length = 64

/-! ## Words that statements use -/

/-- The ring after this end writes one event (R173); at the last count it stays as it is. -/
def ringWith (type : EventType) (subject : Nat) (detail : Word) (s : State) : Ring :=
  if s.ring.written = 4294967295#32 then s.ring
  else
    { records := s.ring.records.set (s.ring.written.toNat % 64)
        { sequence := s.ring.written, stamp := s.superframe, type := eventCode type,
          origin := (roleCode s.role).setWidth 8, subject := BitVec.ofNat 16 subject, detail := detail },
      written := s.ring.written + 1 }

/-- A flag of NOTICE is set. -/
def noticed (n : Notice) (s : State) : Prop := s.regs.notice &&& noticeBit n = noticeBit n

/-- The flags that were set before are still set. -/
def noticesKept (s t : State) : Prop := s.regs.notice &&& t.regs.notice = s.regs.notice

/-- What an event's notices leave of the registers: CTRL, NOTICE_EN, the snapshot and the host's word are as they were,
and no flag and no change bit is cleared. -/
def RegsKept (s t : State) : Prop :=
  t.regs = { s.regs with notice := t.regs.notice, change := t.regs.change } ∧ noticesKept s t ∧
    s.regs.change &&& t.regs.change = s.regs.change

/-- The scan in progress at the desk stands at entry `i` and finds there a request it takes (R164 to R166). -/
def ScanAt (s : State) (i : Fin 32) (r : Request) : Prop :=
  s.role = .desk ∧ s.scanner.pos = some i.val ∧ isTakeable s i.val = true ∧ judgeEntry s i.val = .valid r

/-- Where the scan stands after entry `i`. -/
def posAfter (i : Fin 32) : Option Nat := if i.val + 1 < 32 then some (i.val + 1) else none

/-- The part's write of an entry and nothing else of the board (R163): word 0 with a state and the kind and tag that
stood there, word 6 with the result and CLAMPED, word 7 with the superframe count. -/
def EntryWritten (s t : State) (i : Nat) (state : EntryState) (result : EntryResult) (clamped : Bool) (kind : Byte)
    (tag : Half) : Prop :=
  entryWord t i 0 = tag ++ kind ++ entryStateCode state ∧
  entryWord t i 6 = 0#23 ++ BitVec.ofBool clamped ++ entryResultCode result ∧
  entryWord t i 7 = s.superframe ∧
  (∀ k, 1 ≤ k → k ≤ 5 → entryWord t i k = entryWord s i k) ∧
  ∀ a, (a < 32 * i ∨ 32 * i + 32 ≤ a) → t.board.readByte a = s.board.readByte a

/-- What an edit leaves (R137, steps 1 to 5): the clamped bytes with a new version and stamp, every other record as it
was, the counter moved on, the record out of the adoption set and in the dirty list. -/
def Edited (s t : State) (record : Nat) (requested : List Byte) : Prop :=
  shadowAt t record =
    { contents := clampContents record requested, version := s.desk.counter,
      confirmed := (shadowAt s record).confirmed, stamp := s.superframe } ∧
  (∀ r, r ≠ record → shadowAt t r = shadowAt s r) ∧
  t.desk.counter = (if s.desk.counter = 4294967295#32 then 1 else s.desk.counter + 1) ∧
  t.desk.adoption = s.desk.adoption.filter (fun e => e.record != record) ∧
  t.desk.dirty = (if record ∈ s.desk.dirty then s.desk.dirty else s.desk.dirty ++ [record]) ∧
  t.desk.inFlight = s.desk.inFlight ∧ t.desk.adopted = s.desk.adopted ∧ t.desk.binding = s.desk.binding ∧
  t.desk.decision = s.desk.decision

/-- A fibre port after a reset (R95): only its state follows the LOS level. -/
def PortAfterReset (los : Bool) (v : Port) : Prop :=
  v.state = (if los then .dark else .hunting) ∧ v.marginal = false ∧ v.huntRun = 0 ∧ v.failRun = 0 ∧ v.badNow = 0 ∧
    v.badLast = 0 ∧ v.badTotal = 0 ∧ v.lastGood = none ∧ v.newest = none ∧ ∀ place ∈ v.buffer, place = none

/-- A talk source after a reset (R57). -/
def TalkAfterReset (r : TalkRecord) : Prop :=
  r.state = .off ∧ r.mask = 0 ∧ r.limit = 0 ∧ r.limitTimer = none ∧ r.renewTimer = none

/-- The contents of a reset (R23, R55, R57, R81, R95, R110, R154, R155, R182, and the tables that open chapters 5 and
7), for a role and the two LOS levels. Every table has its size, so no clause over the members of one is empty. That the
inbox is empty, the HELLO age 3, no stepper expiry pending, no arrival to measure from and no frame sent yet is the
model's own (log 15). -/
structure AfterReset (sampled : Role) (losA losB : Bool) (t : State) : Prop where
  role : t.role = sampled
  sizes : Sized t
  counts : t.superframe = 0 ∧ t.frameIndex = 0
  board : ∀ a, t.board.readByte a = 0
  scanner : (∀ i, acceptedAt t i = none) ∧ t.scanner.timer = 0 ∧ t.scanner.pos = none ∧ t.scanner.reads = [] ∧
    t.scanner.count = 0
  status : ∀ k, statusWord t k = 0
  ring : t.ring.written = 0 ∧ ∀ e ∈ t.ring.records, e = ⟨0, 0, 0, 0, 0, 0⟩
  meterTable : (∀ w ∈ t.meters.table, w = 0) ∧ ∀ e ∈ t.meters.store, e = none
  collector : t.meters.cursor = 0 ∧ t.meters.mark = 0 ∧ t.meters.sweeps = 0
  shadow : ∀ r < recordCount, shadowAt t r = ⟨defaultContents r, 0, 0, 0⟩
  lists : t.desk.dirty = [] ∧ t.desk.inFlight = [] ∧ t.desk.adoption = [] ∧ t.desk.counter = 1 ∧ t.desk.adopted = 0 ∧
    t.desk.binding = .unbound ∧ t.desk.decision = .none
  live : (∀ r < recordCount, t.stage.live[r]? = some ⟨defaultContents r, 0, 0⟩) ∧ t.stage.fresh = true
  ctrl : readCtrl t = (if sampled = .stage then 0x100 else 0)
  notices : t.regs.notice = 0 ∧ t.regs.snapshot = 0 ∧ t.regs.enable = 0 ∧ t.regs.change = 0
  ports : PortAfterReset losA t.portA ∧ PortAfterReset losB t.portB
  link : t.link.state = .down ∧ t.link.heard = false ∧ t.link.roleFault = false ∧ t.link.farFresh = false ∧
    t.link.bridging = 0 ∧ t.link.returnTo = none ∧ t.link.helloAge = 3
  selector : t.selector.active = none ∧ t.selector.cleanCount = 0
  audio : (∀ x ∈ t.deliverer.lastOut, x = 0) ∧ t.deliverer.run = 0 ∧ t.deliverer.rejoinPending = true ∧
    t.deliverer.gate = ⟨0, 0, 0, 0⟩
  delivery : t.deliverer.cursor = 0 ∧ t.deliverer.hold = 0 ∧ t.deliverer.switchover = none ∧ t.deliverer.maskInUse = 0
  talk : TalkAfterReset t.arbiter.a ∧ TalkAfterReset t.arbiter.b ∧ t.arbiter.carried = none ∧ t.talkSeen = false ∧
    t.button.pressed = false ∧ t.button.counter = 0
  channels : ∀ c ∈ t.channels, c.clip = false ∧ c.peak = 0 ∧ c.polarity = false ∧ c.gate = ⟨unity, unity, 0, 0⟩ ∧
    c.phantom = .off ∧ c.phantomTimer = none ∧ c.appliedGain = 0 ∧ c.appliedPad = false ∧
    c.appliedPhantom = false ∧ c.sent = ⟨0, false, false, false⟩ ∧ c.mismatch = 0
  stepper : t.stepperDue = false
  preamp : t.preamp.queue = List.range 96 ∧ t.preamp.transfer = none ∧ ∀ f ∈ t.preamp.absent, f = false
  mixes : ∀ x ∈ t.mixes, (∀ g ∈ x.sends, g = ⟨0, 0, 0, 0⟩) ∧ x.master = ⟨0, 0, 0, 0⟩ ∧ x.gd = ⟨0, 0, 0, 0⟩ ∧
    x.gt = ⟨0, 0, 0, 0⟩ ∧ x.clip = false ∧ x.peak = 0
  island : t.island.engaged = false ∧ t.island.count = 0 ∧ t.island.lastElapsed = 0 ∧ t.island.lastEngaged = false
  clock : t.clock.state = .free ∧ t.clock.trim = 0 ∧ t.clock.measFrames = 0 ∧ t.clock.measCycles = 0 ∧
    t.clock.runPos = 0 ∧ t.clock.realignPending = false ∧ t.clock.frameLen = 512 ∧ t.clock.lastArrival = none
  channel : t.sched.sending = [] ∧ t.sched.helloDue = false ∧ t.sched.statusDue = false ∧ t.sched.meterCount = 0 ∧
    t.sched.replies = [] ∧ t.sched.noteCursor = 0 ∧ t.receiver.held = [] ∧ t.receiver.inbox = []
  output : t.output.slots = List.replicate (if sampled = .stage then 32 else 96) 0 ∧ t.output.frame = []

/-- The rows that write CTRL without a reset, as whole-word writes of one word (R177). -/
def ctrlRows (w : Word) : List Instr :=
  [.runStart .word w, .runStop .word w, .scanPeriod .word w, .meterCadence .word w, .meterHoldSet .word w,
    .meterHoldRelease .word w, .policy .word w]

/-- A host write that R161 refuses, by the role of the part. -/
def RefusedWrite (role : Role) : Instr → Prop
  | .softReset width _ => width ≠ .word
  | .runStart width _ => width ≠ .word
  | .runStop width _ => width ≠ .word
  | .scanPeriod width _ => width ≠ .word
  | .meterCadence width _ => width ≠ .word
  | .meterHoldSet width _ => width ≠ .word
  | .meterHoldRelease width _ => width ≠ .word
  | .policy width _ => width ≠ .word
  | .noticeWrite width _ => width ≠ .word
  | .noticeEnWrite width _ => width ≠ .word
  | .linkstatWrite _ _ => True
  | .windowWrite offset width _ _ =>
    width ≠ .word ∨ 0x400 ≤ offset.toNat ∨ 6 ≤ offset.toNat / 4 % 8 ∨ role = .stage
  | _ => False

end Sys2Proof.Machine
end

