-- ==== Sys2Proof/WellFormed.lean ====
section
/-! DEFINITION. Which commands the outside can send: the operands the spec's own layouts admit. `exec` gives every
command a meaning, well formed or not; this check says which ones stand for something the hardware meets. -/

namespace Sys2Proof

/-- The byte counts of the two frame layouts (R90). -/
abbrev stageFrameBytes : Nat := 297

/-- The byte count of a desk frame (R90). -/
abbrev deskFrameBytes : Nat := 61

/-- A received frame has one of the two lengths that are sent (R90), and the frame in progress has run at most
512 cycles (R131). -/
def wellFormedArrival (bytes : List Byte) (phase : Nat) : Bool :=
  (bytes.length == stageFrameBytes || bytes.length == deskFrameBytes) && decide (phase ≤ 512)

/-- The check of a command's operands. A CTRL row carries the CTRL word that its name describes (R177); a whole
word write to the window is word aligned (R160); a FRAME carries a full set of lanes, 96 samples at the stage or
32 at the desk (R91). -/
def wellFormed : Instr → Bool
  | .softReset _ w => w.getLsbD 7
  | .runStart _ w => w.getLsbD 0 && !w.getLsbD 7
  | .runStop _ w => !w.getLsbD 0 && !w.getLsbD 7
  | .scanPeriod _ w => !w.getLsbD 7
  | .meterCadence _ w => !w.getLsbD 7
  | .meterHoldSet _ w => w.getLsbD 5 && !w.getLsbD 7
  | .meterHoldRelease _ w => !w.getLsbD 5 && !w.getLsbD 7
  | .policy _ w => !w.getLsbD 7
  | .windowWrite off width _ _ => width != .word || off.toNat % 4 == 0
  | .frame slots _ => slots.length == 96 || slots.length == 32
  | .frameReceived _ bytes phase => wellFormedArrival bytes phase
  | .portLock _ bytes phase => wellFormedArrival bytes phase
  | .powerOn _ _ _ => true
  | .noticeRead => true
  | .noticeWrite _ _ => true
  | .noticeEnWrite _ _ => true
  | .linkstatRead => true
  | .linkstatWrite _ _ => true
  | .superframeBoundary _ => true
  | .boardScan => true
  | .setRecord _ => true
  | .setField _ => true
  | .talkPress _ => true
  | .talkRelease _ => true
  | .replayAll _ => true
  | .talkRenewExpiry _ => true
  | .talkLimitExpiry _ => true
  | .deadlineExpiry _ => true
  | .inFlightTimeout => true
  | .pullTimeout _ => true
  | .gainStepperExpiry => true
  | .gateClosed _ => true
  | .phantomTimerExpiry _ => true
  | .transferStart => true
  | .transferComplete _ => true
  | .losAssert _ => true
  | .losDeassert _ => true
  | .portUnlock _ => true
  | .bridgingExpiry => true
  | .islandEngage => true
  | .trimPeriodEnd => true
  | .debounceChange => true
  | .helloBegin => true
  | .pushBegin => true
  | .pullBegin => true
  | .replyBegin => true
  | .noteBegin => true
  | .statusBegin => true
  | .meterTake => true
  | .helloReceived => true
  | .pushReceived => true
  | .pullReceived => true
  | .ackReceived => true
  | .reportReceived => true
  | .noteReceived => true
  | .statusReceived => true
  | .meterReceived => true

end Sys2Proof
end

