-- ==== Sys2Proof/Certificates/Slice0/Obligations.lean ====
section
/-! DEFINITION. The statements about the machine. A docstring names the section of the spec a statement is read from;
where it rests on a choice of the model, it names the log entry. -/

section

open Sys2Proof Sys2Proof.Machine

/-! ## The machine as a whole -/

/-- Step takes the command at the front of the queue; an empty queue idles, which is the model's choice (log 2). -/
def Obligations.StepRunsFrontCommand : Prop :=
  (∀ (c : Instr) (rest : List Instr) (s : State), s.pending = c :: rest → step s = exec c (s.setPending rest)) ∧
  ∀ s : State, s.pending = [] → step s = .next s

/-- No command touches the queue of waiting commands: the queue is the model's own and so is this clause (logs 2 and
15). Only POWER_ON samples the role (section 9.8). -/
def Obligations.QueueAndRoleKept : Prop :=
  ∀ (c : Instr) (s t : State), exec c s = .next t →
    t.pending = s.pending ∧ ((∀ h a b, c ≠ .powerOn h a b) → t.role = s.role)

/-- The desk's lists stay consistent, and no entry stays ACCEPTED against a CLEAN record (sections 8.4 to 8.8). -/
def Obligations.ReplicationInvariant : Prop :=
  ∀ s t : State, ListsOk s → AcceptedOk s → step s = .next t → ListsOk t ∧ AcceptedOk t

/-- The board's RAM keeps its canonical form and stays inside the board region (section 9.1). -/
def Obligations.BoardMemoryInvariant : Prop :=
  ∀ s t : State, BoardOk s → step s = .next t → BoardOk t

/-- A channel appears in the update queue at most once (section 1.6). -/
def Obligations.UpdateQueueInvariant : Prop :=
  ∀ s t : State, QueueOk s → step s = .next t → QueueOk t

/-- The carried source stays the one the arbiter decides: B only while A is OFF (section 4.3). -/
def Obligations.CarriedSourceInvariant : Prop :=
  ∀ s t : State, CarriedOk s → step s = .next t → CarriedOk t

/-- The mask in use is empty outside LINKED, island engaged is 1 only in LOST after a nonzero hold, and every far-end
slot is zero in DOWN and LOST (sections 4.4, 3.6, 7.2). -/
def Obligations.LinkStateInvariant : Prop :=
  ∀ s t : State, MaskOk s → IslandOk s → SilentOk s → step s = .next t → MaskOk t ∧ IslandOk t ∧ SilentOk t

/-- Every ramped gain stays in its range, the trim within −64..+63, and the frame index within its superframe (sections
2.3, 7.4, 6.1). -/
def Obligations.RangesInvariant : Prop :=
  ∀ s t : State, RampsOk s → TrimOk s → IndexOk s → step s = .next t → RampsOk t ∧ TrimOk t ∧ IndexOk t

/-- Every table keeps the size the spec gives it, the Deliverer's last outputs and the slots of every buffered frame
among them. -/
def Obligations.SizesInvariant : Prop :=
  ∀ s t : State, Sized s → step s = .next t → Sized t

/-- The machine right after reset meets every invariant stated here. -/
def Obligations.ResetMeetsInvariants : Prop :=
  ListsOk State.reset ∧ AcceptedOk State.reset ∧ BoardOk State.reset ∧ QueueOk State.reset ∧ CarriedOk State.reset ∧
    MaskOk State.reset ∧ IslandOk State.reset ∧ SilentOk State.reset ∧ RampsOk State.reset ∧ TrimOk State.reset ∧
    IndexOk State.reset ∧ Sized State.reset

/-! ## Layouts -/

/-- What an end sends, the far end's port reads back whole: tag, header, every audio slot and the control bytes, in both
directions; and of the frames long enough to hold a tag, control bytes and a check (log 6), the bad ones are those whose
check differs from the check of the bytes before it and those with a frame index of 48 to 63 (sections 6.1, 11.3). -/
def Obligations.FrameRoundTrip : Prop :=
  (∀ (role : Role) (bytes : List Byte), 8 ≤ bytes.length →
    (checkFrame role bytes = none ↔
      crc16 (bytes.take (bytes.length - 2)) ≠ half16At bytes (bytes.length - 2) ∨
        48 ≤ ((byteAt bytes 1).extractLsb' 0 6).toNat)) ∧
  ∀ (superframe : Word) (index : Nat) (control : List Byte), index < 48 → control.length = 4 →
    (∀ (talk island : Bool) (link : LinkState) (slots : List Int),
      slots.length = 96 → (∀ x ∈ slots, inRange (-8388608) 8388607 x) →
      checkFrame .desk (stageFrame superframe index (stageHeader talk island link) slots control) =
        some { tag := 48 * (superframe.toNat % 256) + index, header := 0#8 ++ stageHeader talk island link,
               slots := slots, control := control }) ∧
    ∀ (mask : Half) (returns : List Int) (talk : Int),
      returns.length = 16 → (∀ x ∈ returns, inRange (-8388608) 8388607 x) → inRange (-8388608) 8388607 talk →
      checkFrame .stage (deskFrame superframe index mask returns talk control) =
        some { tag := 48 * (superframe.toNat % 256) + index, header := mask, slots := returns ++ [talk],
               control := control }

/-- A message laid out as section 6.3 gives it is recovered whole by a receiver in HUNT, with nothing left held, and a
fill byte before it is discarded. A message with a differing check is discarded, and the bytes after its header are
taken again in HUNT before those that follow; a length above the type's maximum rejects the header and is taken again.
-/
def Obligations.MessageRoundTrip : Prop :=
  let received := fun (bytes : List Byte) => receiveLoop (receiveFuel [] bytes) [] bytes
  (∀ (type : MsgType) (payload : List Byte) (fill : Nat), payload.length ≤ type.maxPayload →
    (messageBytes type payload).length = payload.length + 4 ∧
    received (List.replicate fill 0 ++ messageBytes type payload) = ([], [{ type := type, payload := payload }])) ∧
  (∀ (type : MsgType) (payload rest : List Byte) (check : Half), payload.length ≤ type.maxPayload →
    check ≠ crc16 (type.header :: BitVec.ofNat 8 payload.length :: payload) →
    let after := BitVec.ofNat 8 payload.length :: payload ++ be16 check ++ rest
    received (type.header :: after) = received after) ∧
  ∀ (type : MsgType) (length : Byte) (rest : List Byte), type.maxPayload < length.toNat →
    received (type.header :: length :: rest) = received (length :: rest)

/-- The outgoing preamp word: chip address, input, gain, pad, phantom, and odd parity over all 16 bits (section 1.7,
11.2). -/
def Obligations.PreampWordLayout : Prop :=
  ∀ (channel gain : Nat) (pad phantom : Bool), channel < 96 → gain ≤ 60 →
    ((preampWord channel gain pad phantom).extractLsb' 12 4).toNat = channel / 8 ∧
    ((preampWord channel gain pad phantom).extractLsb' 9 3).toNat = channel % 8 ∧
    ((preampWord channel gain pad phantom).extractLsb' 3 6).toNat = gain ∧
    (preampWord channel gain pad phantom).getLsbD 2 = pad ∧
    (preampWord channel gain pad phantom).getLsbD 1 = phantom ∧
    onesCount (preampWord channel gain pad phantom) % 2 = 1

/-! ## Level arithmetic (chapter 2) -/

/-- R27: G is non-decreasing, strictly from code 41 up, with the equal gains at the bottom, no zero but code 0, and the
doubling relation. -/
def Obligations.LevelTable : Prop :=
  (∀ c < 255, levelGain c ≤ levelGain (c + 1)) ∧ (∀ c < 255, 40 ≤ c → levelGain c < levelGain (c + 1)) ∧
  levelGain 39 = 16 ∧ levelGain 40 = 16 ∧ (∀ c ≤ 10, 3 ≤ c → levelGain c = 2) ∧ levelGain 1 = 1 ∧ levelGain 2 = 1 ∧
  levelGain 0 = 0 ∧ (∀ c ≤ 255, 1 ≤ c → levelGain c ≠ 0) ∧
  (∀ c ≤ 243, 231 ≤ c → levelGain (c + 12) = 2 * levelGain c) ∧
  (∀ c ≤ 230, 1 ≤ c → levelGain (c + 12) = 2 * levelGain c ∨ levelGain (c + 12) = 2 * levelGain c + 1) ∧
  levelGain 221 = 588493 ∧ levelGain 233 = 1176987

/-- The course of a ramp (section 2.3): a new target takes the truncated 256th of the way as its step, an advance adds
the step and the last one snaps, so the target is reached exactly 256 advances after it is set, never overshooting on
the way; an equal target changes nothing, and a gain at rest does not advance; and the gain rounding (section 2.4) is
to nearest with halves up, and never raises a magnitude under a gain of at most unity. -/
def Obligations.LevelArithmetic : Prop :=
  (∀ (g : Ramp) (t : Int), t ≠ g.target →
    rampTarget t g = { current := g.current, target := t, step := (t - g.current).tdiv 256, remaining := 256 } ∧
    (Nat.iterate rampAdvance 256 (rampTarget t g)).current = t ∧
    (Nat.iterate rampAdvance 256 (rampTarget t g)).remaining = 0 ∧
    ∀ k ≤ 256, (Nat.iterate rampAdvance k (rampTarget t g)).remaining = 256 - k ∧
      inRange (min g.current t) (max g.current t) (Nat.iterate rampAdvance k (rampTarget t g)).current) ∧
  (∀ g : Ramp, rampTarget g.target g = g ∧ (g.remaining = 0 → rampAdvance g = g) ∧
    (g.remaining = 1 → rampAdvance g = { g with current := g.target, remaining := 0 }) ∧
    (2 ≤ g.remaining → rampAdvance g = { g with current := g.current + g.step, remaining := g.remaining - 1 })) ∧
  (∀ v : Int, 1048576 * gainRound v ≤ v + 524288 ∧ v + 524288 < 1048576 * (gainRound v + 1)) ∧
  ∀ v g : Int, inRange 0 unity g →
    (0 ≤ v → inRange 0 v (gainRound (v * g))) ∧ (v ≤ 0 → inRange v 0 (gainRound (v * g)))

/-- The clamp of a record (section 8.1): its bytes by kind, sixteen of them, unchanged by a second clamp, and a request
is clamped exactly when some stored byte differs from the byte requested. -/
def Obligations.ClampLaw : Prop :=
  ∀ (record : Nat) (b : List Byte), record < recordCount →
    (clampContents record b).length = 16 ∧
    clampContents record (clampContents record b) = clampContents record b ∧
    (isClamped record b = true ↔ ∃ k < 16, byteAt (clampContents record b) k ≠ byteAt b k) ∧
    (record < 96 →
      (byteAt (clampContents record b) 0).toNat = min 60 (byteAt b 0).toNat ∧
      (∀ k, 1 ≤ k → k ≤ 3 → byteAt (clampContents record b) k = if byteAt b k = 0 then 0 else 1)) ∧
    (96 ≤ record → record < 112 →
      (byteAt (clampContents record b) 1).toNat = min 60 (byteAt b 1).toNat ∧
      ∀ k, k = 0 ∨ k = 2 ∨ k = 3 → byteAt (clampContents record b) k = byteAt b k) ∧
    (112 ≤ record → record < 224 → ∀ k < 16, byteAt (clampContents record b) k = byteAt b k) ∧
    (record = 224 → byteAt (clampContents record b) 0 =
        (if 96 ≤ (byteAt b 0).toNat ∧ (byteAt b 0).toNat ≤ 254 then 255 else byteAt b 0) ∧
      byteAt (clampContents record b) 1 = byteAt b 1 ∧ byteAt (clampContents record b) 2 = byteAt b 2) ∧
    (record = 225 → byteAt (clampContents record b) 0 = byteAt b 0 ∧
      byteAt (clampContents record b) 1 =
        (if 61 ≤ (byteAt b 1).toNat ∧ (byteAt b 1).toNat ≤ 254 then 60 else byteAt b 1)) ∧
    ((record < 112 → ∀ k, 4 ≤ k → k < 16 → byteAt (clampContents record b) k = 0) ∧
      (record = 224 → ∀ k, 3 ≤ k → k < 16 → byteAt (clampContents record b) k = 0) ∧
      (record = 225 → ∀ k, 2 ≤ k → k < 16 → byteAt (clampContents record b) k = 0))

/-! ## The host's registers and window (chapter 9) -/

/-- A reset, power-on or soft, leaves what sections 9.8, 1.8, 3.7, 4.1, 5.1, 6.2, 6.4, 7 and 8.10 give; power-on samples
the role, a soft reset keeps it. The LOS levels a soft reset meets are those on the pins. The start of the fields
that are the model's own (the inbox, the HELLO age, the stepper expiry, the frame sent) is log 15. -/
def Obligations.Resets : Prop :=
  (∀ (strapHigh losA losB : Bool) (s : State), ∃ t, exec (.powerOn strapHigh losA losB) s = .next t ∧
    AfterReset (if strapHigh then .stage else .desk) losA losB t) ∧
  ∀ (w : Word) (s : State), w.getLsbD 7 = true → ∃ t, exec (.softReset .word w) s = .next t ∧
    AfterReset s.role s.portA.los s.portB.los t

/-- A whole-word CTRL write that carries no reset (section 9.6): every writable field takes the written value, RESET
reads 0 and ROLE is kept; RUN 0→1 at the desk starts the scan count again; no other register changes but NOTICE, which
gains METER or nothing; and only a hold release touches the meters or NOTICE. -/
def Obligations.CtrlWrites : Prop :=
  ∀ (w : Word) (i : Instr) (s : State), i ∈ ctrlRows w → wellFormed i = true →
    ∃ t, exec i s = .next t ∧ Keeps [.regs, .scanner, .meters] s t ∧
      readCtrl t = (w &&& 0x7F#32) ||| (if s.role = .stage then 0x100#32 else 0#32) ∧
      t.scanner = (if s.role = .desk ∧ s.regs.ctrl.run = false ∧ w.getLsbD 0 = true then
        { s.scanner with timer := 0 } else s.scanner) ∧
      t.regs = { s.regs with ctrl := t.regs.ctrl, notice := t.regs.notice } ∧
      (t.regs.notice = s.regs.notice ∨ t.regs.notice = s.regs.notice ||| noticeBit .meter) ∧
      (¬ (s.role = .desk ∧ s.regs.ctrl.hold = true ∧ w.getLsbD 5 = false) →
        t.meters = s.meters ∧ t.regs = { s.regs with ctrl := t.regs.ctrl })

/-- Releasing the hold at the desk (section 5.2), by any CTRL row whose word has METER_HOLD 0: every present pending
entry is written to the table, the others' words are kept, the store empties, the counter is compared with the
cadence, and of the registers only CTRL and NOTICE change. That the cadence compared with is the one the same write
carries is a reading of the spec (log 9). -/
def Obligations.HoldReleased : Prop :=
  ∀ (w : Word) (c : Instr) (s : State), c ∈ ctrlRows w → wellFormed c = true → w.getLsbD 5 = false → s.role = .desk →
    s.regs.ctrl.hold = true → s.meters.table.length = 112 → s.meters.store.length = 112 →
    ∃ t, exec c s = .next t ∧ Keeps [.regs, .scanner, .meters] s t ∧
      (∀ i < 112, t.meters.table.getD i 0 = ((s.meters.store.getD i none).getD (s.meters.table.getD i 0))) ∧
      t.meters.store = List.replicate 112 none ∧ t.meters.cursor = s.meters.cursor ∧ t.meters.mark = s.meters.mark ∧
      t.regs = { s.regs with ctrl := t.regs.ctrl, notice := t.regs.notice } ∧
      (2 ^ (w.extractLsb' 3 2).toNat ≤ s.meters.sweeps → t.meters.sweeps = 0 ∧
        t.regs.notice = s.regs.notice ||| noticeBit .meter) ∧
      (s.meters.sweeps < 2 ^ (w.extractLsb' 3 2).toNat →
        t.meters.sweeps = s.meters.sweeps ∧ t.regs.notice = s.regs.notice)

/-- A refused write is dropped and sets the WINDOW notice; a whole aligned word in words 0 to 5 of a board entry at
the desk is stored as written (section 9.1). Where the write falls together with the scan's read of that word (section
9.3) and the read is taken first, the scan goes on with every word of the entry as it was, and an entry that its read
of word 0 finds not POSTED, or held, is passed over then; else it meets the new word, unless it has read that word
before. That the race is told by an operand, and the scan's position by the state, is the model's choice (logs 15 and
17). -/
def Obligations.HostWrites : Prop :=
  (∀ (i : Instr) (s : State), RefusedWrite s.role i →
    ∃ t, exec i s = .next t ∧ Keeps [.regs] s t ∧
      t.regs = { s.regs with notice := s.regs.notice ||| noticeBit .window }) ∧
  ∀ (offset : BitVec 14) (value : Word) (s : State), s.role = .desk → offset.toNat % 4 = 0 → offset.toNat < 0x400 →
    offset.toNat / 4 % 8 ≤ 5 → BoardOk s →
    let entry := offset.toNat / 32
    let k := offset.toNat / 4 % 8
    let stored := fun (t : State) => readWindow t offset.toNat = value ∧
      ∀ a, (a < offset.toNat ∨ offset.toNat + 4 ≤ a) → t.board.readByte a = s.board.readByte a
    (∃ t, exec (.windowWrite offset .word value false) s = .next t ∧ Keeps [.board] s t ∧ stored t ∧
      (s.scanner.reads.lookup k = none ∨ s.scanner.pos ≠ some entry → scanWord t entry k = value)) ∧
    ((∀ n, s.scanner.pos = some n → entry < n) →
      ∃ t, exec (.windowWrite offset .word value true) s = .next t ∧ Keeps [.board] s t ∧ stored t) ∧
    (s.scanner.pos = some entry → isTakeable s entry = true →
      ∃ t, exec (.windowWrite offset .word value true) s = .next t ∧ Keeps [.board, .scanner] s t ∧ stored t ∧
        t.scanner = { s.scanner with reads := t.scanner.reads } ∧
        ∀ j < 8, scanWord t entry j = scanWord s entry j) ∧
    (s.scanner.pos = some entry → isTakeable s entry = false →
      ∃ t, exec (.windowWrite offset .word value true) s = .next t ∧ Keeps [.board, .scanner] s t ∧ stored t ∧
        t.scanner = { s.scanner with pos := if entry + 1 < 32 then some (entry + 1) else none, reads := [] }) ∧
    ∀ n, s.scanner.pos = some n → n < entry →
      exec (.windowWrite offset .word value true) s =
        exec (.windowWrite offset .word value true) (scanTo entry (some entry) s)

/-- NOTICE and NOTICE_EN (section 9.6): a read returns the flags and copies them into the snapshot; a write clears each
flag written 0 whose snapshot bit is 1, and then that snapshot bit; NOTICE_EN is stored whole, and the pin is asserted
exactly while a flag is set in both. -/
def Obligations.Notices : Prop :=
  (∀ s : State, ∃ t, exec .noticeRead s = .next t ∧ Keeps [.regs] s t ∧
    t.regs = { s.regs with snapshot := s.regs.notice, hostData := s.regs.notice.setWidth 32 }) ∧
  (∀ (w : Word) (s : State), ∃ t, exec (.noticeWrite .word w) s = .next t ∧ Keeps [.regs] s t ∧
    (∀ b < 7,
      t.regs.notice.getLsbD b = (s.regs.notice.getLsbD b && (w.getLsbD b || !s.regs.snapshot.getLsbD b)) ∧
      t.regs.snapshot.getLsbD b = (s.regs.snapshot.getLsbD b && w.getLsbD b)) ∧
    t.regs.enable = s.regs.enable ∧ t.regs.ctrl = s.regs.ctrl ∧ t.regs.change = s.regs.change) ∧
  (∀ (w : Word) (s : State), ∃ t, exec (.noticeEnWrite .word w) s = .next t ∧ Keeps [.regs] s t ∧
    t.regs = { s.regs with enable := w.setWidth 7 }) ∧
  ∀ s : State, interruptPin s = true ↔ ∃ b < 7, s.regs.notice.getLsbD b = true ∧ s.regs.enable.getLsbD b = true

/-- What the host reads. LINKSTAT (section 9.6): the six fields from their owners and the change bits, together; then
every change bit is cleared. The window (sections 9.1, 9.5, 11.5 to 11.9): the words of the board, of the status block,
of the event ring, of the meter table and of the shadow table, which at the stage shows the live table (section 8.11),
and the words that no region has. That a window read is a function of the state, and UPDATING never seen set, is the
model's choice (log 14), and so is that it shows as 0 what a REPORT brought in bytes that section 11.6 marks so (log
30). -/
def Obligations.HostReads : Prop :=
  (∀ s : State, ∃ t, exec .linkstatRead s = .next t ∧ Keeps [.regs] s t ∧
    t.regs = { s.regs with hostData := t.regs.hostData, change := 0 } ∧
    t.regs.hostData.extractLsb' 0 2 = portCode s.portA ∧ t.regs.hostData.extractLsb' 2 2 = portCode s.portB ∧
    t.regs.hostData.extractLsb' 4 2 = activeCode s.selector.active ∧
    t.regs.hostData.extractLsb' 6 3 = linkCode s.link.state ∧
    t.regs.hostData.getLsbD 9 = (match s.role with | .desk => s.talkSeen | .stage => s.button.pressed) ∧
    t.regs.hostData.extractLsb' 10 2 = carriedCode s.arbiter.carried ∧
    t.regs.hostData.extractLsb' 16 5 = s.regs.change) ∧
  ∀ s : State,
    let field := fun (offset low width : Nat) => (readWindow s offset).extractLsb' low width
    (∀ i < 32, ∀ k < 8, ∀ b < 4, field (32 * i + 4 * k) (8 * b) 8 = s.board.readByte (32 * i + 4 * k + b)) ∧
    readWindow s 0x400 = s.superframe ∧ readWindow s 0x404 = s.ring.written ∧
    field 0x408 0 16 = BitVec.ofNat 16 s.desk.dirty.length ∧
    field 0x408 16 8 = BitVec.ofNat 8 s.desk.inFlight.length ∧ field 0x408 24 8 = 0#8 ∧
    field 0x40C 0 16 = BitVec.ofNat 16 s.desk.adoption.length ∧ field 0x40C 16 16 = BitVec.ofNat 16 s.desk.adopted ∧
    readWindow s 0x410 = s.portA.badTotal ∧ readWindow s 0x414 = s.portB.badTotal ∧
    readWindow s 0x418 = s.status.switches ∧ readWindow s 0x41C = s.status.concealed ∧
    field 0x420 0 8 = (if s.status.farIsland then 1#8 else 0#8) ∧ field 0x420 8 8 = s.status.farLink.setWidth 8 ∧
    field 0x420 16 8 = (if s.desk.binding = .bound then 1#8 else 0#8) ∧
    field 0x420 24 8 =
      (match s.desk.decision with | .none => 0#8 | .fullReplay => 1#8 | .adoption => 2#8 | .resume => 3#8) ∧
    (∀ b < 8, field (0x424 + 4 * (b / 4)) (8 * (b % 4)) 8 = byteAt s.status.stageStatus b) ∧
    readWindow s 0x42C = s.status.statusCount ∧ readWindow s 0x430 = s.scanner.count ∧
    (∀ k, 13 ≤ k → k < 16 → readWindow s (0x400 + 4 * k) = 0) ∧
    (∀ (k : Nat) (e : Event), k < 64 → s.ring.records[k]? = some e →
      let base := 0x440 + 16 * k
      readWindow s base = e.sequence ∧ readWindow s (base + 4) = e.stamp ∧ field (base + 8) 0 8 = e.type ∧
        field (base + 8) 8 8 = e.origin ∧ field (base + 8) 16 16 = e.subject ∧ readWindow s (base + 12) = e.detail) ∧
    (∀ (i : Nat) (w : Word), i < 112 → s.meters.table[i]? = some w → readWindow s (0x840 + 4 * i) = w) ∧
    (∀ r < 226, s.role = .desk →
      let base := 0xA00 + 32 * r
      let fields := if r < 112 then 4 else if r < 224 then 16 else if r = 224 then 3 else 2
      let dirty := s.desk.dirty.contains r
      let flying := s.desk.inFlight.any fun e => e.record == r
      (∀ k < 16, field (base + 4 * (k / 4)) (8 * (k % 4)) 8 =
        if k < fields then byteAt (shadowAt s r).contents k else 0) ∧
      readWindow s (base + 16) = (shadowAt s r).version ∧ readWindow s (base + 20) = (shadowAt s r).confirmed ∧
      readWindow s (base + 24) = (if dirty && flying then 3 else if dirty then 1 else if flying then 2
        else if s.desk.adoption.any (fun e => e.record == r) then 4 else 0) ∧
      readWindow s (base + 28) = (shadowAt s r).stamp) ∧
    (∀ (r : Nat) (live : Live), r < 226 → s.role = .stage → s.stage.live[r]? = some live →
      let base := 0xA00 + 32 * r
      (∀ k < 16, field (base + 4 * (k / 4)) (8 * (k % 4)) 8 = byteAt live.contents k) ∧
      readWindow s (base + 16) = live.version ∧ readWindow s (base + 20) = live.version ∧
      readWindow s (base + 24) = 0 ∧ readWindow s (base + 28) = live.stamp) ∧
    ∀ offset, 0x2640 ≤ offset → offset < 0x4000 → readWindow s offset = 0

/-! ## A local frame -/

/-- The input chain (section 1.1): clip on the raw sample, polarity with saturation, the gate advanced before it
multiplies, the gain rounding, and the peak; the post-gate sample stays in the sample range, and nothing else of the
channel changes. -/
def Obligations.ChannelChain : Prop :=
  ∀ (x : Int) (c : Channel), inRange (-8388608) 8388607 x → RampOk 0 unity c.gate → c.peak ≤ 8388608 →
    let y := if c.polarity then (if x = -8388608 then 8388607 else -x) else x
    let g := rampAdvance c.gate
    let r := chainStep x c
    r.2 = (y * g.current + 524288) / 1048576 ∧ inRange (-8388608) 8388607 r.2 ∧
    (g.current = unity → r.2 = y) ∧ (g.current = 0 → r.2 = 0) ∧
    (r.1.clip = true ↔ c.clip = true ∨ 8355840 ≤ x ∨ x ≤ -8355840) ∧
    r.1.peak = max c.peak r.2.natAbs ∧ r.1.peak ≤ 8388608 ∧
    r.1 = { c with clip := r.1.clip, gate := g, peak := r.1.peak }

/-- One mix for one frame (sections 3.2 to 3.4): each gain takes its target and advances once, a send to the gain of its
code, the talk gains by mask, button and route, the master by its effective code; the bus sum over the sources under the
sends and its clamp; the rounding and saturation of the output, the clip latch and the peak. -/
def Obligations.MixComputation : Prop :=
  ∀ (s : State) (sources : List Int) (d t : Int) (m : Nat) (x : Mix),
    let r := mixStep s sources d t m x
    let ramped := fun (target : Int) (g : Ramp) => rampAdvance (rampTarget target g)
    let code := (liveByte s (96 + m) 0).toNat
    let dim := (liveByte s (96 + m) 1).toNat
    let islandDim := (liveByte s 225 1).toNat
    let deskTarget := if s.deliverer.maskInUse.getLsbD m = true then levelGain (liveByte s (96 + m) 2).toNat else 0
    let stageTarget :=
      if s.button.pressed = true ∧ liveByte s 224 0 ≠ 255 ∧ (liveByte s 224 2 ++ liveByte s 224 1).getLsbD m = true then
        levelGain (liveByte s (96 + m) 3).toNat
      else 0
    let engaged := deskTarget ≠ 0 ∨ stageTarget ≠ 0
    let sum := ((List.zip sources r.1.sends).map fun y => y.1 * y.2.current).sum
    let p := max (-2147483648) (min 2147483647 ((sum + 524288) / 1048576))
    let v := (p * r.1.master.current + d * r.1.gd.current + t * r.1.gt.current + 524288) / 1048576
    r.2 = max (-8388608) (min 8388607 v) ∧
    (r.1.clip = true ↔ x.clip = true ∨ v < -8388608 ∨ 8388607 < v) ∧ r.1.peak = max x.peak r.2.natAbs ∧
    r.1.sends.length = x.sends.length ∧
    (Sized s → ∀ n < 112, r.1.sends[n]? =
      (x.sends[n]?).map (ramped (levelGain (liveByte s (112 + 7 * m + n / 16) (n % 16)).toNat))) ∧
    r.1.gd = ramped deskTarget x.gd ∧ r.1.gt = ramped stageTarget x.gt ∧
    ∃ e, r.1.master = ramped (levelGain e) x.master ∧
      (code = 0 ∨ (s.island.engaged = true ∧ islandDim = 255) → e = 0) ∧
      (code ≠ 0 → ¬ (s.island.engaged = true ∧ islandDim = 255) →
        (engaged → s.island.engaged = true → e = max 1 (code - dim - islandDim)) ∧
        (engaged → s.island.engaged = false → e = max 1 (code - dim)) ∧
        (¬ engaged → s.island.engaged = true → e = max 1 (code - islandDim)) ∧
        (¬ engaged → s.island.engaged = false → e = code))

/-- A frame of the stage (sections 1.1, 3.1, 3.4, 6.1, 6.4): the transmitted frame carries the next tag in order, the
header as it stands, the post-gate samples and four control bytes, each handed over at its position by the scheduler;
each channel runs once, on its own lane slot, and each mix once, with its own number, on the samples of this frame and
the far end's, with the routed channel's sample as stage talk; the mixes go to output slots 0 to 15 and the returns to
16 to 31; the frame index moves on. `beforeFrame` is the model's settling of what is due (log 3), and so is the order
inside the frame: the far end's frame first, then the channels, the mixes and what is sent, and the judging of the
ports last (log 5). -/
def Obligations.StageFrameSent : Prop :=
  (∀ x : State, x.role = .stage → HandsOver x) ∧
  ∀ (slots : List Sample) (cycles : Nat) (s : State), s.role = .stage →
    let u := beforeFrame s
    let w := farFrame (clockStep u)
    let chain := inputChain slots u.channels
    let postGate := chain.map Prod.snd
    let returns := w.deliverer.lastOut.take 16
    let route := (liveByte u 224 0).toNat
    let stageTalk := if route = 255 then 0 else postGate.getD route 0
    let mixes := mixAll w (postGate ++ returns) (w.deliverer.lastOut.getD 16 0) stageTalk 0 u.mixes
    let ran := mixFrame postGate (w.setChannels (chain.map Prod.fst))
    let h0 := handByte ran
    let h1 := handByte h0.1
    let h2 := handByte h1.1
    let h3 := handByte h2.1
    ∃ t, exec (.frame slots cycles) s = .next t ∧
      (s.frameIndex < 48 → u.frameIndex = s.frameIndex ∧ u.superframe = s.superframe) ∧
      (48 ≤ s.frameIndex → u.frameIndex = 0 ∧ u.superframe = s.superframe + 1) ∧
      chain.length = u.channels.length ∧
      (∀ n < 96, chain[n]? = (u.channels[n]?).map (chainStep (slots.getD n 0).toInt)) ∧
      mixes.length = u.mixes.length ∧
      (∀ m < 16, mixes[m]? = (u.mixes[m]?).map
        (mixStep w (postGate ++ returns) (w.deliverer.lastOut.getD 16 0) stageTalk m)) ∧
      ran.channels = chain.map Prod.fst ∧ ran.mixes = mixes.map Prod.fst ∧ ran.sched = w.sched ∧
      t.sched.sending = h3.1.sched.sending ∧ t.channels = h3.1.channels ∧ t.mixes = h3.1.mixes ∧
      t.frameIndex = u.frameIndex + 1 ∧ t.superframe = u.superframe ∧
      t.output.frame = stageFrame u.superframe u.frameIndex
        (stageHeader u.button.pressed u.island.engaged u.link.state) postGate [h0.2, h1.2, h2.2, h3.2] ∧
      t.output.slots = mixes.map Prod.snd ++ returns ∧ t.deliverer.lastOut = w.deliverer.lastOut ∧
      RegsKept u t ∧
      Keeps [.frameIndex, .channels, .mixes, .island, .talkSeen, .portA, .portB, .selector, .deliverer, .link, .clock,
        .sched, .receiver, .desk, .ring, .status, .regs, .output, .meters] u t

/-- A frame of the desk (sections 6.1, 6.4, 4.3, 7.4): the transmitted frame carries the next tag in order, the
carried source's mask and sample, the 16 returns and four control bytes, each handed over at its position by the
scheduler; the output lanes carry the far-end slots as the Deliverer gives them out; the clock is not steered.
`beforeFrame` is the model's settling of what is due (log 3), and so is the order inside the frame: the far end's
frame first, the judging of the ports last (log 5). -/
def Obligations.DeskFrameSent : Prop :=
  (∀ x : State, x.role = .desk → HandsOver x) ∧
  ∀ (slots : List Sample) (cycles : Nat) (s : State), s.role = .desk →
    let u := beforeFrame s
    let w := farFrame u
    let h0 := handByte (w.setOutput { w.output with slots := w.deliverer.lastOut })
    let h1 := handByte h0.1
    let h2 := handByte h1.1
    let h3 := handByte h2.1
    ∃ t, exec (.frame slots cycles) s = .next t ∧
      (s.frameIndex < 48 → u.frameIndex = s.frameIndex ∧ u.superframe = s.superframe) ∧
      (48 ≤ s.frameIndex → u.frameIndex = 0 ∧ u.superframe = s.superframe + 1) ∧
      t.sched.sending = h3.1.sched.sending ∧
      t.frameIndex = u.frameIndex + 1 ∧ t.superframe = u.superframe ∧
      t.output.frame = deskFrame u.superframe u.frameIndex
        (match u.arbiter.carried with
          | some .a => u.arbiter.a.mask
          | some .b => u.arbiter.b.mask
          | none => 0)
        ((List.range 16).map fun j => (slots.getD j 0).toInt)
        (match u.arbiter.carried with
          | some .a => (slots.getD 16 0).toInt
          | some .b => (slots.getD 17 0).toInt
          | none => 0) [h0.2, h1.2, h2.2, h3.2] ∧
      t.output.slots = t.deliverer.lastOut ∧ t.deliverer.lastOut = w.deliverer.lastOut ∧ RegsKept u t ∧
      Keeps [.frameIndex, .talkSeen, .portA, .portB, .selector, .deliverer, .link, .sched, .receiver, .desk, .ring,
        .status, .regs, .output] u t

/-- What a local frame gives out of the far end (sections 7.2, 6.1, 6.3, 4.4, 4.7, 7.1, 7.3): zero in DOWN and LOST;
the frame at the cursor through the rejoin gate where it is present, with its header and control bytes to their
consumers and a pending switchover written; else the concealment, counted, with the bytes the receiver held dropped
and no header; and the bridging counter. It is stated of the state with what is due settled (log 3); that delivery
comes before the judging of the ports is the model's order inside a frame (log 5), and the codes of the ports in the
detail of SWITCHOVER, 0 A and 1 B, are the model's reading (log 10); that SWITCHOVER stands before the STAGE_TALK of
the same frame is its choice (log 26). That the frame which brings the bridging counter to 48 leaves the link in
BRIDGING, with the count standing at 48 until BRIDGING_EXPIRY or the next tick, where R127 makes it LOST when the
count is reached, is the model's choice (log 4). -/
def Obligations.FarEndFrame : Prop :=
  ∀ (slots : List Sample) (cycles : Nat) (s : State),
    let u := beforeFrame s
    let d := u.deliverer
    let silent := u.link.state = .down ∨ u.link.state = .lost
    let gate0 := if d.rejoinPending then rampTarget unity (rampForce 0) else d.gate
    let switched : Ring := match d.switchover with
      | some (src, dst) => ringWith .switchover (portNumber dst)
          (BitVec.ofNat 16 (min 65535 d.run) ++ BitVec.ofNat 8 (portNumber dst) ++ BitVec.ofNat 8 (portNumber src)) u
      | none => u.ring
    ∃ t, exec (.frame slots cycles) s = .next t ∧
      (u.link.state = .bridging → t.link.state = .bridging ∧ t.link.bridging = min 48 (u.link.bridging + 1) ∧
        t.link.returnTo = u.link.returnTo) ∧
      (silent → t.deliverer.lastOut = List.replicate d.lastOut.length 0 ∧ t.deliverer.run = 0 ∧
        t.status.concealed = u.status.concealed ∧ t.deliverer.gate = rampAdvance d.gate ∧ t.receiver = u.receiver ∧
        t.status.farIsland = u.status.farIsland ∧ t.status.farLink = u.status.farLink) ∧
      (¬ silent →
        (∀ p f, u.selector.active = some p → d.hold = 0 → presentFrame (u.port p) d.cursor = some f →
          let taken := receiveLoop (receiveFuel u.receiver.held f.control) u.receiver.held f.control
          let talk := f.header.getLsbD 0
          let turned := u.role = .desk ∧ u.link.state = .linked ∧ talk ≠ u.talkSeen
          t.deliverer.lastOut = f.slots.map (fun x => gainRound (x * (rampAdvance gate0).current)) ∧
          t.deliverer.gate = rampAdvance gate0 ∧ t.deliverer.rejoinPending = false ∧ t.deliverer.run = 0 ∧
          t.deliverer.cursor = nextTag d.cursor ∧ t.status.concealed = u.status.concealed ∧
          t.receiver = { held := taken.1, inbox := u.receiver.inbox ++ taken.2.filter (handedOn u.role) } ∧
          (u.role = .stage →
            (t.link.state = u.link.state →
              t.deliverer.maskInUse = (if u.link.state = .linked then f.header else d.maskInUse)) ∧
            (t.link.state ≠ u.link.state → t.deliverer.maskInUse = 0)) ∧
          (u.role = .desk → t.status.farIsland = f.header.getLsbD 1 ∧ t.status.farLink = f.header.extractLsb' 2 3 ∧
            (u.link.state ≠ .linked → t.talkSeen = u.talkSeen) ∧
            (u.link.state = .linked → t.link.state = .linked → t.talkSeen = talk)) ∧
          (turned → noticed .talk t ∧ t.regs.change &&& changeBit .stageTalk = changeBit .stageTalk) ∧
          (t.portA.state = u.portA.state → t.portB.state = u.portB.state → t.deliverer.switchover = none ∧
            (turned → t.ring = ringWith .stageTalk 0 (if talk then 1 else 0) (u.setRing switched)) ∧
            (¬ turned → t.ring = switched))) ∧
        ((u.selector.active = none ∨ d.hold ≠ 0 ∨
            ∃ p, u.selector.active = some p ∧ presentFrame (u.port p) d.cursor = none) →
          t.deliverer.lastOut = (if d.run = 0 then d.lastOut else d.lastOut.map fun v => v - v / 8) ∧
          t.deliverer.run = d.run + 1 ∧ t.deliverer.gate = rampAdvance d.gate ∧
          t.receiver = { held := [], inbox := u.receiver.inbox } ∧
          t.status.concealed = satSucc u.status.concealed ∧
          t.status.farIsland = u.status.farIsland ∧ t.status.farLink = u.status.farLink ∧
          (t.link.state = u.link.state → t.deliverer.maskInUse = d.maskInUse ∧ t.talkSeen = u.talkSeen) ∧
          t.deliverer.hold = (if u.selector.active = none then d.hold else d.hold - 1) ∧
          t.deliverer.cursor = (if u.selector.active = none ∨ d.hold ≠ 0 then d.cursor else nextTag d.cursor)))

/-- The judging of a frame time on each port (section 6.2), 48 for each superframe: a frame other than the first of
its superframe judges the frame time that it ends; the last one is judged at the boundary that ends the superframe,
before its counts close, and frame 0 judges none. It is stated of the state with what is due settled (log 3); that at
the boundary the judging comes after the other steps that are due is log 23. What settling is: where nothing is due it
changes nothing, it leaves nothing due, and before a frame that begins a superframe it comes after the boundary. -/
def Obligations.FrameTimesJudged : Prop :=
  (∀ (slots : List Sample) (cycles : Nat) (s : State) (p : PortId),
    let u := beforeFrame s
    ∃ t, exec (.frame slots cycles) s = .next t ∧
      (u.frameIndex = 0 → t.port p = u.port p) ∧
      (u.frameIndex ≠ 0 → FrameTimeJudged (u.port p) (t.port p))) ∧
  (∀ (s : State) (p : PortId), FrameTimeJudged ((finishScan (settle s)).port p) ((endSuperframe s).port p)) ∧
  ∀ s : State,
    (s.desk.inFlight.length ≤ 8 → NothingDue (settle s)) ∧
    (s.frameIndex < 48 → beforeFrame s = settle s) ∧
    (48 ≤ s.frameIndex → ∃ t, exec (.superframeBoundary s.button.pinLow) s = .next t ∧ beforeFrame s = settle t) ∧
    (NothingDue s → settle s = s) ∧
    (NothingDue s → NoScan s →
      finishScan (settle s) = s ∧
      ((∀ p, (s.port p).state = .locked → (s.port p).goodNow = false → (s.port p).failRun < 15) →
        Keeps [.portA, .portB] s (endSuperframe s)))

/-! ## A superframe boundary -/

/-- The ports and the selector at a boundary (sections 6.2, 7.1): the counts close, MARGINAL is evaluated, with
PORT_STATE, the change bit and the LINK notice of each change, the standby clean count is updated, and a MARGINAL
active port gives way to a standby with a clean count of 1 or more, a pending SWITCHOVER written. Before the 48th
frame of a superframe no boundary is due, and the command is none (logs 2 and 3). `endSuperframe` settles what is due
and judges the superframe's last frame time (logs 3 and 23); the order of the blocks inside the boundary is the
model's (log 3), that of the events (log 26), and the port codes of SWITCHOVER (log 10). -/
def Obligations.SuperframePorts : Prop :=
  ∀ (pin : Bool) (s : State),
    let u := endSuperframe s
    let marginalOf := fun (v : Port) =>
      if v.state = .locked then
        (if 4 ≤ v.badNow then true else if v.badNow = 0 then false else v.marginal) else v.marginal
    let cleanOf := fun (v : Port) => v.state = .locked ∧ v.lockedWhole = true ∧ v.badNow = 0
    let turned := fun (p : PortId) => marginalOf (u.port p) ≠ (u.port p).marginal
    let now := u.setSuperframe (u.superframe + 1)
    let told := fun (p : PortId) (r : Ring) =>
      if turned p then
        ringWith .portState (portNumber p) (if marginalOf (u.port p) then 3 else 2) (now.setRing r) else r
    let ports := told .b (told .a u.ring)
    (s.frameIndex < 48 → exec (.superframeBoundary pin) s = .next s) ∧
    (48 ≤ s.frameIndex →
      ∃ t, exec (.superframeBoundary pin) s = .next t ∧ t.superframe = u.superframe + 1 ∧ t.frameIndex = 0 ∧
      (∀ p : PortId, t.port p =
        { u.port p with
          badLast := if (u.port p).state = .locked then (u.port p).badNow else (u.port p).badLast,
          badNow := if (u.port p).state = .locked then 0 else (u.port p).badNow,
          marginal := marginalOf (u.port p), lockedWhole := (u.port p).state == .locked }) ∧
      (∀ p, turned p → noticed .link t ∧ t.regs.change &&& changeBit (portChange p) = changeBit (portChange p)) ∧
      (u.selector.active = none → t.selector = { active := none, cleanCount := 0 } ∧ t.deliverer = u.deliverer ∧
        t.status.switches = u.status.switches) ∧
      (∀ p, u.selector.active = some p → cleanOf (u.port (otherPort p)) → marginalOf (u.port p) = true →
        t.selector = { active := some (otherPort p), cleanCount := 0 } ∧
        t.status.switches = satSucc u.status.switches ∧
        t.deliverer = { u.deliverer with switchover := some (p, otherPort p) } ∧
        t.regs.change &&& changeBit .active = changeBit .active ∧
        (u.link.state ≠ .lost → t.ring = (match u.deliverer.switchover with
          | some (src, dst) => ringWith .switchover (portNumber dst)
              (BitVec.ofNat 16 (min 65535 u.deliverer.run) ++ BitVec.ofNat 8 (portNumber dst) ++
                BitVec.ofNat 8 (portNumber src)) (now.setRing ports)
          | none => ports))) ∧
      (∀ p, u.selector.active = some p → ¬ (cleanOf (u.port (otherPort p)) ∧ marginalOf (u.port p) = true) →
        t.selector.active = some p ∧ t.status.switches = u.status.switches ∧ t.deliverer = u.deliverer ∧
        (cleanOf (u.port (otherPort p)) → t.selector.cleanCount = min 255 (u.selector.cleanCount + 1)) ∧
        (¬ cleanOf (u.port (otherPort p)) → t.selector.cleanCount = 0)) ∧
      (u.link.state ≠ .lost →
        (∀ p, u.selector.active = some p → ¬ (cleanOf (u.port (otherPort p)) ∧ marginalOf (u.port p) = true)) →
        t.ring = ports) ∧
      t.status = { u.status with switches := t.status.switches, stageStatus := t.status.stageStatus } ∧
      Keeps [.superframe, .frameIndex, .stepperDue, .island, .button, .portA, .portB, .selector, .deliverer, .link,
        .sched, .scanner, .ring, .status, .regs] u t)

/-- The counters at a boundary: the scan timer (section 9.3's scan, 9.2), HELLO due in CONNECTING and the age of the
last HELLO begun, which stops at 3 (7.3; the age is the model's own field, log 15), the island timer with the
engagement at the hold (3.6), the talk pin's debounce with its 20th sample (4.5), the stepper's timer (1.4), the stage
scheduler's counts (6.4), and the stage's own values in its status block (9.5), whose island fields in LOST are the
model's reading (log 20); each role's boundary leaves every other part as it was. `endSuperframe` settles what is due
and judges the last frame time (logs 3 and 23); the order of the blocks inside the boundary is the model's (log 3),
the engagement and the debounced change stand inside the boundary that brings them (log 4), and the scan count rises
at the boundary that begins the scan (log 27). -/
def Obligations.SuperframeCounters : Prop :=
  ∀ (pin : Bool) (s : State), 48 ≤ s.frameIndex →
    let u := endSuperframe s
    ∃ t, exec (.superframeBoundary pin) s = .next t ∧ RegsKept u t ∧
      (u.link.state = .connecting → t.sched.helloDue = true) ∧
      (u.link.state ≠ .connecting → t.sched.helloDue = u.sched.helloDue) ∧
      t.link = { u.link with helloAge := min 3 (u.link.helloAge + 1) } ∧
      t.sched.sending = u.sched.sending ∧ t.sched.replies = u.sched.replies ∧
      (u.role = .desk →
        Keeps [.superframe, .frameIndex, .portA, .portB, .selector, .deliverer, .link, .sched, .scanner, .ring, .status,
          .regs] u t ∧
        t.status.stageStatus = u.status.stageStatus ∧
        (u.regs.ctrl.run = false → t.scanner = u.scanner) ∧
        (u.regs.ctrl.run = true → u.scanner.timer + 1 < 2 ^ u.regs.ctrl.period.toNat →
          t.scanner = { u.scanner with timer := u.scanner.timer + 1 }) ∧
        (u.regs.ctrl.run = true → 2 ^ u.regs.ctrl.period.toNat ≤ u.scanner.timer + 1 →
          t.scanner = { u.scanner with timer := 0, pos := some 0, reads := [], count := satSucc u.scanner.count })) ∧
      (u.role = .stage →
        let hold := (liveByte u 225 0).toNat
        let count := min 255000 (u.island.count + 1)
        Keeps [.superframe, .frameIndex, .stepperDue, .island, .button, .portA, .portB, .selector, .deliverer, .link,
          .sched, .ring, .status, .regs] u t ∧
        t.status.stageStatus =
          [clockCode u.clock.state, BitVec.ofInt 8 u.clock.trim, (BitVec.ofBool u.island.lastEngaged).setWidth 8,
            BitVec.ofNat 8 u.island.lastElapsed, (portCode t.portA).setWidth 8, (portCode t.portB).setWidth 8,
            (activeCode t.selector.active).setWidth 8, (linkCode u.link.state).setWidth 8] ∧
        (u.link.state ≠ .lost → t.island = u.island) ∧
        (u.link.state = .lost → hold = 0 ∨ count < 1000 * hold ∨ u.island.engaged = true →
          t.island = { u.island with count := count }) ∧
        (u.link.state = .lost → hold ≠ 0 → 1000 * hold ≤ count → u.island.engaged = false →
          t.island = { u.island with count := count, engaged := true }) ∧
        (pin = u.button.pressed → t.button = { u.button with pinLow := pin, counter := 0 }) ∧
        (pin ≠ u.button.pressed → u.button.counter < 19 →
          t.button = { u.button with pinLow := pin, counter := u.button.counter + 1 }) ∧
        (pin ≠ u.button.pressed → 19 ≤ u.button.counter →
          t.button = { pinLow := pin, pressed := pin, counter := 0 } ∧ noticed .link t ∧
          t.regs.change &&& changeBit .stageTalk = changeBit .stageTalk) ∧
        t.stepperDue = (u.stepperDue || (t.superframe.toNat % 2 == 0)) ∧ t.sched.meterCount = 0 ∧
        (t.sched.statusDue = true ↔
          u.sched.statusDue = true ∨ (u.link.state = .linked ∧ t.superframe.toNat % 8 = 0)))

/-! ## The request board -/

/-- The judging of an entry by the words the scan reads, each of them the host's where the scan has read none yet, in
the order kind, target, arguments (section 9.2); and a scan's rest: the entries are taken in ascending index, each in
one event; an entry that is not taken keeps every word; each one that is taken carries the kind and tag the scan read
and the superframe count, REFUSED with the result of the check it fails, ACCEPTED for a valid kind 1 or 2, DONE with
the BOARD notice for kinds 3 to 5; a request's effect is the one its own row has; and the scan ends. Where a scan
stands is the model's own field (log 15). -/
def Obligations.BoardScanned : Prop :=
  (∀ (s : State) (i : Nat), i < 32 →
    let kind := ((scanWord s i 0).extractLsb' 8 8).toNat
    let target := ((scanWord s i 1).extractLsb' 0 16).toNat
    let argument := fun k => (scanWord s i (2 + k / 4)).extractLsb' (8 * (k % 4)) 8
    let fields := if target < 112 then 4 else if target < 224 then 16 else if target = 224 then 3 else 2
    let source : TalkSource := if target = 0 then .a else .b
    (s.scanner.reads = [] → ∀ k < 8, scanWord s i k = readWindow s (32 * i + 4 * k)) ∧
    (isTakeable s i = true ↔ (scanWord s i 0).extractLsb' 0 8 = 1#8 ∧ acceptedAt s i = none) ∧
    judgeEntry s i =
      if kind = 0 ∨ 5 < kind then .refuse .refusedKind
      else if (kind ≤ 2 ∧ 226 ≤ target) ∨ ((kind = 3 ∨ kind = 4) ∧ 2 ≤ target) then .refuse .refusedTarget
      else if (kind = 2 ∧ fields ≤ (argument 0).toNat) ∨ (kind = 3 ∧ argument 0 ≠ 1#8 ∧ argument 0 ≠ 2#8) then
        .refuse .refusedArgument
      else .valid (
        if kind = 1 then .setRecord target ((List.range 16).map argument)
        else if kind = 2 then .setField target (argument 0).toNat (argument 1)
        else if kind = 3 then .talkPress source (argument 0 == 2#8) (argument 2 ++ argument 1) (argument 3)
        else if kind = 4 then .talkRelease source
        else .replayAll)) ∧
  (∀ s : State, s.role = .desk → s.scanner.pos = none → s.scanner.reads = [] → exec .boardScan s = .next s) ∧
  (∀ (s : State) (k : Nat), s.role = .desk → s.scanner.pos = some k → BoardOk s →
    ∃ t, exec .boardScan s = .next t ∧
      t.scanner = { s.scanner with pos := none, reads := [], accepted := t.scanner.accepted } ∧
      t = (let last := (List.range' k (32 - k)).foldl (fun x i => takeEntry i x) s
        last.setScanner { last.scanner with pos := none, reads := [] }) ∧
      Keeps [.arbiter, .sched, .desk, .board, .scanner, .ring, .regs] s t ∧ RegsKept s t ∧
      (∀ i w, i < 32 → w < 8 → (i < k ∨ isTakeable s i = false) → entryWord t i w = entryWord s i w) ∧
      (∀ i, k ≤ i → i < 32 → isTakeable s i = true →
        wordKind (entryWord t i 0) = wordKind (scanWord s i 0) ∧
        wordTag (entryWord t i 0) = wordTag (scanWord s i 0) ∧ entryWord t i 7 = s.superframe ∧
        (∀ w, 1 ≤ w → w ≤ 5 → entryWord t i w = entryWord s i w) ∧
        (∀ result, judgeEntry s i = .refuse result →
          wordState (entryWord t i 0) = 5 ∧ noticed .board t ∧
          (result = .refusedKind → entryWord t i 6 = 3) ∧ (result = .refusedTarget → entryWord t i 6 = 4) ∧
          (result = .refusedArgument → entryWord t i 6 = 5)) ∧
        ∀ r, judgeEntry s i = .valid r →
          (wordKind (scanWord s i 0) = 1 ∨ wordKind (scanWord s i 0) = 2 →
            wordState (entryWord t i 0) = 2 ∧ (entryWord t i 6).extractLsb' 0 8 = 0 ∧
            (s.scanner.accepted.length = 32 → (acceptedAt t i).isSome = true)) ∧
          (wordKind (scanWord s i 0) = 3 ∨ wordKind (scanWord s i 0) = 4 ∨ wordKind (scanWord s i 0) = 5 →
            wordState (entryWord t i 0) = 3 ∧ entryWord t i 6 = 1 ∧ noticed .board t))) ∧
  ∀ (s : State) (i : Fin 32) (r : Request), ScanAt s i r →
    ∃ u, exec (match r with
        | .setRecord _ _ => .setRecord i
        | .setField _ _ _ => .setField i
        | .talkPress _ _ _ _ => .talkPress i
        | .talkRelease _ => .talkRelease i
        | .replayAll => .replayAll i) s = .next u ∧
      u.scanner.pos = posAfter i ∧ exec .boardScan u = exec .boardScan s

/-- A valid SET_RECORD or SET_FIELD at the scan (sections 8.3, 9.2): the edit, the entry ACCEPTED with its CLAMPED
flag, and the accepted record with its deadline. A SET_FIELD puts its value into the shadow contents as the layout of
their kind has them (section 11.6). Only an edit that empties the adoption set ends the adoption (section
8.8). -/
def Obligations.EditsTaken : Prop :=
  ∀ (s : State) (i : Fin 32) (c : Instr) (record : Nat) (requested : List Byte), BoardOk s → Sized s →
    ((c = .setRecord i ∧ ScanAt s i (.setRecord record requested)) ∨
      (c = .setField i ∧ ∃ index value, ScanAt s i (.setField record index value) ∧
        requested = (shadowContents s record).set index value)) →
    ∃ t, exec c s = .next t ∧ record < recordCount ∧ Edited s t record requested ∧
      EntryWritten s t i.val .accepted .none (isClamped record requested) (wordKind (scanWord s i.val 0))
        (wordTag (scanWord s i.val 0)) ∧
      acceptedAt t i.val = some
        { record := record, kind := wordKind (scanWord s i.val 0), tag := wordTag (scanWord s i.val 0),
          clamped := isClamped record requested,
          expiry := s.superframe + BitVec.ofNat 32
            (if entryDeadline s i.val = 0 then 1000 else 10 * (entryDeadline s i.val).toNat) } ∧
      (∀ j, j ≠ i.val → acceptedAt t j = acceptedAt s j) ∧
      t.scanner = { s.scanner with pos := posAfter i, reads := [], accepted := t.scanner.accepted } ∧
      Keeps [.sched, .desk, .board, .scanner, .ring, .regs] s t ∧ RegsKept s t ∧
      (isAdopting s.desk record = false ∨ t.desk.adoption ≠ [] → Keeps [.desk, .board, .scanner] s t) ∧
      (isAdopting s.desk record = true → t.desk.adoption = [] →
        t.ring = ringWith .adoptDone 0 (BitVec.ofNat 32 s.desk.adopted) s ∧ noticed .sync t)

/-- A valid TALK_PRESS or TALK_RELEASE at the scan (sections 4.1, 4.3): the source's record, the other source
untouched, the carried source decided again with its event, and the entry DONE with the BOARD notice. -/
def Obligations.TalkRequestsTaken : Prop :=
  ∀ (s : State) (i : Fin 32) (c : Instr) (src : TalkSource), BoardOk s → CarriedOk s →
    ((c = .talkPress i ∧ ∃ latched mask limit, ScanAt s i (.talkPress src latched mask limit)) ∨
      (c = .talkRelease i ∧ ScanAt s i (.talkRelease src))) →
    ∃ t, exec c s = .next t ∧
      (∀ mask limit, judgeEntry s i.val = .valid (.talkPress src false mask limit) →
        talkRecord t src = { state := .momentary, mask := mask, limit := limit, limitTimer := none,
                             renewTimer := some (s.superframe + 500#32) }) ∧
      (∀ mask limit, judgeEntry s i.val = .valid (.talkPress src true mask limit) →
        talkRecord t src = { state := .latched, mask := mask, limit := limit, renewTimer := none,
                             limitTimer := (if limit = 0 then none
                               else some (s.superframe + BitVec.ofNat 32 (1000 * limit.toNat))) }) ∧
      (judgeEntry s i.val = .valid (.talkRelease src) →
        (talkRecord s src).state ≠ .off → talkRecord t src =
          { talkRecord s src with state := .off, limitTimer := none, renewTimer := none }) ∧
      (judgeEntry s i.val = .valid (.talkRelease src) →
        (talkRecord s src).state = .off → talkRecord t src = talkRecord s src) ∧
      (∀ other, other ≠ src → talkRecord t other = talkRecord s other) ∧ CarriedOk t ∧
      (s.arbiter.carried = some .b → t.arbiter.carried = some .a →
        t.ring = ringWith .talkPreempted 1 0 s ∧ noticed .talk t) ∧
      (s.arbiter.carried = some .a → t.arbiter.carried = some .b →
        t.ring = ringWith .talkResumed 1 0 s ∧ noticed .talk t) ∧
      ((s.arbiter.carried = none ∨ t.arbiter.carried = none ∨ t.arbiter.carried = s.arbiter.carried) →
        t.ring = s.ring) ∧
      EntryWritten s t i.val .done .done false (wordKind (scanWord s i.val 0)) (wordTag (scanWord s i.val 0)) ∧
      noticed .board t ∧ t.scanner = { s.scanner with pos := posAfter i, reads := [] } ∧ RegsKept s t ∧
      Keeps [.arbiter, .sched, .board, .scanner, .ring, .regs] s t

/-- A REPLAY_ALL at the scan (sections 8.3, 9.2): the adoption set is emptied without ADOPT_DONE, every record joins the
dirty list behind those already there in ascending ID, and the entry is DONE. -/
def Obligations.ReplayAllTaken : Prop :=
  ∀ (s : State) (i : Fin 32), BoardOk s → ListsOk s → ScanAt s i .replayAll →
    ∃ t, exec (.replayAll i) s = .next t ∧
      t.desk = { s.desk with
        adoption := [],
        dirty := s.desk.dirty ++ (List.range 226).filter (fun r => !s.desk.dirty.contains r) } ∧
      EntryWritten s t i.val .done .done false (wordKind (scanWord s i.val 0)) (wordTag (scanWord s i.val 0)) ∧
      noticed .board t ∧ t.scanner = { s.scanner with pos := posAfter i, reads := [] } ∧ RegsKept s t ∧
      Keeps [.desk, .board, .scanner, .regs] s t

/-! ## Timers of the desk -/

/-- The renew and the limit timer of a talk source (sections 4.2, 4.3): at expiry the source is OFF with its mask and
limit kept, TALK_TIMEOUT names it and the cause, and where that lets source B resume, TALK_RESUMED follows. Of the
registers only NOTICE changes, and no flag of it is cleared. -/
def Obligations.TalkTimeouts : Prop :=
  ∀ (src : TalkSource) (c : Instr) (cause e : Word) (s : State), s.role = .desk → CarriedOk s →
    reached s.superframe e = true →
    ((c = .talkRenewExpiry src ∧ (talkRecord s src).state = .momentary ∧ (talkRecord s src).renewTimer = some e ∧
        cause = 1) ∨
      (c = .talkLimitExpiry src ∧ (talkRecord s src).state = .latched ∧ (talkRecord s src).limitTimer = some e ∧
        cause = 2)) →
    ∃ t, exec c s = .next t ∧
      talkRecord t src = { talkRecord s src with state := .off, limitTimer := none, renewTimer := none } ∧
      (∀ other, other ≠ src → talkRecord t other = talkRecord s other) ∧ CarriedOk t ∧ noticed .talk t ∧
      noticesKept s t ∧ t.regs = { s.regs with notice := t.regs.notice } ∧
      t.ring = (if src = .a ∧ (talkRecord s .b).state ≠ .off then
          ringWith .talkResumed 1 0 (s.setRing (ringWith .talkTimeout 0 cause s))
        else ringWith .talkTimeout (sourceNumber src) cause s) ∧
      Keeps [.arbiter, .sched, .ring, .regs] s t

/-- The deadline of an ACCEPTED entry (section 9.3): HELD with the kind and tag of its accepted record and its CLAMPED
flag, the accepted record dropped, the BOARD notice; before the deadline nothing happens. -/
def Obligations.DeadlineHeld : Prop :=
  ∀ (s : State) (i : Fin 32) (a : Accepted), s.role = .desk → BoardOk s → Sized s → acceptedAt s i = some a →
    (reached s.superframe a.expiry = false → exec (.deadlineExpiry i) s = .next s) ∧
    (reached s.superframe a.expiry = true → ∃ t, exec (.deadlineExpiry i) s = .next t ∧
      EntryWritten s t i.val .held .held a.clamped a.kind a.tag ∧ acceptedAt t i = none ∧
      (∀ j, j ≠ i.val → acceptedAt t j = acceptedAt s j) ∧
      t.scanner = { s.scanner with accepted := t.scanner.accepted } ∧
      t.regs = { s.regs with notice := s.regs.notice ||| noticeBit .board } ∧ Keeps [.board, .scanner, .regs] s t)

/-- An unanswered PUSH or PULL, 8 boundaries after it began (sections 8.6, 8.8): the first such in-flight entry in
table order goes back to the dirty list; the member pulled becomes unsent again. -/
def Obligations.ReplicationTimeouts : Prop :=
  ∀ s : State, s.role = .desk →
    (∀ (before after : List InFlight) (e : InFlight), s.desk.inFlight = before ++ e :: after →
      (∀ x ∈ before, reached s.superframe (x.stamp + 8) = false) → reached s.superframe (e.stamp + 8) = true →
      ∃ t, exec .inFlightTimeout s = .next t ∧ Keeps [.desk] s t ∧
        t.desk = { s.desk with
          inFlight := before ++ after,
          dirty := if e.record ∈ s.desk.dirty then s.desk.dirty else s.desk.dirty ++ [e.record] }) ∧
    ∀ (r : Fin 226) (e : Adoptee) (stamp : Word), e ∈ s.desk.adoption → e.record = r.val → e.pulled = some stamp →
      reached s.superframe (stamp + 8) = true →
      ∃ t, exec (.pullTimeout r) s = .next t ∧ Keeps [.desk] s t ∧
        t.desk = { s.desk with adoption := t.desk.adoption } ∧
        t.desk.adoption.map Adoptee.record = s.desk.adoption.map Adoptee.record ∧
        (∀ x ∈ t.desk.adoption, x.record = r.val → x.pulled = none) ∧
        ∀ x, x.record ≠ r.val → (x ∈ t.desk.adoption ↔ x ∈ s.desk.adoption)

/-! ## Inputs and preamps -/

/-- An expiry of the Gain Stepper (section 1.4): each channel whose applied gain differs from its live gain, and that
is neither queued nor in transfer, moves 1 dB and is enqueued, in ascending number; no other channel moves. -/
def Obligations.GainStepper : Prop :=
  ∀ s : State, s.role = .stage → s.channels.length = 96 →
    (s.stepperDue = false → exec .gainStepperExpiry s = .next s) ∧
    (s.stepperDue = true →
      let steps := fun n => (channelAt s n).appliedGain ≠ (liveByte s n 0).toNat ∧ n ∉ s.preamp.queue ∧
        ∀ t ∈ s.preamp.transfer, t.channel ≠ n
      ∃ t, exec .gainStepperExpiry s = .next t ∧ Keeps [.channels, .stepperDue, .preamp] s t ∧
        t.stepperDue = false ∧
        (∀ n < 96, steps n → channelAt t n = { channelAt s n with
          appliedGain := if (channelAt s n).appliedGain < (liveByte s n 0).toNat then (channelAt s n).appliedGain + 1
            else (channelAt s n).appliedGain - 1 }) ∧
        (∀ n, ¬ steps n → channelAt t n = channelAt s n) ∧
        t.preamp.transfer = s.preamp.transfer ∧ t.preamp.absent = s.preamp.absent ∧
        ∃ added : List Nat, t.preamp.queue = s.preamp.queue ++ added ∧ added.Pairwise (· < ·) ∧
          ∀ n, n ∈ added ↔ n < 96 ∧ steps n)

/-- The Phantom Sequencer's reactions to a closed gate and to its timer (section 1.5). -/
def Obligations.PhantomReactions : Prop :=
  ∀ (s : State) (n : Fin 96), s.role = .stage → s.channels.length = 96 →
    let c := channelAt s n
    let queued := fun (t : State) => t.preamp = { s.preamp with
      queue := if n.val ∈ s.preamp.queue then s.preamp.queue else s.preamp.queue ++ [n.val] }
    (c.gate.current = 0 → c.gate.target = 0 → c.phantom = .mutingOn →
      ∃ t, exec (.gateClosed n) s = .next t ∧ Keeps [.channels, .preamp] s t ∧ queued t ∧
        t.channels = s.channels.set n { c with
          appliedPhantom := true, phantomTimer := some (s.superframe + 800#32), phantom := .charging }) ∧
    (c.gate.current = 0 → c.gate.target = 0 → c.phantom = .mutingOff →
      ∃ t, exec (.gateClosed n) s = .next t ∧ Keeps [.channels, .preamp] s t ∧ queued t ∧
        t.channels = s.channels.set n { c with
          appliedPhantom := false, phantomTimer := some (s.superframe + 800#32), phantom := .discharging }) ∧
    (¬ (c.gate.current = 0 ∧ c.gate.target = 0) → exec (.gateClosed n) s = .next s) ∧
    (∀ e, c.phantomTimer = some e → reached s.superframe e = true → c.phantom = .charging →
      ∃ t, exec (.phantomTimerExpiry n) s = .next t ∧ Keeps [.channels] s t ∧
        t.channels = s.channels.set n { c with
          gate := rampTarget unity c.gate, phantomTimer := none, phantom := .on }) ∧
    (∀ e, c.phantomTimer = some e → reached s.superframe e = true → c.phantom = .discharging →
      ∃ t, exec (.phantomTimerExpiry n) s = .next t ∧ Keeps [.channels] s t ∧
        t.channels = s.channels.set n { c with
          gate := rampTarget unity c.gate, phantomTimer := none, phantom := .off }) ∧
    (∀ e, c.phantomTimer = some e → reached s.superframe e = false → exec (.phantomTimerExpiry n) s = .next s)

/-- Phantom is switched only under a shut gate (section 1.5): in the next state of every command but the two resets
and FRAME, a channel whose applied phantom changed stands at gate current 0. A boundary takes the reactions that are
due, and so does a FRAME before its own work, with the messages received; that they take them at all is the model's
choice (log 3). At a FRAME what is settled so changes applied phantom under gate current 0 only, and the frame's own
work changes it nowhere. -/
def Obligations.PhantomSwitchedShut : Prop :=
  (∀ (c : Instr) (s t : State) (n : Nat), (∀ h a b, c ≠ .powerOn h a b) → (∀ width w, c ≠ .softReset width w) →
    (∀ slots cycles, c ≠ .frame slots cycles) → exec c s = .next t →
    (channelAt t n).appliedPhantom ≠ (channelAt s n).appliedPhantom → (channelAt t n).gate.current = 0) ∧
  ∀ (slots : List Sample) (cycles : Nat) (s : State),
    let u := beforeFrame s
    ∃ t, exec (.frame slots cycles) s = .next t ∧ ∀ n,
      (channelAt t n).appliedPhantom = (channelAt u n).appliedPhantom ∧
      ((channelAt u n).appliedPhantom ≠ (channelAt s n).appliedPhantom → (channelAt u n).gate.current = 0)

/-- The start of a preamp transfer (section 1.7): the head leaves the queue, its word is built from the applied values,
the sent record as it stood is kept as the prior record and the new one is valid. With a transfer in progress or
nothing queued, nothing starts. -/
def Obligations.TransferStarts : Prop :=
  ∀ s : State, s.role = .stage →
    (∀ n rest, s.preamp.queue = n :: rest → s.preamp.transfer = none →
      let c := channelAt s n
      ∃ t, exec .transferStart s = .next t ∧ Keeps [.channels, .preamp] s t ∧
        t.preamp = { s.preamp with
          queue := rest,
          transfer := some
            { channel := n, word := preampWord n c.appliedGain c.appliedPad c.appliedPhantom, prior := c.sent } } ∧
        t.channels = s.channels.set n { c with
          sent := { gain := c.appliedGain, pad := c.appliedPad, phantom := c.appliedPhantom, valid := true } }) ∧
    ((s.preamp.queue = [] ∨ s.preamp.transfer ≠ none) → exec .transferStart s = .next s)

/-- The completion of a preamp transfer (section 1.7): presence marker, echo check against the prior record, and the
overcurrent bit, with the fault it brings (section 1.5). -/
def Obligations.TransferCompletes : Prop :=
  ∀ (s : State) (tr : Transfer) (w : Half), s.role = .stage → s.channels.length = 96 → s.preamp.transfer = some tr →
    tr.channel < 96 →
    let n := tr.channel
    let c := channelAt s n
    let chip := n / 8
    let echoed := tr.prior.gain = (w.extractLsb' 6 6).toNat ∧ tr.prior.pad = w.getLsbD 5 ∧
      tr.prior.phantom = w.getLsbD 4
    let differs := tr.prior.valid = true ∧ ¬ echoed
    let faults := w.getLsbD 3 = true ∧
      (c.phantom = .mutingOn ∨ c.phantom = .charging ∨ c.phantom = .on ∨ c.phantom = .mutingOff)
    ∃ t, exec (.transferComplete w) s = .next t ∧ Keeps [.channels, .preamp, .ring, .sched, .regs] s t ∧
      t.preamp.transfer = none ∧ (∀ m, m ≠ n → channelAt t m = channelAt s m) ∧
      (w.extractLsb' 12 4 ≠ 0b1010#4 →
        channelAt t n = c ∧ t.preamp.queue = s.preamp.queue ∧ t.preamp.absent = s.preamp.absent.set chip true ∧
        t.ring = (if s.preamp.absent.getD chip false = true then s.ring else ringWith .preampAbsent chip 0 s)) ∧
      (w.extractLsb' 12 4 = 0b1010#4 →
        t.preamp.absent = s.preamp.absent.set chip false ∧
        (channelAt t n).mismatch = (if tr.prior.valid = false then c.mismatch
          else if echoed then 0 else min 255 (c.mismatch + 1)) ∧
        (differs ∨ faults → n ∈ s.preamp.queue → t.preamp.queue = s.preamp.queue) ∧
        (differs ∨ faults → n ∉ s.preamp.queue → t.preamp.queue = s.preamp.queue ++ [n]) ∧
        (¬ (differs ∨ faults) → t.preamp.queue = s.preamp.queue) ∧
        (faults → channelAt t n = { c with
          mismatch := (channelAt t n).mismatch, gate := ⟨0, 0, 0, 0⟩, appliedPhantom := false, phantomTimer := none,
          phantom := .fault }) ∧
        (¬ faults → channelAt t n = { c with mismatch := (channelAt t n).mismatch }) ∧
        ∃ middle : Ring,
          middle = (if differs ∧ c.mismatch = 0 then
            ringWith .preampMismatch n
              (0#22 ++ w.extractLsb' 4 1 ++ w.extractLsb' 5 1 ++ (0#2 ++ w.extractLsb' 6 6)) s else s.ring) ∧
          t.ring = (if faults then ringWith .phantomFault n 0 (s.setRing middle) else middle))

/-! ## Ports, path and link -/

/-- Light lost and light back on a fibre (section 6.2): the port's own state, and PORT_STATE at each change of it. The
path is in SelectorMoves. That DARK keeps the newest and the last good tag is a reading of the spec (log 12). -/
def Obligations.PortLight : Prop :=
  ∀ (p : PortId) (s : State),
    let v := s.port p
    (∃ t, exec (.losAssert p) s = .next t ∧ RegsKept s t ∧
      t.port p = { v with
        los := true, state := .dark, marginal := false, huntRun := 0, failRun := 0, badNow := 0, badLast := 0,
        buffer := List.replicate 8 none, goodNow := false, lockedWhole := false } ∧
      t.port (otherPort p) = s.port (otherPort p) ∧
      (v.state = .dark → Keeps [.portA, .portB] s t) ∧
      (v.state = .hunting → Keeps [.portA, .portB, .ring, .sched, .regs] s t ∧
        t.ring = ringWith .portState (portNumber p) 0 s ∧ noticed .link t ∧
        t.regs.change = s.regs.change ||| changeBit (portChange p)) ∧
      (v.state = .locked →
        Keeps [.portA, .portB, .ring, .sched, .regs, .selector, .deliverer, .status, .link, .clock, .talkSeen] s t ∧
        noticed .link t ∧ t.regs.change &&& changeBit (portChange p) = changeBit (portChange p) ∧
        (s.selector.active ≠ some p → t.ring = ringWith .portState (portNumber p) 0 s) ∧
        (s.ring.written ≠ 4294967295#32 → s.ring.records.length = 64 →
          t.ring.records[s.ring.written.toNat % 64]? = some
            { sequence := s.ring.written, stamp := s.superframe, type := 1, origin := (roleCode s.role).setWidth 8,
              subject := BitVec.ofNat 16 (portNumber p), detail := 0 }))) ∧
    ∃ t, exec (.losDeassert p) s = .next t ∧ RegsKept s t ∧ t.port (otherPort p) = s.port (otherPort p) ∧
      (v.state = .dark →
        t.port p = { v with los := false, state := .hunting, huntRun := 0, lastGood := none, goodNow := false } ∧
        Keeps [.portA, .portB, .ring, .sched, .regs] s t ∧ t.ring = ringWith .portState (portNumber p) 1 s ∧
        noticed .link t ∧ t.regs.change = s.regs.change ||| changeBit (portChange p)) ∧
      (v.state ≠ .dark → t.port p = { v with los := false } ∧ Keeps [.portA, .portB] s t)

/-- A frame that completes on a port without locking it (sections 6.1, 6.2, 7.2, 7.4): a bad one, or any at a DARK port,
is not used for anything; a good one is filed, and on the active port its tag is compared with the cursor and the LOCKED
stage clock takes it: it realigns where that is pending, else the desk's period is measured from its spacing to the
frame before it in the desk's tags, and a missed frame, a switch or a jump in the tags leaves period and phase. What a
spacing makes of the period is a free value (log 7); the local frame that a realignment cuts is the model's reading (log
8), and so is that a good frame of the other direction's length counts (log 25). -/
def Obligations.ArrivalFiled : Prop :=
  ∀ (p : PortId) (bytes : List Byte) (phase : Nat) (s : State),
    let v := s.port p
    let c := Instr.frameReceived p bytes phase
    (v.state = .dark ∨ checkFrame s.role bytes = none → exec c s = .next s) ∧
    ∀ f, checkFrame s.role bytes = some f → v.state ≠ .dark →
      let next := v.lastGood.any (fun l => f.tag == (l + 1) % 12288)
      let run := if next then min 3 (v.huntRun + 1) else 1
      let ahead := tagAhead f.tag s.deliverer.cursor
      v.state = .locked ∨ run < 3 →
      ∃ t, exec c s = .next t ∧ Keeps [.portA, .portB, .deliverer, .clock] s t ∧
        t.port (otherPort p) = s.port (otherPort p) ∧
        t.port p = { v with
          buffer := v.buffer.set (f.tag % 8) (some f), newest := some f.tag, goodNow := true,
          huntRun := if v.state = .locked then v.huntRun else run,
          lastGood := if v.state = .locked then v.lastGood else some f.tag } ∧
        (s.selector.active ≠ some p → t.deliverer = s.deliverer ∧ t.clock = s.clock) ∧
        (s.selector.active = some p →
          (1 ≤ ahead → ahead ≤ 7 → t.deliverer = s.deliverer) ∧
          (8 ≤ ahead → ahead ≤ 12284 →
            t.deliverer = { s.deliverer with cursor := (f.tag + 12284) % 12288, hold := 0 }) ∧
          (ahead = 0 → t.deliverer = { s.deliverer with hold := 4 }) ∧
          (12285 ≤ ahead → t.deliverer = { s.deliverer with hold := min 7 (4 + (12288 - ahead)) }) ∧
          (s.role = .stage → s.clock.state = .locked → s.clock.realignPending = true →
            let ideal : Rat := if phase < 256 then s.clock.period else phase
            t.clock = { s.clock with
              realignPending := false, measFrames := 0, measCycles := 0,
              cut := if phase = 0 then .whole else if phase < 256 then .repeated phase else .skipped phase,
              ideal := ideal, frameLen := ideal.ceil.toNat,
              lastArrival := some ⟨p, f.tag, if phase < 256 then 0 else phase⟩ }) ∧
          (s.role = .stage → s.clock.state = .locked → s.clock.realignPending = false →
            let unmeasured : Clock := { s.clock with lastArrival := some ⟨p, f.tag, phase⟩ }
            (∀ a, s.clock.lastArrival = some a → a.port = p → f.tag = (a.tag + 1) % 12288 →
              t.clock = { unmeasured with
                period := Config.measuredPeriod s.clock.spacings s.clock.period (phase - a.moment),
                spacings := s.clock.spacings + 1 }) ∧
            ((∀ a, s.clock.lastArrival = some a → a.port ≠ p ∨ f.tag ≠ (a.tag + 1) % 12288) → t.clock = unmeasured)) ∧
          (¬ (s.role = .stage ∧ s.clock.state = .locked) → t.clock = s.clock))

/-- The frame that brings a HUNTING port's run to 3 locks it in the same event (sections 6.2, 7.1, 7.3), whichever of
the two rows of the table it is sent as (log 4); with no active port it becomes active and the link follows: at the
stage the clock enters LOCKED (section 7.4), and leaving LOST keeps the last island values (section 3.6). That the
arrival that locks the port does not itself realign the clock, so that the realignment is still pending after it, is
the model's choice (log 8), and so is that the hunt run stays at 3 in LOCKED (log 12), and that a bridge that has run
its 48 frames is LOST before the port brings the link out of LOST (logs 3 and 4). -/
def Obligations.PortLocks : Prop :=
  ∀ (p : PortId) (bytes : List Byte) (phase l : Nat) (f : RxFrame) (c : Instr) (s : State),
    (c = .portLock p bytes phase ∨ c = .frameReceived p bytes phase) → (s.port p).state = .hunting →
    checkFrame s.role bytes = some f → (s.port p).lastGood = some l → f.tag = (l + 1) % 12288 →
    2 ≤ (s.port p).huntRun → s.selector.active ≠ some p →
    let v := s.port p
    ∃ t, exec c s = .next t ∧ t.port (otherPort p) = s.port (otherPort p) ∧
      t.port p = { v with
        buffer := v.buffer.set (f.tag % 8) (some f), newest := some f.tag, goodNow := true, huntRun := 3,
        lastGood := some f.tag, state := .locked, failRun := 0, badNow := 0, badLast := 0, marginal := false,
        lockedWhole := false } ∧
      RegsKept s t ∧
      noticed .link t ∧ t.regs.change &&& changeBit (portChange p) = changeBit (portChange p) ∧
      (s.selector.active ≠ none →
        t.selector = { s.selector with cleanCount := 0 } ∧ t.ring = ringWith .portState (portNumber p) 2 s ∧
        Keeps [.portA, .portB, .selector, .ring, .sched, .regs] s t) ∧
      (s.selector.active = none →
        let left := s.setRing (ringWith .portState (portNumber p) 2 s)
        t.selector = { active := some p, cleanCount := 0 } ∧
        t.regs.change &&& changeBit .active = changeBit .active ∧
        t.deliverer.cursor = (f.tag + 12284) % 12288 ∧ t.deliverer.hold = 0 ∧
        (s.link.state = .connecting ∨ s.link.state = .linked → t.ring = left.ring) ∧
        (s.link.state ≠ .connecting → s.link.state ≠ .linked →
          t.regs.change &&& changeBit .link = changeBit .link) ∧
        (s.link.state = .down → t.ring = ringWith .linkState 0 0x00000100#32 left) ∧
        (s.link.state = .lost → t.ring = ringWith .linkState 0 0x00000104#32 left) ∧
        (s.link.state = .bridging → 48 ≤ s.link.bridging →
          t.ring = ringWith .linkState 0 0x00000104#32 (left.setRing (ringWith .linkState 0 0x00000403#32 left)) ∧
          t.link.state = .connecting ∧ t.link.heard = false ∧ t.link.roleFault = false ∧ t.sched.helloDue = true) ∧
        (s.link.state = .bridging → s.link.bridging < 48 →
          (s.link.returnTo = some .connecting → t.ring = ringWith .linkState 0 0x00000103#32 left) ∧
          (s.link.returnTo = some .linked → t.ring = ringWith .linkState 0 0x00000203#32 left)) ∧
        (s.link.state = .down ∨ s.link.state = .lost →
          t.link.state = .connecting ∧ t.link.heard = false ∧ t.link.roleFault = false ∧ t.sched.helloDue = true) ∧
        (∀ r, s.link.state = .bridging → s.link.bridging < 48 → s.link.returnTo = some r →
          t.link.state = r ∧ t.link.heard = s.link.heard ∧ (r = .connecting → t.sched.helloDue = true)) ∧
        (s.link.state = .connecting ∨ s.link.state = .linked → t.link = s.link) ∧
        (s.role = .desk → t.island = s.island ∧ t.clock = s.clock) ∧
        (s.role = .stage →
          (s.link.state = .lost → t.island =
            { count := 0, engaged := false, lastElapsed := s.island.count / 1000, lastEngaged := s.island.engaged }) ∧
          (s.link.state ≠ .lost → s.link.state ≠ .bridging → t.island = s.island) ∧
          (s.link.state = .down ∨ s.link.state = .lost ∨ (s.link.state = .bridging ∧ (48 ≤ s.link.bridging ∨
              s.link.returnTo = some .connecting ∨ s.link.returnTo = some .linked)) →
            (s.clock.state = .locked → t.clock = s.clock) ∧
            (s.clock.state ≠ .locked → t.clock = { s.clock with state := .locked, realignPending := true }))) ∧
        Keeps [.portA, .portB, .selector, .deliverer, .link, .clock, .island, .desk, .output, .ring, .sched, .regs] s t)

/-- A port leaves LOCKED, by its 16th failed frame time or by light lost (sections 6.2, 7.1, 7.3), with PORT_STATE,
its change bit and the LINK notice: the standby takes over when it is LOCKED, else the active port becomes none and
the link bridges, with LINK_STATE. A switchover still pending is written before that; the port codes of its detail are
the model's reading (log 10), and that CLOCK_RANGE could only follow LINK_STATE is its choice (log 26). -/
def Obligations.SelectorMoves : Prop :=
  ∀ (c : Instr) (p : PortId) (s : State), (s.port p).state = .locked →
    (c = .losAssert p ∨ (c = .portUnlock p ∧ (s.port p).goodNow = false ∧ 15 ≤ (s.port p).failRun)) →
    let left := ringWith .portState (portNumber p) (if c = .losAssert p then 0 else 1) s
    let flushed := match s.deliverer.switchover with
      | some (src, dst) => ringWith .switchover (portNumber dst)
          (BitVec.ofNat 16 (min 65535 s.deliverer.run) ++ BitVec.ofNat 8 (portNumber dst) ++
            BitVec.ofNat 8 (portNumber src)) (s.setRing left)
      | none => left
    ∃ t, exec c s = .next t ∧ t.port (otherPort p) = s.port (otherPort p) ∧ RegsKept s t ∧ noticed .link t ∧
      t.regs.change &&& changeBit (portChange p) = changeBit (portChange p) ∧
      Keeps [.portA, .portB, .ring, .sched, .regs, .selector, .deliverer, .status, .link, .clock, .talkSeen] s t ∧
      (c = .portUnlock p → (t.port p).state = .hunting ∧ (t.port p).huntRun = 0 ∧ (t.port p).lastGood = none ∧
        (t.port p).marginal = false ∧ (t.port p).buffer = (s.port p).buffer ∧
        (t.port p).newest = (s.port p).newest ∧ (t.port p).badTotal = satSucc (s.port p).badTotal) ∧
      (s.selector.active = none →
        t.selector = s.selector ∧ t.link = s.link ∧ t.deliverer = s.deliverer ∧ t.ring = left) ∧
      (s.selector.active = some (otherPort p) →
        t.selector = { s.selector with cleanCount := 0 } ∧ t.link = s.link ∧ t.deliverer = s.deliverer ∧
        t.ring = left) ∧
      (s.selector.active = some p → (s.port (otherPort p)).state = .locked →
        t.selector = { active := some (otherPort p), cleanCount := 0 } ∧ t.link = s.link ∧ t.ring = flushed ∧
        t.status.switches = satSucc s.status.switches ∧
        t.deliverer = { s.deliverer with switchover := some (p, otherPort p) } ∧
        t.regs.change &&& changeBit .active = changeBit .active) ∧
      (s.selector.active = some p → (s.port (otherPort p)).state ≠ .locked →
        t.selector = { active := none, cleanCount := 0 } ∧ t.deliverer.switchover = none ∧
        t.status.switches = s.status.switches ∧ t.regs.change &&& changeBit .active = changeBit .active ∧
        (s.link.state = .connecting ∨ s.link.state = .linked →
          t.link = { s.link with state := .bridging, bridging := 0, returnTo := some s.link.state } ∧
          t.regs.change &&& changeBit .link = changeBit .link ∧
          (s.role = .desk ∨ s.clock.measFrames < 4096 → t.ring =
            ringWith .linkState 0 (if s.link.state = .connecting then 0x00000301#32 else 0x00000302#32)
              (s.setRing flushed)) ∧
          (s.role = .stage → t.deliverer.maskInUse = 0 ∧ t.clock.state = .holdover ∧
            t.clock.realignPending = false ∧ t.clock.measFrames = 0 ∧ t.clock.runPos = 0 ∧
            t.clock.lastArrival = none ∧ t.clock.period = s.clock.period ∧ t.clock.frameLen = s.clock.frameLen) ∧
          (s.role = .desk → s.link.state = .linked → t.talkSeen = false)) ∧
        (s.link.state ≠ .connecting → s.link.state ≠ .linked →
          t.link = s.link ∧ t.clock = s.clock ∧ t.ring = flushed))

/-- A bridge that has run its 48 frames is LOST (sections 7.3, 7.2, 8.7, 3.6): LINK_STATE, far-end silence and a pending
rejoin, the far-end output slots 0, the island timer at 0, and at the desk everything in flight back on the dirty list.
Before that, nothing. That the conceal run is 0 from this event on is a reading of the spec (log 11); that LOST comes by
this row, or the next tick, and not inside the 48th frame is the model's choice (log 4), and so is that the bridging
counter and the return state are 0 and none once BRIDGING is left (log 32). -/
def Obligations.BridgeLost : Prop :=
  ∀ s : State,
    (¬ (s.link.state = .bridging ∧ 48 ≤ s.link.bridging) → exec .bridgingExpiry s = .next s) ∧
    (s.link.state = .bridging → 48 ≤ s.link.bridging → ListsOk s →
      ∃ t, exec .bridgingExpiry s = .next t ∧
        t.link = { s.link with state := .lost, bridging := 0, returnTo := none } ∧
        t.ring = ringWith .linkState 0 0x00000403#32 s ∧ noticed .link t ∧
        t.regs.change = s.regs.change ||| changeBit .link ∧ RegsKept s t ∧
        t.deliverer = { s.deliverer with
          lastOut := List.replicate s.deliverer.lastOut.length 0, run := 0, rejoinPending := true,
          maskInUse := if s.role = .stage then 0 else s.deliverer.maskInUse } ∧
        (s.role = .desk → Keeps [.link, .ring, .sched, .regs, .deliverer, .desk, .output] s t ∧
          t.output = { s.output with slots := List.replicate s.output.slots.length 0 } ∧
          t.desk = { s.desk with
            inFlight := [],
            dirty := s.desk.dirty ++
              (s.desk.inFlight.map InFlight.record).filter (fun r => !s.desk.dirty.contains r),
            adoption := s.desk.adoption.map fun e => { e with pulled := none } }) ∧
        (s.role = .stage → Keeps [.link, .ring, .sched, .regs, .deliverer, .island, .output] s t ∧
          t.output = { s.output with
            slots := s.output.slots.take 16 ++ List.replicate (s.output.slots.length - 16) 0 } ∧
          t.island = { s.island with count := 0 }))

/-- A HELLO at the supervisor (section 7.3): dropped outside CONNECTING and LINKED and for a role that is none;
reported once for this end's own role; accepted in CONNECTING; and in LINKED taken as a new connect, or ignored when
it answers this end's own. The two transitions come with LINK_STATE and leave all else as it was but what the link
reaches; the ADOPT_DONE that may follow at the desk is in RejoinDecided. That the bridging counter and the return
state are 0 and none out of BRIDGING is the model's choice (log 32). -/
def Obligations.HelloTaken : Prop :=
  ∀ (s : State) (p : List Byte) (rest : List Msg), s.receiver.inbox = { type := .hello, payload := p } :: rest →
    let own := byteAt p 0 = (roleCode s.role).setWidth 8
    let opposite := byteAt p 0 = 1 - (roleCode s.role).setWidth 8
    let heard := byteAt p 1 ≠ 0
    let heardFresh := byteAt p 2 ≠ 0
    let freshAfter := if s.role = .desk then byteAt p 2 != 0 else s.link.farFresh
    let entered := ringWith .linkState 0 0x00000201#32 s
    let toStage := fun (t : State) => Keeps [.receiver, .link, .ring, .sched, .regs, .deliverer, .clock] s t ∧
      t.deliverer = { s.deliverer with maskInUse := 0 } ∧ (s.clock.state = .locked → t.clock = s.clock)
    ∃ t, exec .helloReceived s = .next t ∧ t.receiver = { s.receiver with inbox := rest } ∧
      ((s.link.state ≠ .connecting ∧ s.link.state ≠ .linked) ∨ (¬ own ∧ ¬ opposite) → Keeps [.receiver] s t) ∧
      (own → s.link.state = .connecting ∨ s.link.state = .linked → s.link.roleFault = true → Keeps [.receiver] s t) ∧
      (own → s.link.state = .connecting ∨ s.link.state = .linked → s.link.roleFault = false →
        Keeps [.receiver, .link, .ring, .sched, .regs] s t ∧ t.link = { s.link with roleFault := true } ∧
        t.ring = ringWith .roleFault (roleCode s.role).toNat 0 s) ∧
      (opposite → s.link.state = .connecting → ¬ (heard ∧ (s.role = .desk ∨ s.link.heard = true)) →
        Keeps [.receiver, .link] s t ∧ t.link = { s.link with heard := true, farFresh := freshAfter }) ∧
      (opposite → s.link.state = .connecting → heard → s.role = .desk ∨ s.link.heard = true →
        t.link = { s.link with
          state := .linked, heard := true, farFresh := freshAfter, bridging := 0, returnTo := none } ∧
        t.sched.helloDue = true ∧ noticed .link t ∧ t.regs.change &&& changeBit .link = changeBit .link ∧ RegsKept s t ∧
        (s.role = .stage → toStage t ∧ t.ring = entered) ∧
        (s.role = .desk → Keeps [.receiver, .link, .ring, .sched, .regs, .desk] s t ∧
          (heardFresh ∨ s.desk.binding = .bound ∨ s.regs.ctrl.policy = .impose → t.ring = entered))) ∧
      (opposite → s.link.state = .linked → heard → s.link.helloAge ≤ 2 → Keeps [.receiver] s t) ∧
      (opposite → s.link.state = .linked → ¬ heard ∨ 2 < s.link.helloAge →
        t.link = { s.link with state := .connecting, bridging := 0, returnTo := none, farFresh := freshAfter } ∧
        t.sched.helloDue = true ∧ noticed .link t ∧ t.regs.change &&& changeBit .link = changeBit .link ∧
        RegsKept s t ∧
        (∃ entered : Ring, entered = ringWith .linkState 0 0x00000102#32 s ∧
          t.ring = (if s.role = .desk ∧ byteAt p 1 = 0 then
            ringWith .farRestart 0 (if byteAt p 2 = 0 then 0 else 1) (s.setRing entered) else entered)) ∧
        (s.role = .desk → Keeps [.receiver, .link, .ring, .sched, .regs, .desk, .talkSeen] s t ∧ t.talkSeen = false ∧
          (ListsOk s → t.desk = { s.desk with
            inFlight := [],
            dirty := s.desk.dirty ++
              (s.desk.inFlight.map InFlight.record).filter (fun r => !s.desk.dirty.contains r),
            adoption := s.desk.adoption.map fun e => { e with pulled := none } })) ∧
        (s.role = .stage → toStage t ∧ t.sched.statusDue = false))

/-- The desk enters LINKED from CONNECTING and decides (sections 8.7, 8.8): full replay, adoption or resume, by the far
end's fresh field, the binding and the policy; and it is BOUND from then on. LINK_STATE is written, and for an adoption
set that is empty at once ADOPT_DONE with a count of 0, after LINK_STATE by the model's choice (log 26). -/
def Obligations.RejoinDecided : Prop :=
  ∀ (s : State) (p : List Byte) (rest : List Msg), s.role = .desk → s.link.state = .connecting → ListsOk s → Sized s →
    s.receiver.inbox = { type := .hello, payload := p } :: rest → byteAt p 0 = 1 → byteAt p 1 ≠ 0 →
    let replay := byteAt p 2 ≠ 0 ∨ (s.desk.binding = .unbound ∧ s.regs.ctrl.policy = .impose)
    let adopts := byteAt p 2 = 0 ∧ s.desk.binding = .unbound ∧ s.regs.ctrl.policy = .adopt
    let entered := ringWith .linkState 0 0x00000201#32 s
    ∃ t, exec .helloReceived s = .next t ∧ t.link.state = .linked ∧
      Keeps [.receiver, .link, .ring, .sched, .regs, .desk] s t ∧ RegsKept s t ∧
      t.desk.binding = .bound ∧ t.desk.inFlight = [] ∧ t.desk.shadow = s.desk.shadow ∧
      t.desk.counter = s.desk.counter ∧
      (replay ∨ ¬ adopts ∨ t.desk.adoption ≠ [] → t.ring = entered) ∧
      (replay → t.desk.decision = .fullReplay ∧ t.desk.adoption = [] ∧
        t.desk.dirty = s.desk.dirty ++ (List.range 226).filter (fun r => !s.desk.dirty.contains r)) ∧
      (adopts → t.desk.decision = .adoption ∧ t.desk.adopted = 0 ∧ t.desk.dirty = s.desk.dirty ∧
        (∀ e ∈ t.desk.adoption, e.pulled = none) ∧ (t.desk.adoption.map Adoptee.record).Nodup ∧
        (∀ r < 226, (∃ e ∈ t.desk.adoption, e.record = r) ↔ (shadowAt s r).version = 0 ∧ r ∉ s.desk.dirty) ∧
        (t.desk.adoption = [] → noticed .sync t ∧ t.ring = ringWith .adoptDone 0 0 (s.setRing entered))) ∧
      (¬ replay → ¬ adopts → t.desk = { s.desk with binding := .bound, decision := .resume })

/-! ## Timers of the stage -/

/-- The Clock Trim Unit at a frame and the end of a trim period (section 7.4), the island's engagement (section 3.6)
and the talk button's debounced change (section 4.5). ISLAND_ENGAGE and DEBOUNCE_CHANGE are the boundary that brings
the engagement or the change, at the pin's last level and at the other level, and nothing where no boundary is due or
would bring it (logs 3 and 4); what is due is settled first, and the last frame time judged (logs 3 and 23). A LOCKED
frame's ideal end is one measured period after that of the frame before it, and it ends at the first cycle at or after
it; that the period is read as the frame begins is the model's choice, and what it is at first and what a spacing
makes of it are open (log 7); the frame a realignment cut short is not measured (log 8); the run position of the frame
in progress at the entry into HOLDOVER is log 24. That the frame which brings the measurement frame count to 4,096
leaves the period open, with the count standing at 4,096 until TRIM_PERIOD_END or the next tick, where R132 ends the
period with that frame, is the model's choice (log 4). -/
def Obligations.StageTimers : Prop :=
  ∀ s : State, s.role = .stage →
    (let u := endSuperframe s
      let hold := (liveByte u 225 0).toNat
      let count := min 255000 (u.island.count + 1)
      let engages := 48 ≤ s.frameIndex ∧ u.link.state = .lost ∧ u.island.engaged = false ∧ hold ≠ 0 ∧ 1000 * hold ≤ count
      (¬ engages → exec .islandEngage s = .next s) ∧
      (engages → ∃ t, exec .islandEngage s = .next t ∧ exec (.superframeBoundary s.button.pinLow) s = .next t ∧
        t.island = { u.island with count := count, engaged := true } ∧
        (u.portA.state ≠ .locked → u.portB.state ≠ .locked →
          t.ring = ringWith .islandDim hold ((liveByte u 225 1).setWidth 32) (u.setSuperframe (u.superframe + 1))))) ∧
    (s.frameIndex < 48 ∨ s.button.counter < 19 → exec .debounceChange s = .next s) ∧
    (48 ≤ s.frameIndex → 19 ≤ s.button.counter →
      let level := !s.button.pressed
      ∃ t, exec .debounceChange s = .next t ∧ exec (.superframeBoundary level) s = .next t ∧
        t.button = { pinLow := level, pressed := level, counter := 0 } ∧ noticed .link t ∧
        t.regs.change &&& changeBit .stageTalk = changeBit .stageTalk) ∧
    (4096 ≤ s.clock.measFrames →
      let d := (s.clock.measCycles : Int) - 2097152
      ∃ t, exec .trimPeriodEnd s = .next t ∧ Keeps [.clock, .ring, .sched, .regs] s t ∧ RegsKept s t ∧
        t.clock = { s.clock with trim := max (-64) (min 63 d), measFrames := 0, measCycles := 0 } ∧
        t.ring = (if -64 ≤ d ∧ d ≤ 63 then s.ring else ringWith .clockRange 0 (BitVec.ofInt 32 d) s)) ∧
    (s.clock.measFrames < 4096 → exec .trimPeriodEnd s = .next s) ∧
    ∀ (slots : List Sample) (cycles : Nat),
      let u := beforeFrame s
      let c := u.clock
      let next : Rat := c.ideal - c.frameLen + c.period
      let holdover := if (c.runPos : Int) < c.trim then 513 else if (c.runPos : Int) < -c.trim then 511 else 512
      let ended : Clock := { c with
        cut := .whole,
        lastArrival := c.lastArrival.map fun a => { port := a.port, tag := a.tag, moment := a.moment - c.frameLen } }
      ∃ t, exec (.frame slots cycles) s = .next t ∧
        (t.link.state = u.link.state →
          (c.state = .free → t.clock = { ended with frameLen := 512, ideal := 512 }) ∧
          (c.state = .locked → c.realignPending = true → t.clock = { ended with frameLen := 512, ideal := 512 }) ∧
          (c.state = .locked → c.realignPending = false → (∀ n, c.cut ≠ .skipped n) →
            t.clock = { ended with
              frameLen := next.ceil.toNat, ideal := next, measFrames := c.measFrames + 1,
              measCycles := c.measCycles + c.frameLen }) ∧
          (∀ n, c.state = .locked → c.realignPending = false → c.cut = .skipped n →
            t.clock = { ended with frameLen := next.ceil.toNat, ideal := next }) ∧
          (c.state = .holdover → t.clock = { ended with
            frameLen := holdover, ideal := holdover, runPos := (c.runPos + 1) % 4096 })) ∧
        (t.link.state ≠ u.link.state → t.clock.state = .holdover ∧ t.clock.realignPending = false ∧
          t.clock.measFrames = 0 ∧ t.clock.measCycles = 0 ∧ t.clock.runPos = 0)

/-! ## Messages begun -/

/-- The messages of the desk, and the HELLO of either end (sections 6.4, 8.5, 8.8): a HELLO when it is due; else a PULL
of the lowest unsent member while fewer than 8 are outstanding; else a PUSH of the first dirty record not in flight, its
bytes past the fields of its kind sent as 0. -/
def Obligations.DeskMessagesBegin : Prop :=
  ∀ s : State, s.sched.sending = [] →
    let outstanding := s.desk.adoption.countP (fun e => e.pulled.isSome)
    (s.sched.helloDue = true → ∃ t, exec .helloBegin s = .next t ∧ Keeps [.sched, .link] s t ∧
      t.sched = { s.sched with
        sending := messageBytes .hello [(roleCode s.role).setWidth 8, (BitVec.ofBool s.link.heard).setWidth 8,
          if s.role = .stage ∧ s.stage.fresh = true then 1 else 0],
        helloDue := false } ∧
      t.link = { s.link with helloAge := 0 }) ∧
    (s.role = .desk → s.sched.helloDue = false → s.link.state = .linked →
      (∀ e ∈ s.desk.adoption, e.record < 226 → e.pulled = none → outstanding < 8 →
        (∀ x ∈ s.desk.adoption, x.pulled = none → e.record ≤ x.record) →
        ∃ t, exec .pullBegin s = .next t ∧ Keeps [.sched, .desk] s t ∧
          t.sched = { s.sched with sending := messageBytes .pull (be16 (BitVec.ofNat 16 e.record)) } ∧
          t.desk = { s.desk with adoption := s.desk.adoption.map fun x =>
            if x.record = e.record then { x with pulled := some s.superframe } else x }) ∧
      ∀ (before after : List Nat) (r : Nat), s.desk.dirty = before ++ r :: after →
        (∀ x ∈ before, ∃ e ∈ s.desk.inFlight, e.record = x) → (∀ e ∈ s.desk.inFlight, e.record ≠ r) →
        s.desk.inFlight.length < 8 → 8 ≤ outstanding ∨ (∀ e ∈ s.desk.adoption, e.pulled ≠ none) →
        ∃ t, exec .pushBegin s = .next t ∧ Keeps [.sched, .desk] s t ∧
          t.sched = { s.sched with
            sending := messageBytes .push
              (be16 (BitVec.ofNat 16 r) ++ be32 (shadowAt s r).version ++
                (List.range 16).map fun k =>
                  if k < fieldCount (recordKind r) then byteAt (shadowAt s r).contents k else 0) } ∧
          t.desk = { s.desk with
            dirty := before ++ after,
            inFlight := s.desk.inFlight ++
              [{ record := r, version := (shadowAt s r).version, stamp := s.superframe }] })

/-- The stage's replies, NOTE and STATUS in their order of priority (section 6.4): the head of the reply queue, a
REPORT reading the live record now; the event at the forward cursor; the STATUS payload. Picks while a boundary is due
are log 29. -/
def Obligations.StageMessagesBegin : Prop :=
  ∀ s : State, s.role = .stage → s.sched.sending = [] → s.sched.helloDue = false →
    (∀ rest r v, s.sched.replies = .ack r v :: rest → s.link.state = .connecting ∨ s.link.state = .linked →
      ∃ t, exec .replyBegin s = .next t ∧ Keeps [.sched] s t ∧
        t.sched = { s.sched with
          sending := messageBytes .ack (be16 (BitVec.ofNat 16 r) ++ be32 v), replies := rest }) ∧
    (∀ rest r live, s.sched.replies = .report r :: rest → s.link.state = .connecting ∨ s.link.state = .linked →
      s.stage.live[r]? = some live →
      ∃ t, exec .replyBegin s = .next t ∧ Keeps [.sched] s t ∧
        t.sched = { s.sched with
          sending := messageBytes .report (be16 (BitVec.ofNat 16 r) ++ be32 live.version ++ live.contents),
          replies := rest }) ∧
    (s.link.state = .linked → s.sched.replies = [] →
      (s.sched.noteCursor.toNat < s.ring.written.toNat → s.ring.records.length = 64 →
        ∃ t e, exec .noteBegin s = .next t ∧ s.ring.records[s.sched.noteCursor.toNat % 64]? = some e ∧
          Keeps [.sched] s t ∧
          t.sched = { s.sched with
            sending := messageBytes .note
              (be32 e.sequence ++ be32 e.stamp ++ [e.type, e.origin] ++ be16 e.subject ++ be32 e.detail),
            noteCursor := s.sched.noteCursor + 1 }) ∧
      (s.ring.written.toNat ≤ s.sched.noteCursor.toNat → s.sched.statusDue = true →
        ∃ t, exec .statusBegin s = .next t ∧ Keeps [.sched, .status] s t ∧
          t.sched = { s.sched with
            sending := messageBytes .status
              [clockCode s.clock.state, BitVec.ofInt 8 s.clock.trim,
                (BitVec.ofBool s.island.lastEngaged).setWidth 8, BitVec.ofNat 8 s.island.lastElapsed,
                (portCode s.portA).setWidth 8, (portCode s.portB).setWidth 8,
                (activeCode s.selector.active).setWidth 8, 2],
            statusDue := false } ∧
          t.status = { s.status with statusCount := satSucc s.status.statusCount }))

/-- A take of the Meter Collector (section 5.1): the group at the cursor goes into the message and the mirror, its
accumulators start again, every channel and mix is as it was but for them, cursor and mark move on, and the take that
wraps sets the METER notice. A take while a boundary is due counts in the superframe that ends, by the model's choice
(log 29). -/
def Obligations.MeterTaken : Prop :=
  ∀ s : State, s.role = .stage → s.sched.sending = [] → s.sched.helloDue = false → s.link.state = .linked →
    s.sched.replies = [] → s.ring.written.toNat ≤ s.sched.noteCursor.toNat → s.sched.statusDue = false →
    s.sched.meterCount < 2 → Sized s → s.meters.cursor < 112 →
    let first := s.meters.cursor
    let count := min 16 (112 - first)
    let word := fun i => BitVec.ofNat 7 s.meters.mark ++ BitVec.ofBool (meterAt s i).2 ++
      BitVec.ofNat 24 (meterAt s i).1
    ∃ t, exec .meterTake s = .next t ∧ Keeps [.channels, .mixes, .meters, .sched, .regs] s t ∧
      t.sched = { s.sched with
        sending := messageBytes .meter
          ([BitVec.ofNat 8 s.meters.mark, BitVec.ofNat 8 first, BitVec.ofNat 8 count] ++
            ((List.range count).map fun k => be32 (word (first + k))).flatten),
        meterCount := s.sched.meterCount + 1 } ∧
      (∀ i, first ≤ i → i < first + count → t.meters.table[i]? = some (word i) ∧ meterAt t i = (0, false)) ∧
      (∀ i < 112, i < first ∨ first + count ≤ i →
        t.meters.table[i]? = s.meters.table[i]? ∧ meterAt t i = meterAt s i) ∧
      (∀ n, channelAt t n =
        { channelAt s n with peak := (channelAt t n).peak, clip := (channelAt t n).clip }) ∧
      t.channels.length = s.channels.length ∧ t.mixes.length = s.mixes.length ∧
      (∀ (m : Nat) (x : Mix), s.mixes[m]? = some x →
        ∃ y, t.mixes[m]? = some y ∧ y = { x with peak := y.peak, clip := y.clip }) ∧
      t.meters.store = s.meters.store ∧ t.meters.sweeps = s.meters.sweeps ∧
      (first + count < 112 →
        t.meters.cursor = first + count ∧ t.meters.mark = s.meters.mark ∧ t.regs = s.regs) ∧
      (first + count = 112 → t.meters.cursor = 0 ∧ t.meters.mark = (s.meters.mark + 1) % 128 ∧
        t.regs = { s.regs with notice := s.regs.notice ||| noticeBit .meter })

/-! ## Messages received -/

/-- PUSH and PULL at the stage (section 8.11): acted on in LINKED for an ID that exists, and dropped otherwise; an
admitted PUSH is clamped, stored with its version and acknowledged, an admitted PULL is answered with a REPORT. How
section 3.6's record pushed in CONNECTING fits with the drop there is a reading of the spec (log 28). -/
def Obligations.PushPullTaken : Prop :=
  ∀ (s : State) (type : MsgType) (p : List Byte) (rest : List Msg), s.role = .stage →
    s.receiver.inbox = { type := type, payload := p } :: rest →
    let r := (half16At p 0).toNat
    let contents := (List.range 16).map fun k => byteAt p (6 + k)
    let queue := fun (x : Reply) =>
      if s.sched.replies.length < 16 then s.sched.replies ++ [x] else s.sched.replies
    (type = .push → ∃ t, exec .pushReceived s = .next t ∧ t.receiver = { s.receiver with inbox := rest } ∧
      (s.link.state ≠ .linked ∨ 226 ≤ r → Keeps [.receiver] s t) ∧
      (s.link.state = .linked → r < 226 →
        t.stage.live = s.stage.live.set r
          { contents := clampContents r contents, version := word32At p 2, stamp := s.superframe } ∧
        t.stage.fresh = false ∧ t.sched = { s.sched with replies := queue (.ack r (word32At p 2)) } ∧
        Keeps [.receiver, .stage, .sched, .channels, .preamp] s t ∧
        (96 ≤ r → Keeps [.receiver, .stage, .sched] s t) ∧
        (r < 96 → ∀ n, n ≠ r → channelAt t n = channelAt s n))) ∧
    (type = .pull → ∃ t, exec .pullReceived s = .next t ∧ t.receiver = { s.receiver with inbox := rest } ∧
      (s.link.state ≠ .linked ∨ 226 ≤ r → Keeps [.receiver] s t) ∧
      (s.link.state = .linked → r < 226 →
        Keeps [.receiver, .sched] s t ∧ t.sched = { s.sched with replies := queue (.report r) }))

/-- What an applied CHANNEL record does to its channel (sections 1.3, 1.5): pad and polarity at once where they
differ, nothing for a gain, and the Phantom Sequencer's field events; where muting finds the gate closed, its reaction
follows at once. A changed pad and a reaction that follows at once enqueue the channel, unless it is queued already.
What applied phantom is where MUTING_OFF turns back to MUTING_ON, and MUTING_ON to OFF, is a reading of the spec (log
13). -/
def Obligations.ChannelRecordApplied : Prop :=
  ∀ (s : State) (p : List Byte) (rest : List Msg) (n : Nat), s.role = .stage → s.link.state = .linked → Sized s →
    s.receiver.inbox = { type := .push, payload := p } :: rest → (half16At p 0).toNat = n → n < 96 →
    let c := channelAt s n
    let field := fun k => byteAt (clampContents n ((List.range 16).map fun j => byteAt p (6 + j))) k
    let same := fun k => field k = liveByte s n k
    let raised := ¬ same 2 ∧ field 2 ≠ 0
    let dropped := ¬ same 2 ∧ field 2 = 0
    let shutting := rampTarget 0 c.gate
    let shut := c.gate.current = 0
    let enqueues := ¬ same 1 ∨
      (raised ∧ shut ∧ (c.phantom = .off ∨ c.phantom = .mutingOff ∨ c.phantom = .discharging)) ∨
      (dropped ∧ shut ∧ (c.phantom = .charging ∨ c.phantom = .on))
    ∃ t, exec .pushReceived s = .next t ∧
      let d := channelAt t n
      d = { c with
        appliedPad := if same 1 then c.appliedPad else field 1 != 0,
        polarity := if same 3 then c.polarity else field 3 != 0,
        gate := d.gate, phantom := d.phantom, phantomTimer := d.phantomTimer, appliedPhantom := d.appliedPhantom } ∧
      (same 2 ∨ (raised ∧ (c.phantom = .mutingOn ∨ c.phantom = .charging ∨ c.phantom = .on ∨ c.phantom = .fault)) ∨
          (dropped ∧ (c.phantom = .off ∨ c.phantom = .mutingOff ∨ c.phantom = .discharging)) →
        d.gate = c.gate ∧ d.phantom = c.phantom ∧ d.phantomTimer = c.phantomTimer ∧
        d.appliedPhantom = c.appliedPhantom) ∧
      (raised → c.phantom = .off ∨ c.phantom = .mutingOff ∨ c.phantom = .discharging →
        d.gate = shutting ∧
        (shut → d.phantom = .charging ∧ d.appliedPhantom = true ∧ d.phantomTimer = some (s.superframe + 800#32)) ∧
        (¬ shut → d.phantom = .mutingOn ∧ d.appliedPhantom = c.appliedPhantom)) ∧
      (dropped → c.phantom = .charging ∨ c.phantom = .on →
        d.gate = shutting ∧
        (shut → d.phantom = .discharging ∧ d.appliedPhantom = false ∧
          d.phantomTimer = some (s.superframe + 800#32)) ∧
        (¬ shut → d.phantom = .mutingOff ∧ d.appliedPhantom = c.appliedPhantom)) ∧
      (dropped → c.phantom = .mutingOn →
        d.gate = rampTarget unity c.gate ∧ d.phantom = .off ∧ d.appliedPhantom = c.appliedPhantom) ∧
      (dropped → c.phantom = .fault →
        d.gate = c.gate ∧ d.phantom = .discharging ∧ d.phantomTimer = some (s.superframe + 800#32) ∧
        d.appliedPhantom = c.appliedPhantom) ∧
      (¬ enqueues ∨ n ∈ s.preamp.queue → t.preamp = s.preamp) ∧
      (enqueues → n ∉ s.preamp.queue → t.preamp = { s.preamp with queue := s.preamp.queue ++ [n] })

/-- An ACK at the desk (section 8.6): the confirmed version; a matching entry removed, a stale one left, a late one
taken out of the dirty list; and where the record is CLEAN after it, the entries ACCEPTED against it DONE. -/
def Obligations.AckTaken : Prop :=
  ∀ (s : State) (p : List Byte) (rest : List Msg), s.role = .desk → BoardOk s → ListsOk s → Sized s →
    s.receiver.inbox = { type := .ack, payload := p } :: rest →
    let r := (half16At p 0).toNat
    let v := word32At p 2
    ∃ t, exec .ackReceived s = .next t ∧ t.receiver = { s.receiver with inbox := rest } ∧
      (226 ≤ r → Keeps [.receiver] s t) ∧
      (r < 226 →
        Keeps [.receiver, .desk, .board, .scanner, .regs] s t ∧
        shadowAt t r = { shadowAt s r with confirmed := v } ∧ (∀ k, k ≠ r → shadowAt t k = shadowAt s k) ∧
        t.desk = { s.desk with shadow := t.desk.shadow, dirty := t.desk.dirty, inFlight := t.desk.inFlight } ∧
        (∀ e ∈ s.desk.inFlight, e.record = r → e.version = v →
          t.desk.inFlight = s.desk.inFlight.filter (fun x => x.record != r) ∧ t.desk.dirty = s.desk.dirty) ∧
        (∀ e ∈ s.desk.inFlight, e.record = r → e.version ≠ v →
          t.desk.inFlight = s.desk.inFlight ∧ t.desk.dirty = s.desk.dirty) ∧
        ((∀ e ∈ s.desk.inFlight, e.record ≠ r) → t.desk.inFlight = s.desk.inFlight ∧
          t.desk.dirty = (if v ≠ 0 ∧ v = (shadowAt s r).version then s.desk.dirty.filter (fun x => x != r)
            else s.desk.dirty)) ∧
        (s.desk.dirty ≠ [] ∨ s.desk.inFlight ≠ [] → t.desk.dirty = [] → t.desk.inFlight = [] → noticed .sync t) ∧
        let clean := replState t.desk r = .clean
        (∀ i a, i < 32 → acceptedAt s i = some a → a.record = r → clean →
          acceptedAt t i = none ∧ noticed .board t ∧ entryWord t i 0 = a.tag ++ a.kind ++ 3#8 ∧
          entryWord t i 6 = 0#23 ++ BitVec.ofBool a.clamped ++ 1#8 ∧ entryWord t i 7 = s.superframe ∧
          ∀ k, 1 ≤ k → k ≤ 5 → entryWord t i k = entryWord s i k) ∧
        ∀ i, i < 32 → (¬ clean ∨ ∀ a, acceptedAt s i = some a → a.record ≠ r) →
          acceptedAt t i = acceptedAt s i ∧ ∀ k < 8, entryWord t i k = entryWord s i k)

/-- A REPORT at the desk (section 8.8): a record in the adoption set takes the stage's contents as they stand, with
version and confirmed version 0, and leaves the set; the last one ends the adoption; any other REPORT is dropped. That
the bytes which section 11.6 marks as 0 are stored as they stand too is the model's choice (log 30). -/
def Obligations.ReportTaken : Prop :=
  ∀ (s : State) (p : List Byte) (rest : List Msg), s.role = .desk → Sized s →
    s.receiver.inbox = { type := .report, payload := p } :: rest →
    let r := (half16At p 0).toNat
    let remaining := s.desk.adoption.filter fun e => e.record != r
    ∃ t, exec .reportReceived s = .next t ∧ t.receiver = { s.receiver with inbox := rest } ∧
      (226 ≤ r ∨ (∀ e ∈ s.desk.adoption, e.record ≠ r) → Keeps [.receiver] s t) ∧
      (∀ e ∈ s.desk.adoption, e.record = r → r < 226 →
        Keeps [.receiver, .desk, .ring, .sched, .regs] s t ∧
        t.desk = { s.desk with
          shadow := s.desk.shadow.set r
            { contents := (List.range 16).map fun k => byteAt p (6 + k), version := 0, confirmed := 0,
              stamp := s.superframe },
          adopted := s.desk.adopted + 1, adoption := remaining } ∧
        (ListsOk s → replState t.desk r = .clean) ∧
        (remaining ≠ [] → t.ring = s.ring ∧ t.regs = s.regs) ∧
        (remaining = [] → noticed .sync t ∧ t.ring = ringWith .adoptDone 0 (BitVec.ofNat 32 (s.desk.adopted + 1)) s))

/-- NOTE and STATUS at the desk (sections 9.4, 9.5): a NOTE with origin 1 goes into the ring with the stage's detail as
its stamp and the stage's sequence as its detail, any other is dropped; a STATUS replaces the last one whole. That the
bits of the stage's detail which section 11.8 marks as 0, or names for no field, are copied too is the model's choice
(log 31). -/
def Obligations.NoteStatusTaken : Prop :=
  ∀ (s : State) (type : MsgType) (p : List Byte) (rest : List Msg), s.role = .desk →
    s.receiver.inbox = { type := type, payload := p } :: rest →
    (type = .note → ∃ t, exec .noteReceived s = .next t ∧ t.receiver = { s.receiver with inbox := rest } ∧
      (byteAt p 9 ≠ 1 ∨ s.ring.written = 4294967295#32 → Keeps [.receiver] s t) ∧
      (byteAt p 9 = 1 → s.ring.written ≠ 4294967295#32 →
        Keeps [.receiver, .ring, .sched, .regs] s t ∧ t.sched = s.sched ∧
        t.regs = { s.regs with notice := s.regs.notice ||| noticeBit .event } ∧
        t.ring = {
          records := s.ring.records.set (s.ring.written.toNat % 64)
            { sequence := s.ring.written, stamp := word32At p 12, type := byteAt p 8, origin := 1,
              subject := half16At p 10, detail := word32At p 0 },
          written := s.ring.written + 1 })) ∧
    (type = .status → ∃ t, exec .statusReceived s = .next t ∧ t.receiver = { s.receiver with inbox := rest } ∧
      Keeps [.receiver, .status] s t ∧
      t.status = { s.status with
        stageStatus := (List.range 8).map fun k => byteAt p k, statusCount := satSucc s.status.statusCount })

/-- A METER message at the desk (section 5.2): an inconsistent one is dropped whole; its words are written to the table,
or under the hold merged into the pending store; and the one that ends at meter 111 completes a sweep. -/
def Obligations.MeterReceived : Prop :=
  ∀ (s : State) (p : List Byte) (rest : List Msg), s.role = .desk → Sized s →
    s.receiver.inbox = { type := .meter, payload := p } :: rest →
    let first := (byteAt p 1).toNat
    let count := (byteAt p 2).toNat
    let consistent := 3 ≤ p.length ∧ first ≤ 111 ∧ 1 ≤ count ∧ count ≤ 16 ∧ first + count ≤ 112 ∧
      p.length = 3 + 4 * count
    let cadence := 2 ^ s.regs.ctrl.cadence.toNat
    let counted := min 255 (s.meters.sweeps + 1)
    ∃ t, exec .meterReceived s = .next t ∧ t.receiver = { s.receiver with inbox := rest } ∧
      (¬ consistent → Keeps [.receiver] s t) ∧
      (consistent →
        Keeps [.receiver, .meters, .regs] s t ∧ t.meters.cursor = s.meters.cursor ∧ t.meters.mark = s.meters.mark ∧
        (s.regs.ctrl.hold = false → t.meters.store = s.meters.store ∧
          (∀ j < count, t.meters.table[first + j]? = some (word32At p (3 + 4 * j))) ∧
          ∀ i, i < first ∨ first + count ≤ i → t.meters.table[i]? = s.meters.table[i]?) ∧
        (s.regs.ctrl.hold = true → t.meters.table = s.meters.table ∧
          (∀ j < count, s.meters.store.getD (first + j) none = none →
            t.meters.store.getD (first + j) none = some (word32At p (3 + 4 * j))) ∧
          (∀ j < count, ∀ e, s.meters.store.getD (first + j) none = some e →
            ∃ w, t.meters.store.getD (first + j) none = some w ∧
              meterPeak w = max (meterPeak e) (meterPeak (word32At p (3 + 4 * j))) ∧
              (meterClip w = true ↔ meterClip e = true ∨ meterClip (word32At p (3 + 4 * j)) = true) ∧
              meterMark w = meterMark (word32At p (3 + 4 * j))) ∧
          ∀ i, i < first ∨ first + count ≤ i → t.meters.store[i]? = s.meters.store[i]?) ∧
        (first + count ≠ 112 → t.meters.sweeps = s.meters.sweeps ∧ t.regs = s.regs) ∧
        (first + count = 112 → s.regs.ctrl.hold = true ∨ counted < cadence →
          t.meters.sweeps = counted ∧ t.regs = s.regs) ∧
        (first + count = 112 → s.regs.ctrl.hold = false → cadence ≤ counted →
          t.meters.sweeps = 0 ∧ t.regs = { s.regs with notice := s.regs.notice ||| noticeBit .meter }))

/-! ## The other role -/

/-- The blocks of one role take no events in the other (sections 1.8, 3.7, 4.3, 5.1, 7.4, 8.10, 9.3, 9.7): a command of
theirs leaves everything as it is, and a message row of theirs takes its message out of the model's own inbox (log 15)
and does nothing else. -/
def Obligations.OtherRoleIdle : Prop :=
  ∀ (c : Instr) (s : State),
    (s.role = .desk →
      c ∈ [.gainStepperExpiry, .transferStart, .islandEngage, .trimPeriodEnd, .debounceChange, .replyBegin, .noteBegin,
        .statusBegin, .meterTake] ∨ (∃ n, c = .gateClosed n ∨ c = .phantomTimerExpiry n) ∨
        (∃ w, c = .transferComplete w) → exec c s = .next s) ∧
    (s.role = .stage →
      c ∈ [.inFlightTimeout, .pushBegin, .pullBegin, .boardScan] ∨
        (∃ src, c = .talkRenewExpiry src ∨ c = .talkLimitExpiry src) ∨
        (∃ i, c = .deadlineExpiry i ∨ c = .setRecord i ∨ c = .setField i ∨ c = .talkPress i ∨ c = .talkRelease i ∨
          c = .replayAll i) ∨ (∃ r, c = .pullTimeout r) → exec c s = .next s) ∧
    ∀ type, (s.role = .desk ∧ (c, type) ∈ [(Instr.pushReceived, MsgType.push), (.pullReceived, .pull)]) ∨
        (s.role = .stage ∧ (c, type) ∈ [(Instr.ackReceived, MsgType.ack), (.reportReceived, .report),
          (.noteReceived, .note), (.statusReceived, .status), (.meterReceived, .meter)]) →
      (∀ m rest, s.receiver.inbox = m :: rest → m.type = type →
        exec c s = .next (s.setReceiver { s.receiver with inbox := rest })) ∧
      ((∀ m rest, s.receiver.inbox = m :: rest → m.type ≠ type) → exec c s = .next s)

end
end

