-- ==== Sys2Proof/Laws/Frames.lean ====
section
/-! SUPPORT. What each shared operation leaves alone, said once: `op_keeps` lists the only parts of State that `op`
writes. A part outside the list is read off with `Keeps.part`, and frames compose with `Keeps.next`. -/

namespace Sys2Proof.Machine

/-- A part outside the list is as it was. -/
theorem Keeps.part {T : List Part} {s t : State} (h : Keeps T s t) (p : Part) (hp : p ∉ T := by decide) :
    p.same s t := h p hp

theorem Keeps.refl (T : List Part) (s : State) : Keeps T s s := by
  intro p _
  cases p <;> rfl

/-- A frame with fewer parts is a frame with more. -/
theorem Keeps.mono {T U : List Part} {s t : State} (h : Keeps U s t) (hU : U ⊆ T := by decide) : Keeps T s t :=
  fun p hp => h p fun hu => hp (hU hu)

/-- Frames compose. -/
theorem Keeps.next {T U : List Part} {s t u : State} (h : Keeps T s t) (g : Keeps U t u)
    (hU : U ⊆ T := by decide) : Keeps T s u := by
  intro p hp
  have h1 := h p hp
  have h2 := g p fun hu => hp (hU hu)
  cases p <;> exact Eq.trans h2 h1

/-- Frames compose, the later one first. -/
theorem Keeps.after {T U : List Part} {s t u : State} (g : Keeps U t u) (hU : U ⊆ T) (h : Keeps T s t) :
    Keeps T s u := h.next g hU

/-- A frame of every step of a list is a frame of the whole. -/
theorem forEach_keeps {α : Type} {T : List Part} {f : α → State → State} (hf : ∀ a s, Keeps T s (f a s))
    (l : List α) (s : State) : Keeps T s (forEach f l s) := by
  induction l generalizing s with
  | nil => exact Keeps.refl T s
  | cons a l ih => exact Keeps.next (hf a s) (ih (f a s)) (fun _ h => h)

theorem setSuperframe_keeps (s : State) (v) : Keeps [.superframe] s (s.setSuperframe v) := by
  intro p hp; cases p <;> first | rfl | exact absurd (by decide) hp

theorem setFrameIndex_keeps (s : State) (v) : Keeps [.frameIndex] s (s.setFrameIndex v) := by
  intro p hp; cases p <;> first | rfl | exact absurd (by decide) hp

theorem setChannels_keeps (s : State) (v) : Keeps [.channels] s (s.setChannels v) := by
  intro p hp; cases p <;> first | rfl | exact absurd (by decide) hp

theorem setStepperDue_keeps (s : State) (v) : Keeps [.stepperDue] s (s.setStepperDue v) := by
  intro p hp; cases p <;> first | rfl | exact absurd (by decide) hp

theorem setPreamp_keeps (s : State) (v) : Keeps [.preamp] s (s.setPreamp v) := by
  intro p hp; cases p <;> first | rfl | exact absurd (by decide) hp

theorem setMixes_keeps (s : State) (v) : Keeps [.mixes] s (s.setMixes v) := by
  intro p hp; cases p <;> first | rfl | exact absurd (by decide) hp

theorem setIsland_keeps (s : State) (v) : Keeps [.island] s (s.setIsland v) := by
  intro p hp; cases p <;> first | rfl | exact absurd (by decide) hp

theorem setArbiter_keeps (s : State) (v) : Keeps [.arbiter] s (s.setArbiter v) := by
  intro p hp; cases p <;> first | rfl | exact absurd (by decide) hp

theorem setButton_keeps (s : State) (v) : Keeps [.button] s (s.setButton v) := by
  intro p hp; cases p <;> first | rfl | exact absurd (by decide) hp

theorem setTalkSeen_keeps (s : State) (v) : Keeps [.talkSeen] s (s.setTalkSeen v) := by
  intro p hp; cases p <;> first | rfl | exact absurd (by decide) hp

theorem setMeters_keeps (s : State) (v) : Keeps [.meters] s (s.setMeters v) := by
  intro p hp; cases p <;> first | rfl | exact absurd (by decide) hp

theorem setPortA_keeps (s : State) (v) : Keeps [.portA] s (s.setPortA v) := by
  intro p hp; cases p <;> first | rfl | exact absurd (by decide) hp

theorem setPortB_keeps (s : State) (v) : Keeps [.portB] s (s.setPortB v) := by
  intro p hp; cases p <;> first | rfl | exact absurd (by decide) hp

theorem setSelector_keeps (s : State) (v) : Keeps [.selector] s (s.setSelector v) := by
  intro p hp; cases p <;> first | rfl | exact absurd (by decide) hp

theorem setDeliverer_keeps (s : State) (v) : Keeps [.deliverer] s (s.setDeliverer v) := by
  intro p hp; cases p <;> first | rfl | exact absurd (by decide) hp

theorem setLink_keeps (s : State) (v) : Keeps [.link] s (s.setLink v) := by
  intro p hp; cases p <;> first | rfl | exact absurd (by decide) hp

theorem setClock_keeps (s : State) (v) : Keeps [.clock] s (s.setClock v) := by
  intro p hp; cases p <;> first | rfl | exact absurd (by decide) hp

theorem setSched_keeps (s : State) (v) : Keeps [.sched] s (s.setSched v) := by
  intro p hp; cases p <;> first | rfl | exact absurd (by decide) hp

theorem setReceiver_keeps (s : State) (v) : Keeps [.receiver] s (s.setReceiver v) := by
  intro p hp; cases p <;> first | rfl | exact absurd (by decide) hp

theorem setDesk_keeps (s : State) (v) : Keeps [.desk] s (s.setDesk v) := by
  intro p hp; cases p <;> first | rfl | exact absurd (by decide) hp

theorem setStage_keeps (s : State) (v) : Keeps [.stage] s (s.setStage v) := by
  intro p hp; cases p <;> first | rfl | exact absurd (by decide) hp

theorem setBoard_keeps (s : State) (v) : Keeps [.board] s (s.setBoard v) := by
  intro p hp; cases p <;> first | rfl | exact absurd (by decide) hp

theorem setScanner_keeps (s : State) (v) : Keeps [.scanner] s (s.setScanner v) := by
  intro p hp; cases p <;> first | rfl | exact absurd (by decide) hp

theorem setRing_keeps (s : State) (v) : Keeps [.ring] s (s.setRing v) := by
  intro p hp; cases p <;> first | rfl | exact absurd (by decide) hp

theorem setStatus_keeps (s : State) (v) : Keeps [.status] s (s.setStatus v) := by
  intro p hp; cases p <;> first | rfl | exact absurd (by decide) hp

theorem setRegs_keeps (s : State) (v) : Keeps [.regs] s (s.setRegs v) := by
  intro p hp; cases p <;> first | rfl | exact absurd (by decide) hp

theorem setOutput_keeps (s : State) (v) : Keeps [.output] s (s.setOutput v) := by
  intro p hp; cases p <;> first | rfl | exact absurd (by decide) hp

theorem setPending_keeps (s : State) (v) : Keeps [.pending] s (s.setPending v) := by
  intro p hp; cases p <;> first | rfl | exact absurd (by decide) hp

theorem setPort_keeps (s : State) (p : PortId) (v : Port) : Keeps [.portA, .portB] s (s.setPort p v) := by
  cases p
  · exact (setPortA_keeps s v).mono
  · exact (setPortB_keeps s v).mono

theorem setNotice_keeps (n : Notice) (s : State) :
    Keeps [.regs] s (setNotice n s) := by
  unfold setNotice
  repeat' first
    | with_reducible apply Keeps.refl
    | with_reducible apply Keeps.after (setRegs_keeps _ _)
    | decide

theorem setChange_keeps (c : Change) (s : State) :
    Keeps [.regs] s (setChange c s) := by
  unfold setChange
  repeat' first
    | with_reducible apply Keeps.refl
    | with_reducible apply Keeps.after (setRegs_keeps _ _)
    | with_reducible apply Keeps.after (setNotice_keeps _ _)
    | decide

theorem readNotice_keeps (s : State) :
    Keeps [.regs] s (readNotice s) := by
  unfold readNotice
  repeat' first
    | with_reducible apply Keeps.refl
    | with_reducible apply Keeps.after (setRegs_keeps _ _)
    | decide

theorem writeNotice_keeps (value : Word) (s : State) :
    Keeps [.regs] s (writeNotice value s) := by
  unfold writeNotice
  dsimp only
  repeat' first
    | with_reducible apply Keeps.refl
    | with_reducible apply Keeps.after (setRegs_keeps _ _)
    | decide

theorem writeEnable_keeps (value : Word) (s : State) :
    Keeps [.regs] s (writeEnable value s) := by
  unfold writeEnable
  repeat' first
    | with_reducible apply Keeps.refl
    | with_reducible apply Keeps.after (setRegs_keeps _ _)
    | decide

theorem readLinkstat_keeps (s : State) :
    Keeps [.regs] s (readLinkstat s) := by
  unfold readLinkstat
  repeat' first
    | with_reducible apply Keeps.refl
    | with_reducible apply Keeps.after (setRegs_keeps _ _)
    | decide

theorem refuseWrite_keeps (s : State) :
    Keeps [.regs] s (refuseWrite s) := by
  unfold refuseWrite
  repeat' first
    | with_reducible apply Keeps.refl
    | with_reducible apply Keeps.after (setNotice_keeps _ _)
    | decide

theorem appendEvent_keeps (stamp : Word) (type origin : Byte) (subject : Half) (detail : Word) (s : State) :
    Keeps [.sched, .ring, .regs] s (appendEvent stamp type origin subject detail s) := by
  unfold appendEvent
  dsimp only
  repeat' first
    | split
    | with_reducible apply Keeps.refl
    | with_reducible apply Keeps.after (setRing_keeps _ _)
    | with_reducible apply Keeps.after (setSched_keeps _ _)
    | with_reducible apply Keeps.after (setNotice_keeps _ _)
    | decide

theorem writeEvent_keeps (type : EventType) (subject : Nat) (detail : Word) (s : State) :
    Keeps [.sched, .ring, .regs] s (writeEvent type subject detail s) := by
  unfold writeEvent
  repeat' first
    | with_reducible apply Keeps.refl
    | with_reducible apply Keeps.after (appendEvent_keeps _ _ _ _ _ _)
    | decide

theorem noticeIf_keeps (c : Bool) (n : Notice) (s : State) :
    Keeps [.regs] s (noticeIf c n s) := by
  unfold noticeIf
  repeat' first
    | split
    | with_reducible apply Keeps.refl
    | with_reducible apply Keeps.after (setNotice_keeps _ _)
    | decide

theorem setChannel_keeps (n : Nat) (c : Channel) (s : State) :
    Keeps [.channels] s (setChannel n c s) := by
  unfold setChannel
  repeat' first
    | with_reducible apply Keeps.refl
    | with_reducible apply Keeps.after (setChannels_keeps _ _)
    | decide

theorem enqueue_keeps (n : Nat) (s : State) :
    Keeps [.preamp] s (enqueue n s) := by
  unfold enqueue
  repeat' first
    | split
    | with_reducible apply Keeps.refl
    | with_reducible apply Keeps.after (setPreamp_keeps _ _)
    | decide

theorem phantomClosed_keeps (n : Nat) (s : State) :
    Keeps [.channels, .preamp] s (phantomClosed n s) := by
  unfold phantomClosed
  dsimp only
  repeat' first
    | split
    | with_reducible apply Keeps.refl
    | with_reducible apply Keeps.after (enqueue_keeps _ _)
    | with_reducible apply Keeps.after (setChannel_keeps _ _ _)
    | decide

theorem phantomFieldOn_keeps (n : Nat) (s : State) :
    Keeps [.channels, .preamp] s (phantomFieldOn n s) := by
  unfold phantomFieldOn
  dsimp only
  repeat' first
    | split
    | with_reducible apply Keeps.refl
    | with_reducible apply Keeps.after (phantomClosed_keeps _ _)
    | with_reducible apply Keeps.after (setChannel_keeps _ _ _)
    | decide

theorem phantomFieldOff_keeps (n : Nat) (s : State) :
    Keeps [.channels, .preamp] s (phantomFieldOff n s) := by
  unfold phantomFieldOff
  dsimp only
  repeat' first
    | split
    | with_reducible apply Keeps.refl
    | with_reducible apply Keeps.after (setChannel_keeps _ _ _)
    | with_reducible apply Keeps.after (phantomClosed_keeps _ _)
    | decide

theorem phantomTimeout_keeps (n : Nat) (s : State) :
    Keeps [.channels] s (phantomTimeout n s) := by
  unfold phantomTimeout
  dsimp only
  repeat' first
    | split
    | with_reducible apply Keeps.refl
    | with_reducible apply Keeps.after (setChannel_keeps _ _ _)
    | decide

theorem phantomOvercurrent_keeps (n : Nat) (s : State) :
    Keeps [.channels, .preamp, .sched, .ring, .regs] s (phantomOvercurrent n s) := by
  unfold phantomOvercurrent
  dsimp only
  repeat' first
    | split
    | with_reducible apply Keeps.refl
    | with_reducible apply Keeps.after (writeEvent_keeps _ _ _ _)
    | with_reducible apply Keeps.after (enqueue_keeps _ _)
    | with_reducible apply Keeps.after (setChannel_keeps _ _ _)
    | decide

theorem phantomExpiry_keeps (n : Nat) (s : State) :
    Keeps [.channels] s (phantomExpiry n s) := by
  unfold phantomExpiry
  repeat' first
    | split
    | with_reducible apply Keeps.refl
    | with_reducible apply Keeps.after (phantomTimeout_keeps _ _)
    | decide

theorem gateClosedReaction_keeps (n : Nat) (s : State) :
    Keeps [.channels, .preamp] s (gateClosedReaction n s) := by
  unfold gateClosedReaction
  repeat' first
    | split
    | with_reducible apply Keeps.refl
    | with_reducible apply Keeps.after (phantomClosed_keeps _ _)
    | decide

theorem applyPad_keeps (n : Nat) (pad : Bool) (s : State) :
    Keeps [.channels, .preamp] s (applyPad n pad s) := by
  unfold applyPad
  repeat' first
    | with_reducible apply Keeps.refl
    | with_reducible apply Keeps.after (enqueue_keeps _ _)
    | with_reducible apply Keeps.after (setChannel_keeps _ _ _)
    | decide

theorem applyPolarityField_keeps (n : Nat) (polarity : Bool) (s : State) :
    Keeps [.channels] s (applyPolarityField n polarity s) := by
  unfold applyPolarityField
  repeat' first
    | with_reducible apply Keeps.refl
    | with_reducible apply Keeps.after (setChannel_keeps _ _ _)
    | decide

theorem applyChannelRecord_keeps (n : Nat) (old new : List Byte) (s : State) :
    Keeps [.channels, .preamp] s (applyChannelRecord n old new s) := by
  unfold applyChannelRecord
  dsimp only
  repeat' first
    | split
    | with_reducible apply Keeps.refl
    | with_reducible apply Keeps.after (applyPad_keeps _ _ _)
    | with_reducible apply Keeps.after (phantomFieldOn_keeps _ _)
    | with_reducible apply Keeps.after (phantomFieldOff_keeps _ _)
    | with_reducible apply Keeps.after (applyPolarityField_keeps _ _ _)
    | decide

theorem stepChannel_keeps (n : Nat) (s : State) :
    Keeps [.channels, .preamp] s (stepChannel n s) := by
  unfold stepChannel
  dsimp only
  repeat' first
    | split
    | with_reducible apply Keeps.refl
    | with_reducible apply Keeps.after (enqueue_keeps _ _)
    | with_reducible apply Keeps.after (setChannel_keeps _ _ _)
    | decide

theorem stepperExpiry_keeps (s : State) :
    Keeps [.channels, .stepperDue, .preamp] s (stepperExpiry s) := by
  unfold stepperExpiry
  repeat' first
    | split
    | with_reducible apply Keeps.refl
    | with_reducible apply Keeps.after (setStepperDue_keeps _ _)
    | with_reducible apply Keeps.after (stepChannel_keeps _ _)
    | with_reducible apply Keeps.after (forEach_keeps (fun _ _ => stepChannel_keeps _ _) _ _)
    | decide

theorem startTransfer_keeps (s : State) :
    Keeps [.channels, .preamp] s (startTransfer s) := by
  unfold startTransfer
  dsimp only
  repeat' first
    | split
    | with_reducible apply Keeps.refl
    | with_reducible apply Keeps.after (setPreamp_keeps _ _)
    | with_reducible apply Keeps.after (setChannel_keeps _ _ _)
    | decide

theorem setAbsent_keeps (chip : Nat) (v : Bool) (s : State) :
    Keeps [.preamp] s (setAbsent chip v s) := by
  unfold setAbsent
  repeat' first
    | with_reducible apply Keeps.refl
    | with_reducible apply Keeps.after (setPreamp_keeps _ _)
    | decide

theorem chipMissing_keeps (chip : Nat) (s : State) :
    Keeps [.preamp, .sched, .ring, .regs] s (chipMissing chip s) := by
  unfold chipMissing
  repeat' first
    | split
    | with_reducible apply Keeps.refl
    | with_reducible apply Keeps.after (writeEvent_keeps _ _ _ _)
    | with_reducible apply Keeps.after (setAbsent_keeps _ _ _)
    | decide

theorem echoCheck_keeps (n : Nat) (prior : Sent) (w : Half) (s : State) :
    Keeps [.channels, .preamp, .sched, .ring, .regs] s (echoCheck n prior w s) := by
  unfold echoCheck
  dsimp only
  repeat' first
    | split
    | with_reducible apply Keeps.refl
    | with_reducible apply Keeps.after (setChannel_keeps _ _ _)
    | with_reducible apply Keeps.after (enqueue_keeps _ _)
    | with_reducible apply Keeps.after (writeEvent_keeps _ _ _ _)
    | decide

theorem completeTransfer_keeps (w : Half) (s : State) :
    Keeps [.channels, .preamp, .sched, .ring, .regs] s (completeTransfer w s) := by
  unfold completeTransfer
  dsimp only
  repeat' first
    | split
    | with_reducible apply Keeps.refl
    | with_reducible apply Keeps.after (setPreamp_keeps _ _)
    | with_reducible apply Keeps.after (echoCheck_keeps _ _ _ _)
    | with_reducible apply Keeps.after (setAbsent_keeps _ _ _)
    | with_reducible apply Keeps.after (phantomOvercurrent_keeps _ _)
    | with_reducible apply Keeps.after (chipMissing_keeps _ _)
    | decide

theorem mixFrame_keeps (postGate : List Int) (s : State) :
    Keeps [.mixes, .output] s (mixFrame postGate s) := by
  unfold mixFrame
  dsimp only
  repeat' first
    | with_reducible apply Keeps.refl
    | with_reducible apply Keeps.after (setMixes_keeps _ _)
    | with_reducible apply Keeps.after (setOutput_keeps _ _)
    | decide

theorem engageIsland_keeps (s : State) :
    Keeps [.island, .sched, .ring, .regs] s (engageIsland s) := by
  unfold engageIsland
  repeat' first
    | split
    | with_reducible apply Keeps.refl
    | with_reducible apply Keeps.after (setIsland_keeps _ _)
    | with_reducible apply Keeps.after (writeEvent_keeps _ _ _ _)
    | decide

theorem countIsland_keeps (s : State) :
    Keeps [.island] s (countIsland s) := by
  unfold countIsland
  repeat' first
    | split
    | with_reducible apply Keeps.refl
    | with_reducible apply Keeps.after (setIsland_keeps _ _)
    | decide

theorem leaveIsland_keeps (s : State) :
    Keeps [.island] s (leaveIsland s) := by
  unfold leaveIsland
  repeat' first
    | with_reducible apply Keeps.refl
    | with_reducible apply Keeps.after (setIsland_keeps _ _)
    | decide

theorem setTalkRecord_keeps (src : TalkSource) (r : TalkRecord) (s : State) :
    Keeps [.arbiter] s (setTalkRecord src r s) := by
  unfold setTalkRecord
  repeat' first
    | split
    | with_reducible apply Keeps.refl
    | with_reducible apply Keeps.after (setArbiter_keeps _ _)
    | decide

theorem decideCarried_keeps (s : State) :
    Keeps [.arbiter, .sched, .ring, .regs] s (decideCarried s) := by
  unfold decideCarried
  dsimp only
  repeat' first
    | split
    | with_reducible apply Keeps.refl
    | with_reducible apply Keeps.after (setArbiter_keeps _ _)
    | with_reducible apply Keeps.after (setNotice_keeps _ _)
    | with_reducible apply Keeps.after (writeEvent_keeps _ _ _ _)
    | decide

theorem pressTalk_keeps (src : TalkSource) (latched : Bool) (mask : Half) (limit : Byte) (s : State) :
    Keeps [.arbiter, .sched, .ring, .regs] s (pressTalk src latched mask limit s) := by
  unfold pressTalk
  repeat' first
    | with_reducible apply Keeps.refl
    | with_reducible apply Keeps.after (decideCarried_keeps _)
    | with_reducible apply Keeps.after (setTalkRecord_keeps _ _ _)
    | decide

theorem releaseTalk_keeps (src : TalkSource) (s : State) :
    Keeps [.arbiter, .sched, .ring, .regs] s (releaseTalk src s) := by
  unfold releaseTalk
  repeat' first
    | split
    | with_reducible apply Keeps.refl
    | with_reducible apply Keeps.after (decideCarried_keeps _)
    | with_reducible apply Keeps.after (setTalkRecord_keeps _ _ _)
    | decide

theorem timeoutTalk_keeps (src : TalkSource) (cause : Word) (s : State) :
    Keeps [.arbiter, .sched, .ring, .regs] s (timeoutTalk src cause s) := by
  unfold timeoutTalk
  repeat' first
    | with_reducible apply Keeps.refl
    | with_reducible apply Keeps.after (decideCarried_keeps _)
    | with_reducible apply Keeps.after (setNotice_keeps _ _)
    | with_reducible apply Keeps.after (writeEvent_keeps _ _ _ _)
    | with_reducible apply Keeps.after (setTalkRecord_keeps _ _ _)
    | decide

theorem renewExpiry_keeps (src : TalkSource) (s : State) :
    Keeps [.arbiter, .sched, .ring, .regs] s (renewExpiry src s) := by
  unfold renewExpiry
  repeat' first
    | split
    | with_reducible apply Keeps.refl
    | with_reducible apply Keeps.after (timeoutTalk_keeps _ _ _)
    | decide

theorem limitExpiry_keeps (src : TalkSource) (s : State) :
    Keeps [.arbiter, .sched, .ring, .regs] s (limitExpiry src s) := by
  unfold limitExpiry
  repeat' first
    | split
    | with_reducible apply Keeps.refl
    | with_reducible apply Keeps.after (timeoutTalk_keeps _ _ _)
    | decide

theorem sampleButton_keeps (pinLow : Bool) (s : State) :
    Keeps [.button, .regs] s (sampleButton pinLow s) := by
  unfold sampleButton
  repeat' first
    | split
    | with_reducible apply Keeps.refl
    | with_reducible apply Keeps.after (setButton_keeps _ _)
    | with_reducible apply Keeps.after (setChange_keeps _ _)
    | decide

theorem compareStageTalk_keeps (talk : Bool) (s : State) :
    Keeps [.talkSeen, .sched, .ring, .regs] s (compareStageTalk talk s) := by
  unfold compareStageTalk
  repeat' first
    | split
    | with_reducible apply Keeps.refl
    | with_reducible apply Keeps.after (setTalkSeen_keeps _ _)
    | with_reducible apply Keeps.after (writeEvent_keeps _ _ _ _)
    | with_reducible apply Keeps.after (setNotice_keeps _ _)
    | with_reducible apply Keeps.after (setChange_keeps _ _)
    | decide

theorem dropStageTalk_keeps (s : State) :
    Keeps [.talkSeen, .regs] s (dropStageTalk s) := by
  unfold dropStageTalk
  repeat' first
    | split
    | with_reducible apply Keeps.refl
    | with_reducible apply Keeps.after (setTalkSeen_keeps _ _)
    | with_reducible apply Keeps.after (setNotice_keeps _ _)
    | with_reducible apply Keeps.after (setChange_keeps _ _)
    | decide

theorem clearMeter_keeps (i : Nat) (s : State) :
    Keeps [.channels, .mixes] s (clearMeter i s) := by
  unfold clearMeter
  repeat' first
    | split
    | with_reducible apply Keeps.refl
    | with_reducible apply Keeps.after (setMixes_keeps _ _)
    | with_reducible apply Keeps.after (setChannel_keeps _ _ _)
    | decide

theorem takeMeters_keeps (s : State) :
    Keeps [.channels, .mixes, .meters, .regs] s (takeMeters s) := by
  unfold takeMeters
  dsimp only
  repeat' first
    | split
    | with_reducible apply Keeps.refl
    | with_reducible apply Keeps.after (setMeters_keeps _ _)
    | with_reducible apply Keeps.after (clearMeter_keeps _ _)
    | with_reducible apply Keeps.after (noticeIf_keeps _ _ _)
    | with_reducible apply Keeps.after (forEach_keeps (fun _ _ => clearMeter_keeps _ _) _ _)
    | with_reducible apply Keeps.after (forEach_keeps (fun _ _ => noticeIf_keeps _ _ _) _ _)
    | decide

theorem compareCadence_keeps (s : State) :
    Keeps [.meters, .regs] s (compareCadence s) := by
  unfold compareCadence
  repeat' first
    | split
    | with_reducible apply Keeps.refl
    | with_reducible apply Keeps.after (setMeters_keeps _ _)
    | with_reducible apply Keeps.after (setNotice_keeps _ _)
    | decide

theorem completeSweep_keeps (s : State) :
    Keeps [.meters, .regs] s (completeSweep s) := by
  unfold completeSweep
  dsimp only
  repeat' first
    | split
    | with_reducible apply Keeps.refl
    | with_reducible apply Keeps.after (setMeters_keeps _ _)
    | with_reducible apply Keeps.after (compareCadence_keeps _)
    | decide

theorem writeMeters_keeps (p : List Byte) (s : State) :
    Keeps [.meters, .regs] s (writeMeters p s) := by
  unfold writeMeters
  dsimp only
  repeat' first
    | split
    | with_reducible apply Keeps.refl
    | with_reducible apply Keeps.after (setMeters_keeps _ _)
    | with_reducible apply Keeps.after (completeSweep_keeps _)
    | decide

theorem releaseHold_keeps (s : State) :
    Keeps [.meters, .regs] s (releaseHold s) := by
  unfold releaseHold
  repeat' first
    | with_reducible apply Keeps.refl
    | with_reducible apply Keeps.after (setMeters_keeps _ _)
    | with_reducible apply Keeps.after (compareCadence_keeps _)
    | decide

theorem writeEntry_keeps (i : Nat) (state : EntryState) (result : EntryResult) (clamped : Bool) (kind : Byte) (tag : Half) (s : State) :
    Keeps [.board] s (writeEntry i state result clamped kind tag s) := by
  unfold writeEntry
  dsimp only
  repeat' first
    | with_reducible apply Keeps.refl
    | with_reducible apply Keeps.after (setBoard_keeps _ _)
    | decide

theorem setAccepted_keeps (i : Nat) (a : Option Accepted) (s : State) :
    Keeps [.scanner] s (setAccepted i a s) := by
  unfold setAccepted
  repeat' first
    | with_reducible apply Keeps.refl
    | with_reducible apply Keeps.after (setScanner_keeps _ _)
    | decide

theorem completeEntry_keeps (i : Nat) (a : Accepted) (state : EntryState) (result : EntryResult) (s : State) :
    Keeps [.board, .scanner, .regs] s (completeEntry i a state result s) := by
  unfold completeEntry
  repeat' first
    | with_reducible apply Keeps.refl
    | with_reducible apply Keeps.after (setNotice_keeps _ _)
    | with_reducible apply Keeps.after (setAccepted_keeps _ _ _)
    | with_reducible apply Keeps.after (writeEntry_keeps _ _ _ _ _ _ _)
    | decide

theorem completeIfAgainst_keeps (record : Nat) (i : Nat) (s : State) :
    Keeps [.board, .scanner, .regs] s (completeIfAgainst record i s) := by
  unfold completeIfAgainst
  repeat' first
    | split
    | with_reducible apply Keeps.refl
    | with_reducible apply Keeps.after (completeEntry_keeps _ _ _ _ _)
    | decide

theorem completeAgainst_keeps (record : Nat) (s : State) :
    Keeps [.board, .scanner, .regs] s (completeAgainst record s) := by
  unfold completeAgainst
  repeat' first
    | with_reducible apply Keeps.refl
    | with_reducible apply Keeps.after (completeIfAgainst_keeps _ _ _)
    | with_reducible apply Keeps.after (forEach_keeps (fun _ _ => completeIfAgainst_keeps _ _ _) _ _)
    | decide

theorem deadlineExpiry_keeps (i : Nat) (s : State) :
    Keeps [.board, .scanner, .regs] s (deadlineExpiry i s) := by
  unfold deadlineExpiry
  repeat' first
    | split
    | with_reducible apply Keeps.refl
    | with_reducible apply Keeps.after (completeEntry_keeps _ _ _ _ _)
    | decide

theorem setShadow_keeps (record : Nat) (e : Shadow) (s : State) :
    Keeps [.desk] s (setShadow record e s) := by
  unfold setShadow
  repeat' first
    | with_reducible apply Keeps.refl
    | with_reducible apply Keeps.after (setDesk_keeps _ _)
    | decide

theorem adoptDone_keeps (s : State) :
    Keeps [.sched, .ring, .regs] s (adoptDone s) := by
  unfold adoptDone
  repeat' first
    | with_reducible apply Keeps.refl
    | with_reducible apply Keeps.after (setNotice_keeps _ _)
    | with_reducible apply Keeps.after (writeEvent_keeps _ _ _ _)
    | decide

theorem leaveAdoption_keeps (record : Nat) (s : State) :
    Keeps [.sched, .desk, .ring, .regs] s (leaveAdoption record s) := by
  unfold leaveAdoption
  dsimp only
  repeat' first
    | split
    | with_reducible apply Keeps.refl
    | with_reducible apply Keeps.after (setDesk_keeps _ _)
    | with_reducible apply Keeps.after (adoptDone_keeps _)
    | decide

theorem editRecord_keeps (record : Nat) (requested : List Byte) (s : State) :
    Keeps [.sched, .desk, .ring, .regs] s (editRecord record requested s) := by
  unfold editRecord
  dsimp only
  repeat' first
    | with_reducible apply Keeps.refl
    | with_reducible apply Keeps.after (setDesk_keeps _ _)
    | with_reducible apply Keeps.after (setShadow_keeps _ _ _)
    | with_reducible apply Keeps.after (leaveAdoption_keeps _ _)
    | decide

theorem markReplay_keeps (s : State) :
    Keeps [.desk] s (markReplay s) := by
  unfold markReplay
  repeat' first
    | with_reducible apply Keeps.refl
    | with_reducible apply Keeps.after (setDesk_keeps _ _)
    | decide

theorem beginPush_keeps (record : Nat) (s : State) :
    Keeps [.desk] s (beginPush record s) := by
  unfold beginPush
  repeat' first
    | with_reducible apply Keeps.refl
    | with_reducible apply Keeps.after (setDesk_keeps _ _)
    | decide

theorem beginPull_keeps (record : Nat) (s : State) :
    Keeps [.desk] s (beginPull record s) := by
  unfold beginPull
  repeat' first
    | with_reducible apply Keeps.refl
    | with_reducible apply Keeps.after (setDesk_keeps _ _)
    | decide

theorem inFlightTimeout_keeps (s : State) :
    Keeps [.desk] s (inFlightTimeout s) := by
  unfold inFlightTimeout
  repeat' first
    | split
    | with_reducible apply Keeps.refl
    | with_reducible apply Keeps.after (setDesk_keeps _ _)
    | decide

theorem pullTimeout_keeps (record : Nat) (s : State) :
    Keeps [.desk] s (pullTimeout record s) := by
  unfold pullTimeout
  repeat' first
    | split
    | with_reducible apply Keeps.refl
    | with_reducible apply Keeps.after (setDesk_keeps _ _)
    | decide

theorem returnInFlight_keeps (s : State) :
    Keeps [.desk] s (returnInFlight s) := by
  unfold returnInFlight
  repeat' first
    | with_reducible apply Keeps.refl
    | with_reducible apply Keeps.after (setDesk_keeps _ _)
    | decide

theorem syncAfter_keeps (before : DeskRepl) (s : State) :
    Keeps [.regs] s (syncAfter before s) := by
  unfold syncAfter
  repeat' first
    | with_reducible apply Keeps.refl
    | with_reducible apply Keeps.after (noticeIf_keeps _ _ _)
    | decide

theorem acknowledge_keeps (record : Nat) (v : Word) (s : State) :
    Keeps [.desk, .board, .scanner, .regs] s (acknowledge record v s) := by
  unfold acknowledge
  dsimp only
  repeat' first
    | split
    | with_reducible apply Keeps.refl
    | with_reducible apply Keeps.after (setDesk_keeps _ _)
    | with_reducible apply Keeps.after (setShadow_keeps _ _ _)
    | with_reducible apply Keeps.after (completeAgainst_keeps _ _)
    | with_reducible apply Keeps.after (syncAfter_keeps _ _)
    | decide

theorem layoutContents_length (record : Nat) (contents : List Byte) : (layoutContents record contents).length = 16 := by
  simp [layoutContents]

/-- A byte in the layout of the record's kind is read as it stands, any other as 0 (R183). -/
theorem byteAt_layoutContents (record k : Nat) (contents : List Byte) (hk : k < 16) :
    byteAt (layoutContents record contents) k =
      if k < fieldCount (recordKind record) then byteAt contents k else 0 := by
  simp [layoutContents, byteAt, List.getD, hk]

/-- Contents that went through the clamp (R134) hold nothing that the layout marks as 0. -/
theorem layoutContents_clampContents (record : Nat) (requested : List Byte) :
    layoutContents record (clampContents record requested) = clampContents record requested := by
  refine List.map_congr_left fun k hk => ?_
  have hk : k < 16 := List.mem_range.mp hk
  have clamped : byteAt (clampContents record requested) k =
      clampByte (recordKind record) k (byteAt requested k) := by simp [clampContents, byteAt, List.getD, hk]
  rw [clamped]
  split
  · rfl
  · rename_i h
    cases hr : recordKind record <;> simp only [hr, fieldCount] at h <;> simp only [clampByte] <;>
      (repeat' split) <;> first | rfl | omega

theorem adoptReport_keeps (record : Nat) (contents : List Byte) (s : State) :
    Keeps [.sched, .desk, .ring, .regs] s (adoptReport record contents s) := by
  unfold adoptReport
  dsimp only
  repeat' first
    | split
    | with_reducible apply Keeps.refl
    | with_reducible apply Keeps.after (setDesk_keeps _ _)
    | with_reducible apply Keeps.after (setShadow_keeps _ _ _)
    | with_reducible apply Keeps.after (leaveAdoption_keeps _ _)
    | decide

theorem beginAdoption_keeps (s : State) :
    Keeps [.sched, .desk, .ring, .regs] s (beginAdoption s) := by
  unfold beginAdoption
  dsimp only
  repeat' first
    | split
    | with_reducible apply Keeps.refl
    | with_reducible apply Keeps.after (setDesk_keeps _ _)
    | with_reducible apply Keeps.after (adoptDone_keeps _)
    | decide

theorem rejoin_keeps (s : State) :
    Keeps [.sched, .desk, .ring, .regs] s (rejoin s) := by
  unfold rejoin
  dsimp only
  repeat' first
    | split
    | with_reducible apply Keeps.refl
    | with_reducible apply Keeps.after (setDesk_keeps _ _)
    | with_reducible apply Keeps.after (markReplay_keeps _)
    | with_reducible apply Keeps.after (beginAdoption_keeps _)
    | decide

theorem enqueueReply_keeps (r : Reply) (s : State) :
    Keeps [.sched] s (enqueueReply r s) := by
  unfold enqueueReply
  repeat' first
    | split
    | with_reducible apply Keeps.refl
    | with_reducible apply Keeps.after (setSched_keeps _ _)
    | decide

theorem applyPush_keeps (record : Nat) (v : Word) (contents : List Byte) (s : State) :
    Keeps [.channels, .preamp, .sched, .stage] s (applyPush record v contents s) := by
  unfold applyPush
  dsimp only
  repeat' first
    | split
    | with_reducible apply Keeps.refl
    | with_reducible apply Keeps.after (setStage_keeps _ _)
    | with_reducible apply Keeps.after (applyChannelRecord_keeps _ _ _ _)
    | with_reducible apply Keeps.after (enqueueReply_keeps _ _)
    | decide

theorem receivePush_keeps (record : Nat) (v : Word) (contents : List Byte) (s : State) :
    Keeps [.channels, .preamp, .sched, .stage] s (receivePush record v contents s) := by
  unfold receivePush
  repeat' first
    | split
    | with_reducible apply Keeps.refl
    | with_reducible apply Keeps.after (applyPush_keeps _ _ _ _)
    | decide

theorem receivePull_keeps (record : Nat) (s : State) :
    Keeps [.sched] s (receivePull record s) := by
  unfold receivePull
  repeat' first
    | split
    | with_reducible apply Keeps.refl
    | with_reducible apply Keeps.after (enqueueReply_keeps _ _)
    | decide

theorem acceptEdit_keeps (i record : Nat) (requested : List Byte) (s : State) :
    Keeps [.sched, .desk, .board, .scanner, .ring, .regs] s (acceptEdit i record requested s) := by
  unfold acceptEdit
  dsimp only
  repeat' first
    | with_reducible apply Keeps.refl
    | with_reducible apply Keeps.after (setAccepted_keeps _ _ _)
    | with_reducible apply Keeps.after (writeEntry_keeps _ _ _ _ _ _ _)
    | with_reducible apply Keeps.after (editRecord_keeps _ _ _)
    | decide

theorem finishEntry_keeps (i : Nat) (state : EntryState) (result : EntryResult) (w0 : Word) (s : State) :
    Keeps [.board, .regs] s (finishEntry i state result w0 s) := by
  unfold finishEntry
  repeat' first
    | with_reducible apply Keeps.refl
    | with_reducible apply Keeps.after (setNotice_keeps _ _)
    | with_reducible apply Keeps.after (writeEntry_keeps _ _ _ _ _ _ _)
    | decide

theorem carryOut_keeps (i : Nat) (r : Request) (s : State) :
    Keeps [.arbiter, .sched, .desk, .board, .scanner, .ring, .regs] s (carryOut i r s) := by
  unfold carryOut
  repeat' first
    | split
    | with_reducible apply Keeps.refl
    | with_reducible apply Keeps.after (acceptEdit_keeps _ _ _ _)
    | with_reducible apply Keeps.after (finishEntry_keeps _ _ _ _ _)
    | with_reducible apply Keeps.after (pressTalk_keeps _ _ _ _ _)
    | with_reducible apply Keeps.after (releaseTalk_keeps _ _)
    | with_reducible apply Keeps.after (markReplay_keeps _)
    | decide

theorem takeEntry_keeps (i : Nat) (s : State) :
    Keeps [.arbiter, .sched, .desk, .board, .scanner, .ring, .regs] s (takeEntry i s) := by
  unfold takeEntry
  repeat' first
    | split
    | with_reducible apply Keeps.refl
    | with_reducible apply Keeps.after (finishEntry_keeps _ _ _ _ _)
    | with_reducible apply Keeps.after (carryOut_keeps _ _ _)
    | decide

theorem countScan_keeps (s : State) :
    Keeps [.scanner] s (countScan s) := by
  unfold countScan
  repeat' first
    | split
    | with_reducible apply Keeps.refl
    | with_reducible apply Keeps.after (setScanner_keeps _ _)
    | decide

theorem scanTo_keeps (stop : Nat) (next : Option Nat) (s : State) :
    Keeps [.arbiter, .sched, .desk, .board, .scanner, .ring, .regs] s (scanTo stop next s) := by
  unfold scanTo
  dsimp only
  repeat' first
    | with_reducible apply Keeps.refl
    | with_reducible apply Keeps.after (setScanner_keeps _ _)
    | with_reducible apply Keeps.after (forEach_keeps (fun _ _ => takeEntry_keeps _ _) _ _)
    | decide

theorem finishScan_keeps (s : State) :
    Keeps [.arbiter, .sched, .desk, .board, .scanner, .ring, .regs] s (finishScan s) := by
  unfold finishScan
  repeat' first
    | split
    | with_reducible apply Keeps.refl
    | with_reducible apply Keeps.after (setScanner_keeps _ _)
    | with_reducible apply Keeps.after (scanTo_keeps _ _ _)
    | decide

theorem scanStep_keeps (i : Nat) (kind : RequestKind) (s : State) :
    Keeps [.arbiter, .sched, .desk, .board, .scanner, .ring, .regs] s (scanStep i kind s) := by
  unfold scanStep
  repeat' first
    | split
    | with_reducible apply Keeps.refl
    | with_reducible apply Keeps.after (setScanner_keeps _ _)
    | with_reducible apply Keeps.after (scanTo_keeps _ _ _)
    | decide

theorem readAt_keeps (i k : Nat) (s : State) :
    Keeps [.scanner] s (readAt i k s) := by
  unfold readAt
  repeat' first
    | split
    | with_reducible apply Keeps.refl
    | with_reducible apply Keeps.after (setScanner_keeps _ _)
    | decide

theorem readFirst_keeps (i k : Nat) (s : State) :
    Keeps [.arbiter, .sched, .desk, .board, .scanner, .ring, .regs] s (readFirst i k s) := by
  unfold readFirst
  repeat' first
    | split
    | with_reducible apply Keeps.refl
    | with_reducible apply Keeps.after (readAt_keeps _ _ _)
    | with_reducible apply Keeps.after (scanTo_keeps _ _ _)
    | decide

theorem endTrimPeriod_keeps (s : State) :
    Keeps [.clock, .sched, .ring, .regs] s (endTrimPeriod s) := by
  unfold endTrimPeriod
  dsimp only
  repeat' first
    | split
    | with_reducible apply Keeps.refl
    | with_reducible apply Keeps.after (setClock_keeps _ _)
    | with_reducible apply Keeps.after (writeEvent_keeps _ _ _ _)
    | decide

theorem enterLocked_keeps (s : State) :
    Keeps [.clock] s (enterLocked s) := by
  unfold enterLocked
  repeat' first
    | split
    | with_reducible apply Keeps.refl
    | with_reducible apply Keeps.after (setClock_keeps _ _)
    | decide

theorem enterHoldover_keeps (s : State) :
    Keeps [.clock, .sched, .ring, .regs] s (enterHoldover s) := by
  unfold enterHoldover
  dsimp only
  repeat' first
    | with_reducible apply Keeps.refl
    | with_reducible apply Keeps.after (setClock_keeps _ _)
    | with_reducible apply Keeps.after (endTrimPeriod_keeps _)
    | decide

theorem clockOnLink_keeps (old new : LinkState) (s : State) :
    Keeps [.clock, .sched, .ring, .regs] s (clockOnLink old new s) := by
  unfold clockOnLink
  repeat' first
    | split
    | with_reducible apply Keeps.refl
    | with_reducible apply Keeps.after (enterLocked_keeps _)
    | with_reducible apply Keeps.after (enterHoldover_keeps _)
    | decide

theorem clockArrival_keeps (p : PortId) (tag phase : Nat) (s : State) :
    Keeps [.clock] s (clockArrival p tag phase s) := by
  unfold clockArrival
  dsimp only
  repeat' first
    | split
    | with_reducible apply Keeps.refl
    | with_reducible apply Keeps.after (setClock_keeps _ _)
    | decide

theorem linkAudio_keeps (new : LinkState) (s : State) :
    Keeps [.deliverer, .output] s (linkAudio new s) := by
  unfold linkAudio
  repeat' first
    | split
    | with_reducible apply Keeps.refl
    | with_reducible apply Keeps.after (setDeliverer_keeps _ _)
    | with_reducible apply Keeps.after (setOutput_keeps _ _)
    | decide

theorem linkDesk_keeps (old new : LinkState) (s : State) :
    Keeps [.talkSeen, .sched, .desk, .ring, .regs] s (linkDesk old new s) := by
  unfold linkDesk
  dsimp only
  repeat' first
    | split
    | with_reducible apply Keeps.refl
    | with_reducible apply Keeps.after (dropStageTalk_keeps _)
    | with_reducible apply Keeps.after (returnInFlight_keeps _)
    | with_reducible apply Keeps.after (rejoin_keeps _)
    | decide

theorem linkStage_keeps (old new : LinkState) (s : State) :
    Keeps [.island, .deliverer, .clock, .sched, .ring, .regs] s (linkStage old new s) := by
  unfold linkStage
  dsimp only
  repeat' first
    | split
    | with_reducible apply Keeps.refl
    | with_reducible apply Keeps.after (setDeliverer_keeps _ _)
    | with_reducible apply Keeps.after (setIsland_keeps _ _)
    | with_reducible apply Keeps.after (setSched_keeps _ _)
    | with_reducible apply Keeps.after (leaveIsland_keeps _)
    | with_reducible apply Keeps.after (clockOnLink_keeps _ _ _)
    | decide

theorem linkSupervise_keeps (old new : LinkState) (s : State) :
    Keeps [.link, .sched] s (linkSupervise old new s) := by
  unfold linkSupervise
  dsimp only
  repeat' first
    | split
    | with_reducible apply Keeps.refl
    | with_reducible apply Keeps.after (setLink_keeps _ _)
    | with_reducible apply Keeps.after (setSched_keeps _ _)
    | decide

theorem changeLink_keeps (new : LinkState) (s : State) :
    Keeps [.island, .talkSeen, .deliverer, .link, .clock, .sched, .desk, .ring, .regs, .output] s (changeLink new s) := by
  unfold changeLink
  dsimp only
  repeat' first
    | split
    | with_reducible apply Keeps.refl
    | with_reducible apply Keeps.after (setLink_keeps _ _)
    | with_reducible apply Keeps.after (setChange_keeps _ _)
    | with_reducible apply Keeps.after (writeEvent_keeps _ _ _ _)
    | with_reducible apply Keeps.after (linkSupervise_keeps _ _ _)
    | with_reducible apply Keeps.after (linkAudio_keeps _ _)
    | with_reducible apply Keeps.after (linkDesk_keeps _ _ _)
    | with_reducible apply Keeps.after (linkStage_keeps _ _ _)
    | decide

theorem bridgingExpiry_keeps (s : State) :
    Keeps [.island, .talkSeen, .deliverer, .link, .clock, .sched, .desk, .ring, .regs, .output] s (bridgingExpiry s) := by
  unfold bridgingExpiry
  repeat' first
    | split
    | with_reducible apply Keeps.refl
    | with_reducible apply Keeps.after (changeLink_keeps _ _)
    | decide

theorem countBridging_keeps (s : State) :
    Keeps [.link] s (countBridging s) := by
  unfold countBridging
  repeat' first
    | split
    | with_reducible apply Keeps.refl
    | with_reducible apply Keeps.after (setLink_keeps _ _)
    | decide

theorem linkActivated_keeps (s : State) :
    Keeps [.island, .talkSeen, .deliverer, .link, .clock, .sched, .desk, .ring, .regs, .output] s (linkActivated s) := by
  unfold linkActivated
  dsimp only
  repeat' first
    | split
    | with_reducible apply Keeps.refl
    | with_reducible apply Keeps.after (bridgingExpiry_keeps _)
    | with_reducible apply Keeps.after (changeLink_keeps _ _)
    | decide

theorem linkDeactivated_keeps (s : State) :
    Keeps [.island, .talkSeen, .deliverer, .link, .clock, .sched, .desk, .ring, .regs, .output] s (linkDeactivated s) := by
  unfold linkDeactivated
  repeat' first
    | split
    | with_reducible apply Keeps.refl
    | with_reducible apply Keeps.after (changeLink_keeps _ _)
    | decide

theorem setFarFresh_keeps (fresh : Bool) (s : State) :
    Keeps [.link] s (setFarFresh fresh s) := by
  unfold setFarFresh
  repeat' first
    | split
    | with_reducible apply Keeps.refl
    | with_reducible apply Keeps.after (setLink_keeps _ _)
    | decide

theorem sameRole_keeps (s : State) :
    Keeps [.link, .sched, .ring, .regs] s (sameRole s) := by
  unfold sameRole
  repeat' first
    | split
    | with_reducible apply Keeps.refl
    | with_reducible apply Keeps.after (setLink_keeps _ _)
    | with_reducible apply Keeps.after (writeEvent_keeps _ _ _ _)
    | decide

theorem helloConnecting_keeps (heard fresh : Bool) (s : State) :
    Keeps [.island, .talkSeen, .deliverer, .link, .clock, .sched, .desk, .ring, .regs, .output] s (helloConnecting heard fresh s) := by
  unfold helloConnecting
  dsimp only
  repeat' first
    | split
    | with_reducible apply Keeps.refl
    | with_reducible apply Keeps.after (setLink_keeps _ _)
    | with_reducible apply Keeps.after (setSched_keeps _ _)
    | with_reducible apply Keeps.after (setFarFresh_keeps _ _)
    | with_reducible apply Keeps.after (changeLink_keeps _ _)
    | decide

theorem helloLinked_keeps (heard fresh : Bool) (s : State) :
    Keeps [.island, .talkSeen, .deliverer, .link, .clock, .sched, .desk, .ring, .regs, .output] s (helloLinked heard fresh s) := by
  unfold helloLinked
  dsimp only
  repeat' first
    | split
    | with_reducible apply Keeps.refl
    | with_reducible apply Keeps.after (setFarFresh_keeps _ _)
    | with_reducible apply Keeps.after (changeLink_keeps _ _)
    | with_reducible apply Keeps.after (writeEvent_keeps _ _ _ _)
    | decide

theorem receiveHello_keeps (p : List Byte) (s : State) :
    Keeps [.island, .talkSeen, .deliverer, .link, .clock, .sched, .desk, .ring, .regs, .output] s (receiveHello p s) := by
  unfold receiveHello
  repeat' first
    | split
    | with_reducible apply Keeps.refl
    | with_reducible apply Keeps.after (sameRole_keeps _)
    | with_reducible apply Keeps.after (helloConnecting_keeps _ _ _)
    | with_reducible apply Keeps.after (helloLinked_keeps _ _ _)
    | decide

theorem flushSwitchover_keeps (s : State) :
    Keeps [.deliverer, .sched, .ring, .regs] s (flushSwitchover s) := by
  unfold flushSwitchover
  repeat' first
    | split
    | with_reducible apply Keeps.refl
    | with_reducible apply Keeps.after (setDeliverer_keeps _ _)
    | with_reducible apply Keeps.after (writeEvent_keeps _ _ _ _)
    | decide

theorem anchorCursor_keeps (newest : Nat) (s : State) :
    Keeps [.deliverer] s (anchorCursor newest s) := by
  unfold anchorCursor
  repeat' first
    | with_reducible apply Keeps.refl
    | with_reducible apply Keeps.after (setDeliverer_keeps _ _)
    | decide

theorem setActive_keeps (new : Option PortId) (s : State) :
    Keeps [.island, .talkSeen, .selector, .deliverer, .link, .clock, .sched, .desk, .ring, .status, .regs, .output] s (setActive new s) := by
  unfold setActive
  dsimp only
  repeat' first
    | split
    | with_reducible apply Keeps.refl
    | with_reducible apply Keeps.after (setSelector_keeps _ _)
    | with_reducible apply Keeps.after (setDeliverer_keeps _ _)
    | with_reducible apply Keeps.after (setStatus_keeps _ _)
    | with_reducible apply Keeps.after (setChange_keeps _ _)
    | with_reducible apply Keeps.after (linkActivated_keeps _)
    | with_reducible apply Keeps.after (anchorCursor_keeps _ _)
    | with_reducible apply Keeps.after (flushSwitchover_keeps _)
    | with_reducible apply Keeps.after (linkDeactivated_keeps _)
    | decide

theorem clearClean_keeps (s : State) :
    Keeps [.selector] s (clearClean s) := by
  unfold clearClean
  repeat' first
    | with_reducible apply Keeps.refl
    | with_reducible apply Keeps.after (setSelector_keeps _ _)
    | decide

theorem selectorLeft_keeps (p : PortId) (s : State) :
    Keeps [.island, .talkSeen, .selector, .deliverer, .link, .clock, .sched, .desk, .ring, .status, .regs, .output] s (selectorLeft p s) := by
  unfold selectorLeft
  repeat' first
    | split
    | with_reducible apply Keeps.refl
    | with_reducible apply Keeps.after (setActive_keeps _ _)
    | with_reducible apply Keeps.after (clearClean_keeps _)
    | decide

theorem selectorEntered_keeps (p : PortId) (s : State) :
    Keeps [.island, .talkSeen, .selector, .deliverer, .link, .clock, .sched, .desk, .ring, .status, .regs, .output] s (selectorEntered p s) := by
  unfold selectorEntered
  repeat' first
    | split
    | with_reducible apply Keeps.refl
    | with_reducible apply Keeps.after (clearClean_keeps _)
    | with_reducible apply Keeps.after (setActive_keeps _ _)
    | decide

theorem portChanged_keeps (p : PortId) (s : State) :
    Keeps [.sched, .ring, .regs] s (portChanged p s) := by
  unfold portChanged
  repeat' first
    | with_reducible apply Keeps.refl
    | with_reducible apply Keeps.after (writeEvent_keeps _ _ _ _)
    | with_reducible apply Keeps.after (setChange_keeps _ _)
    | decide

theorem losAsserted_keeps (p : PortId) (s : State) :
    Keeps [.island, .talkSeen, .portA, .portB, .selector, .deliverer, .link, .clock, .sched, .desk, .ring, .status, .regs, .output] s (losAsserted p s) := by
  unfold losAsserted
  dsimp only
  repeat' first
    | split
    | with_reducible apply Keeps.refl
    | with_reducible apply Keeps.after (setPort_keeps _ _ _)
    | with_reducible apply Keeps.after (portChanged_keeps _ _)
    | with_reducible apply Keeps.after (selectorLeft_keeps _ _)
    | decide

theorem losDeasserted_keeps (p : PortId) (s : State) :
    Keeps [.portA, .portB, .sched, .ring, .regs] s (losDeasserted p s) := by
  unfold losDeasserted
  dsimp only
  repeat' first
    | split
    | with_reducible apply Keeps.refl
    | with_reducible apply Keeps.after (setPort_keeps _ _ _)
    | with_reducible apply Keeps.after (portChanged_keeps _ _)
    | decide

theorem lockPort_keeps (p : PortId) (s : State) :
    Keeps [.island, .talkSeen, .portA, .portB, .selector, .deliverer, .link, .clock, .sched, .desk, .ring, .status, .regs, .output] s (lockPort p s) := by
  unfold lockPort
  dsimp only
  repeat' first
    | with_reducible apply Keeps.refl
    | with_reducible apply Keeps.after (setPort_keeps _ _ _)
    | with_reducible apply Keeps.after (selectorEntered_keeps _ _)
    | with_reducible apply Keeps.after (portChanged_keeps _ _)
    | decide

theorem unlockPort_keeps (p : PortId) (s : State) :
    Keeps [.island, .talkSeen, .portA, .portB, .selector, .deliverer, .link, .clock, .sched, .desk, .ring, .status, .regs, .output] s (unlockPort p s) := by
  unfold unlockPort
  dsimp only
  repeat' first
    | with_reducible apply Keeps.refl
    | with_reducible apply Keeps.after (setPort_keeps _ _ _)
    | with_reducible apply Keeps.after (selectorLeft_keeps _ _)
    | with_reducible apply Keeps.after (portChanged_keeps _ _)
    | decide

theorem adjustCursor_keeps (newest : Nat) (s : State) :
    Keeps [.deliverer] s (adjustCursor newest s) := by
  unfold adjustCursor
  dsimp only
  repeat' first
    | split
    | with_reducible apply Keeps.refl
    | with_reducible apply Keeps.after (setDeliverer_keeps _ _)
    | with_reducible apply Keeps.after (anchorCursor_keeps _ _)
    | decide

theorem receiveFrame_keeps (p : PortId) (bytes : List Byte) (phase : Nat) (s : State) :
    Keeps [.island, .talkSeen, .portA, .portB, .selector, .deliverer, .link, .clock, .sched, .desk, .ring, .status, .regs, .output] s (receiveFrame p bytes phase s) := by
  unfold receiveFrame
  dsimp only
  repeat' first
    | split
    | with_reducible apply Keeps.refl
    | with_reducible apply Keeps.after (setPort_keeps _ _ _)
    | with_reducible apply Keeps.after (clockArrival_keeps _ _ _ _)
    | with_reducible apply Keeps.after (adjustCursor_keeps _ _)
    | with_reducible apply Keeps.after (lockPort_keeps _ _)
    | decide

theorem failFrameTime_keeps (p : PortId) (s : State) :
    Keeps [.island, .talkSeen, .portA, .portB, .selector, .deliverer, .link, .clock, .sched, .desk, .ring, .status, .regs, .output] s (failFrameTime p s) := by
  unfold failFrameTime
  dsimp only
  repeat' first
    | split
    | with_reducible apply Keeps.refl
    | with_reducible apply Keeps.after (setPort_keeps _ _ _)
    | with_reducible apply Keeps.after (unlockPort_keeps _ _)
    | decide

theorem judgePort_keeps (p : PortId) (s : State) :
    Keeps [.island, .talkSeen, .portA, .portB, .selector, .deliverer, .link, .clock, .sched, .desk, .ring, .status, .regs, .output] s (judgePort p s) := by
  unfold judgePort
  dsimp only
  repeat' first
    | split
    | with_reducible apply Keeps.refl
    | with_reducible apply Keeps.after (setPort_keeps _ _ _)
    | with_reducible apply Keeps.after (failFrameTime_keeps _ _)
    | decide

theorem judgePorts_keeps (s : State) :
    Keeps [.island, .talkSeen, .portA, .portB, .selector, .deliverer, .link, .clock, .sched, .desk, .ring, .status, .regs, .output] s (judgePorts s) := by
  unfold judgePorts
  repeat' first
    | with_reducible apply Keeps.refl
    | with_reducible apply Keeps.after (judgePort_keeps _ _)
    | decide

theorem judgeUnlock_keeps (p : PortId) (s : State) :
    Keeps [.island, .talkSeen, .portA, .portB, .selector, .deliverer, .link, .clock, .sched, .desk, .ring, .status, .regs, .output] s (judgeUnlock p s) := by
  unfold judgeUnlock
  dsimp only
  repeat' first
    | split
    | with_reducible apply Keeps.refl
    | with_reducible apply Keeps.after (failFrameTime_keeps _ _)
    | decide

theorem closeSuperframe_keeps (p : PortId) (s : State) :
    Keeps [.portA, .portB, .sched, .ring, .regs] s (closeSuperframe p s) := by
  unfold closeSuperframe
  dsimp only
  repeat' first
    | split
    | with_reducible apply Keeps.refl
    | with_reducible apply Keeps.after (setPort_keeps _ _ _)
    | with_reducible apply Keeps.after (portChanged_keeps _ _)
    | decide

theorem updateClean_keeps (s : State) :
    Keeps [.selector] s (updateClean s) := by
  unfold updateClean
  repeat' first
    | split
    | with_reducible apply Keeps.refl
    | with_reducible apply Keeps.after (setSelector_keeps _ _)
    | decide

theorem markLocked_keeps (p : PortId) (s : State) :
    Keeps [.portA, .portB] s (markLocked p s) := by
  unfold markLocked
  repeat' first
    | with_reducible apply Keeps.refl
    | with_reducible apply Keeps.after (setPort_keeps _ _ _)
    | decide

theorem marginalSwitch_keeps (s : State) :
    Keeps [.island, .talkSeen, .selector, .deliverer, .link, .clock, .sched, .desk, .ring, .status, .regs, .output] s (marginalSwitch s) := by
  unfold marginalSwitch
  repeat' first
    | split
    | with_reducible apply Keeps.refl
    | with_reducible apply Keeps.after (setActive_keeps _ _)
    | decide

theorem closePorts_keeps (s : State) :
    Keeps [.island, .talkSeen, .portA, .portB, .selector, .deliverer, .link, .clock, .sched, .desk, .ring, .status, .regs, .output] s (closePorts s) := by
  unfold closePorts
  repeat' first
    | with_reducible apply Keeps.refl
    | with_reducible apply Keeps.after (marginalSwitch_keeps _)
    | with_reducible apply Keeps.after (markLocked_keeps _ _)
    | with_reducible apply Keeps.after (updateClean_keeps _)
    | with_reducible apply Keeps.after (closeSuperframe_keeps _ _)
    | decide

theorem receiveBytes_keeps (bytes : List Byte) (s : State) :
    Keeps [.receiver] s (receiveBytes bytes s) := by
  unfold receiveBytes
  dsimp only
  repeat' first
    | with_reducible apply Keeps.refl
    | with_reducible apply Keeps.after (setReceiver_keeps _ _)
    | decide

theorem dropHeld_keeps (s : State) :
    Keeps [.receiver] s (dropHeld s) := by
  unfold dropHeld
  repeat' first
    | with_reducible apply Keeps.refl
    | with_reducible apply Keeps.after (setReceiver_keeps _ _)
    | decide

theorem send_keeps (t : MsgType) (payload : List Byte) (s : State) :
    Keeps [.sched] s (send t payload s) := by
  unfold send
  repeat' first
    | with_reducible apply Keeps.refl
    | with_reducible apply Keeps.after (setSched_keeps _ _)
    | decide

theorem beginHello_keeps (s : State) :
    Keeps [.link, .sched] s (beginHello s) := by
  unfold beginHello
  dsimp only
  repeat' first
    | with_reducible apply Keeps.refl
    | with_reducible apply Keeps.after (setSched_keeps _ _)
    | with_reducible apply Keeps.after (setLink_keeps _ _)
    | with_reducible apply Keeps.after (send_keeps _ _ _)
    | decide

theorem beginReply_keeps (s : State) :
    Keeps [.sched] s (beginReply s) := by
  unfold beginReply
  dsimp only
  repeat' first
    | split
    | with_reducible apply Keeps.refl
    | with_reducible apply Keeps.after (setSched_keeps _ _)
    | with_reducible apply Keeps.after (send_keeps _ _ _)
    | decide

theorem beginNote_keeps (s : State) :
    Keeps [.sched] s (beginNote s) := by
  unfold beginNote
  dsimp only
  repeat' first
    | with_reducible apply Keeps.refl
    | with_reducible apply Keeps.after (setSched_keeps _ _)
    | with_reducible apply Keeps.after (send_keeps _ _ _)
    | decide

theorem beginStatus_keeps (s : State) :
    Keeps [.sched, .status] s (beginStatus s) := by
  unfold beginStatus
  dsimp only
  repeat' first
    | with_reducible apply Keeps.refl
    | with_reducible apply Keeps.after (setSched_keeps _ _)
    | with_reducible apply Keeps.after (setStatus_keeps _ _)
    | with_reducible apply Keeps.after (send_keeps _ _ _)
    | decide

theorem beginMeter_keeps (s : State) :
    Keeps [.channels, .mixes, .meters, .sched, .regs] s (beginMeter s) := by
  unfold beginMeter
  dsimp only
  repeat' first
    | with_reducible apply Keeps.refl
    | with_reducible apply Keeps.after (setSched_keeps _ _)
    | with_reducible apply Keeps.after (takeMeters_keeps _)
    | decide

theorem beginPushMessage_keeps (record : Nat) (s : State) :
    Keeps [.sched, .desk] s (beginPushMessage record s) := by
  unfold beginPushMessage
  repeat' first
    | with_reducible apply Keeps.refl
    | with_reducible apply Keeps.after (beginPush_keeps _ _)
    | with_reducible apply Keeps.after (send_keeps _ _ _)
    | decide

theorem beginPullMessage_keeps (record : Nat) (s : State) :
    Keeps [.sched, .desk] s (beginPullMessage record s) := by
  unfold beginPullMessage
  repeat' first
    | with_reducible apply Keeps.refl
    | with_reducible apply Keeps.after (beginPull_keeps _ _)
    | with_reducible apply Keeps.after (send_keeps _ _ _)
    | decide

theorem beginPick_keeps (k : Pick) (s : State) :
    Keeps [.channels, .mixes, .meters, .link, .sched, .desk, .status, .regs] s (beginPick k s) := by
  unfold beginPick
  repeat' first
    | split
    | with_reducible apply Keeps.refl
    | with_reducible apply Keeps.after (beginHello_keeps _)
    | with_reducible apply Keeps.after (beginReply_keeps _)
    | with_reducible apply Keeps.after (beginNote_keeps _)
    | with_reducible apply Keeps.after (beginStatus_keeps _)
    | with_reducible apply Keeps.after (beginMeter_keeps _)
    | with_reducible apply Keeps.after (beginPullMessage_keeps _ _)
    | with_reducible apply Keeps.after (beginPushMessage_keeps _ _)
    | decide

theorem pickNow_keeps (s : State) :
    Keeps [.channels, .mixes, .meters, .link, .sched, .desk, .status, .regs] s (pickNow s) := by
  unfold pickNow
  repeat' first
    | split
    | with_reducible apply Keeps.refl
    | with_reducible apply Keeps.after (beginPick_keeps _ _)
    | decide

theorem handByte_keeps (s : State) :
    Keeps [.channels, .mixes, .meters, .link, .sched, .desk, .status, .regs] s ((handByte s).1) := by
  unfold handByte
  dsimp only
  repeat' first
    | split
    | with_reducible apply Keeps.refl
    | with_reducible apply Keeps.after (setSched_keeps _ _)
    | with_reducible apply Keeps.after (pickNow_keeps _)
    | decide

theorem handBytes_keeps (n : Nat) (s : State) :
    Keeps [.channels, .mixes, .meters, .link, .sched, .desk, .status, .regs] s (handBytes n s).1 := by
  induction n generalizing s with
  | zero => exact Keeps.refl _ _
  | succ n ih => exact Keeps.next (handByte_keeps s) (ih (handByte s).1)

theorem receiveNote_keeps (p : List Byte) (s : State) :
    Keeps [.sched, .ring, .regs] s (receiveNote p s) := by
  unfold receiveNote
  repeat' first
    | split
    | with_reducible apply Keeps.refl
    | with_reducible apply Keeps.after (appendEvent_keeps _ _ _ _ _ _)
    | decide

theorem receiveStatus_keeps (p : List Byte) (s : State) :
    Keeps [.status] s (receiveStatus p s) := by
  unfold receiveStatus
  repeat' first
    | split
    | with_reducible apply Keeps.refl
    | with_reducible apply Keeps.after (setStatus_keeps _ _)
    | decide

theorem consume_keeps (m : Msg) (s : State) :
    Keeps [.channels, .preamp, .island, .talkSeen, .meters, .deliverer, .link, .clock, .sched, .desk, .stage, .board, .scanner, .ring, .status, .regs, .output] s (consume m s) := by
  unfold consume
  repeat' first
    | split
    | with_reducible apply Keeps.refl
    | with_reducible apply Keeps.after (receiveHello_keeps _ _)
    | with_reducible apply Keeps.after (receivePush_keeps _ _ _ _)
    | with_reducible apply Keeps.after (receivePull_keeps _ _)
    | with_reducible apply Keeps.after (acknowledge_keeps _ _ _)
    | with_reducible apply Keeps.after (adoptReport_keeps _ _ _)
    | with_reducible apply Keeps.after (receiveNote_keeps _ _)
    | with_reducible apply Keeps.after (receiveStatus_keeps _ _)
    | with_reducible apply Keeps.after (writeMeters_keeps _ _)
    | decide

theorem consumeHead_keeps (t : MsgType) (s : State) :
    Keeps [.channels, .preamp, .island, .talkSeen, .meters, .deliverer, .link, .clock, .sched, .receiver, .desk, .stage, .board, .scanner, .ring, .status, .regs, .output] s (consumeHead t s) := by
  unfold consumeHead
  repeat' first
    | split
    | with_reducible apply Keeps.refl
    | with_reducible apply Keeps.after (setReceiver_keeps _ _)
    | with_reducible apply Keeps.after (consume_keeps _ _)
    | decide

theorem consumeAll_keeps (s : State) :
    Keeps [.channels, .preamp, .island, .talkSeen, .meters, .deliverer, .link, .clock, .sched, .receiver, .desk, .stage, .board, .scanner, .ring, .status, .regs, .output] s (consumeAll s) := by
  unfold consumeAll
  repeat' first
    | with_reducible apply Keeps.refl
    | with_reducible apply Keeps.after (setReceiver_keeps _ _)
    | with_reducible apply Keeps.after (consume_keeps _ _)
    | with_reducible apply Keeps.after (forEach_keeps (fun _ _ => consume_keeps _ _) _ _)
    | decide

theorem deliverHeader_keeps (header : Half) (s : State) :
    Keeps [.talkSeen, .deliverer, .sched, .ring, .status, .regs] s (deliverHeader header s) := by
  unfold deliverHeader
  repeat' first
    | split
    | with_reducible apply Keeps.refl
    | with_reducible apply Keeps.after (setDeliverer_keeps _ _)
    | with_reducible apply Keeps.after (setStatus_keeps _ _)
    | with_reducible apply Keeps.after (compareStageTalk_keeps _ _)
    | decide

theorem deliverFrame_keeps (f : RxFrame) (s : State) :
    Keeps [.talkSeen, .deliverer, .sched, .receiver, .ring, .status, .regs] s (deliverFrame f s) := by
  unfold deliverFrame
  dsimp only
  repeat' first
    | with_reducible apply Keeps.refl
    | with_reducible apply Keeps.after (setDeliverer_keeps _ _)
    | with_reducible apply Keeps.after (flushSwitchover_keeps _)
    | with_reducible apply Keeps.after (receiveBytes_keeps _ _)
    | with_reducible apply Keeps.after (deliverHeader_keeps _ _)
    | decide

theorem concealFrame_keeps (s : State) :
    Keeps [.deliverer, .receiver, .status] s (concealFrame s) := by
  unfold concealFrame
  dsimp only
  repeat' first
    | split
    | with_reducible apply Keeps.refl
    | with_reducible apply Keeps.after (setDeliverer_keeps _ _)
    | with_reducible apply Keeps.after (setStatus_keeps _ _)
    | with_reducible apply Keeps.after (dropHeld_keeps _)
    | decide

theorem silentFrame_keeps (s : State) :
    Keeps [.deliverer] s (silentFrame s) := by
  unfold silentFrame
  dsimp only
  repeat' first
    | with_reducible apply Keeps.refl
    | with_reducible apply Keeps.after (setDeliverer_keeps _ _)
    | decide

theorem passCursor_keeps (s : State) :
    Keeps [.deliverer] s (passCursor s) := by
  unfold passCursor
  dsimp only
  repeat' first
    | split
    | with_reducible apply Keeps.refl
    | with_reducible apply Keeps.after (setDeliverer_keeps _ _)
    | decide

theorem farFrame_keeps (s : State) :
    Keeps [.talkSeen, .deliverer, .sched, .receiver, .ring, .status, .regs] s (farFrame s) := by
  unfold farFrame
  repeat' first
    | split
    | with_reducible apply Keeps.refl
    | with_reducible apply Keeps.after (silentFrame_keeps _)
    | with_reducible apply Keeps.after (deliverFrame_keeps _ _)
    | with_reducible apply Keeps.after (concealFrame_keeps _)
    | with_reducible apply Keeps.after (passCursor_keeps _)
    | decide

theorem settleStage_keeps (s : State) :
    Keeps [.channels, .stepperDue, .preamp, .clock, .sched, .ring, .regs] s (settleStage s) := by
  unfold settleStage
  dsimp only
  repeat' first
    | with_reducible apply Keeps.refl
    | with_reducible apply Keeps.after (gateClosedReaction_keeps _ _)
    | with_reducible apply Keeps.after (endTrimPeriod_keeps _)
    | with_reducible apply Keeps.after (phantomExpiry_keeps _ _)
    | with_reducible apply Keeps.after (stepperExpiry_keeps _)
    | with_reducible apply Keeps.after (startTransfer_keeps _)
    | with_reducible apply Keeps.after (forEach_keeps (fun _ _ => gateClosedReaction_keeps _ _) _ _)
    | with_reducible apply Keeps.after (forEach_keeps (fun _ _ => endTrimPeriod_keeps _) _ _)
    | with_reducible apply Keeps.after (forEach_keeps (fun _ _ => phantomExpiry_keeps _ _) _ _)
    | with_reducible apply Keeps.after (forEach_keeps (fun _ _ => stepperExpiry_keeps _) _ _)
    | with_reducible apply Keeps.after (forEach_keeps (fun _ _ => startTransfer_keeps _) _ _)
    | decide

theorem settleDesk_keeps (s : State) :
    Keeps [.arbiter, .sched, .desk, .board, .scanner, .ring, .regs] s (settleDesk s) := by
  unfold settleDesk
  dsimp only
  repeat' first
    | with_reducible apply Keeps.refl
    | with_reducible apply Keeps.after (limitExpiry_keeps _ _)
    | with_reducible apply Keeps.after (renewExpiry_keeps _ _)
    | with_reducible apply Keeps.after (inFlightTimeout_keeps _)
    | with_reducible apply Keeps.after (pullTimeout_keeps _ _)
    | with_reducible apply Keeps.after (deadlineExpiry_keeps _ _)
    | with_reducible apply Keeps.after (forEach_keeps (fun _ _ => limitExpiry_keeps _ _) _ _)
    | with_reducible apply Keeps.after (forEach_keeps (fun _ _ => renewExpiry_keeps _ _) _ _)
    | with_reducible apply Keeps.after (forEach_keeps (fun _ _ => inFlightTimeout_keeps _) _ _)
    | with_reducible apply Keeps.after (forEach_keeps (fun _ _ => pullTimeout_keeps _ _) _ _)
    | with_reducible apply Keeps.after (forEach_keeps (fun _ _ => deadlineExpiry_keeps _ _) _ _)
    | decide

theorem settle_keeps (s : State) :
    Keeps [.channels, .stepperDue, .preamp, .island, .arbiter, .talkSeen, .meters, .deliverer, .link, .clock, .sched, .receiver, .desk, .stage, .board, .scanner, .ring, .status, .regs, .output] s (settle s) := by
  unfold settle
  dsimp only
  repeat' first
    | split
    | with_reducible apply Keeps.refl
    | with_reducible apply Keeps.after (bridgingExpiry_keeps _)
    | with_reducible apply Keeps.after (consumeAll_keeps _)
    | with_reducible apply Keeps.after (settleDesk_keeps _)
    | with_reducible apply Keeps.after (settleStage_keeps _)
    | decide

theorem advanceSuperframe_keeps (s : State) :
    Keeps [.superframe, .frameIndex] s (advanceSuperframe s) := by
  unfold advanceSuperframe
  repeat' first
    | with_reducible apply Keeps.refl
    | with_reducible apply Keeps.after (setSuperframe_keeps _ _)
    | with_reducible apply Keeps.after (setFrameIndex_keeps _ _)
    | decide

theorem boundaryHello_keeps (s : State) :
    Keeps [.link, .sched] s (boundaryHello s) := by
  unfold boundaryHello
  dsimp only
  repeat' first
    | split
    | with_reducible apply Keeps.refl
    | with_reducible apply Keeps.after (setLink_keeps _ _)
    | with_reducible apply Keeps.after (setSched_keeps _ _)
    | decide

theorem boundaryScheduler_keeps (s : State) :
    Keeps [.sched] s (boundaryScheduler s) := by
  unfold boundaryScheduler
  repeat' first
    | with_reducible apply Keeps.refl
    | with_reducible apply Keeps.after (setSched_keeps _ _)
    | decide

theorem boundaryStepper_keeps (s : State) :
    Keeps [.stepperDue] s (boundaryStepper s) := by
  unfold boundaryStepper
  repeat' first
    | split
    | with_reducible apply Keeps.refl
    | with_reducible apply Keeps.after (setStepperDue_keeps _ _)
    | decide

theorem refreshStatus_keeps (s : State) :
    Keeps [.status] s (refreshStatus s) := by
  unfold refreshStatus
  repeat' first
    | with_reducible apply Keeps.refl
    | with_reducible apply Keeps.after (setStatus_keeps _ _)
    | decide

theorem boundaryStage_keeps (pinLow : Bool) (s : State) :
    Keeps [.stepperDue, .island, .button, .sched, .ring, .status, .regs] s (boundaryStage pinLow s) := by
  unfold boundaryStage
  repeat' first
    | with_reducible apply Keeps.refl
    | with_reducible apply Keeps.after (refreshStatus_keeps _)
    | with_reducible apply Keeps.after (boundaryStepper_keeps _)
    | with_reducible apply Keeps.after (sampleButton_keeps _ _)
    | with_reducible apply Keeps.after (engageIsland_keeps _)
    | with_reducible apply Keeps.after (countIsland_keeps _)
    | with_reducible apply Keeps.after (boundaryScheduler_keeps _)
    | decide

theorem boundary_keeps (pinLow : Bool) (s : State) :
    Keeps [.superframe, .frameIndex, .stepperDue, .island, .button, .talkSeen, .portA, .portB, .selector, .deliverer, .link, .clock, .sched, .desk, .scanner, .ring, .status, .regs, .output] s (boundary pinLow s) := by
  unfold boundary
  dsimp only
  repeat' first
    | split
    | with_reducible apply Keeps.refl
    | with_reducible apply Keeps.after (boundaryHello_keeps _)
    | with_reducible apply Keeps.after (closePorts_keeps _)
    | with_reducible apply Keeps.after (advanceSuperframe_keeps _)
    | with_reducible apply Keeps.after (countScan_keeps _)
    | with_reducible apply Keeps.after (boundaryStage_keeps _ _)
    | decide

theorem endSuperframe_keeps (s : State) :
    Keeps [.channels, .stepperDue, .preamp, .island, .arbiter, .talkSeen, .meters, .portA, .portB, .selector, .deliverer, .link, .clock, .sched, .receiver, .desk, .stage, .board, .scanner, .ring, .status, .regs, .output] s (endSuperframe s) := by
  unfold endSuperframe
  repeat' first
    | with_reducible apply Keeps.refl
    | with_reducible apply Keeps.after (judgePorts_keeps _)
    | with_reducible apply Keeps.after (finishScan_keeps _)
    | with_reducible apply Keeps.after (settle_keeps _)
    | decide

theorem superframeStep_keeps (pinLow : Bool) (s : State) :
    Keeps [.superframe, .frameIndex, .channels, .stepperDue, .preamp, .island, .arbiter, .button, .talkSeen, .meters, .portA, .portB, .selector, .deliverer, .link, .clock, .sched, .receiver, .desk, .stage, .board, .scanner, .ring, .status, .regs, .output] s (superframeStep pinLow s) := by
  unfold superframeStep
  repeat' first
    | with_reducible apply Keeps.refl
    | with_reducible apply Keeps.after (boundary_keeps _ _)
    | with_reducible apply Keeps.after (endSuperframe_keeps _)
    | decide

theorem clockStep_keeps (s : State) :
    Keeps [.clock] s (clockStep s) := by
  unfold clockStep
  repeat' first
    | split
    | with_reducible apply Keeps.refl
    | with_reducible apply Keeps.after (setClock_keeps _ _)
    | decide

theorem stageTransmit_keeps (postGate : List Int) (s : State) :
    Keeps [.channels, .mixes, .meters, .link, .sched, .desk, .status, .regs, .output] s (stageTransmit postGate s) := by
  unfold stageTransmit
  dsimp only
  repeat' first
    | with_reducible apply Keeps.refl
    | with_reducible apply Keeps.after (setOutput_keeps _ _)
    | with_reducible apply Keeps.after (handBytes_keeps _ _)
    | decide

theorem deskTransmit_keeps (slots : List Sample) (s : State) :
    Keeps [.channels, .mixes, .meters, .link, .sched, .desk, .status, .regs, .output] s (deskTransmit slots s) := by
  unfold deskTransmit
  dsimp only
  repeat' first
    | with_reducible apply Keeps.refl
    | with_reducible apply Keeps.after (setOutput_keeps _ _)
    | with_reducible apply Keeps.after (handBytes_keeps _ _)
    | decide

theorem stageAudio_keeps (slots : List Sample) (s : State) :
    Keeps [.channels, .mixes, .meters, .link, .sched, .desk, .status, .regs, .output] s (stageAudio slots s) := by
  unfold stageAudio
  dsimp only
  repeat' first
    | with_reducible apply Keeps.refl
    | with_reducible apply Keeps.after (setChannels_keeps _ _)
    | with_reducible apply Keeps.after (stageTransmit_keeps _ _)
    | with_reducible apply Keeps.after (mixFrame_keeps _ _)
    | decide

theorem deskAudio_keeps (slots : List Sample) (s : State) :
    Keeps [.channels, .mixes, .meters, .link, .sched, .desk, .status, .regs, .output] s (deskAudio slots s) := by
  unfold deskAudio
  repeat' first
    | with_reducible apply Keeps.refl
    | with_reducible apply Keeps.after (setOutput_keeps _ _)
    | with_reducible apply Keeps.after (deskTransmit_keeps _ _)
    | decide

theorem audioStep_keeps (slots : List Sample) (s : State) :
    Keeps [.channels, .mixes, .meters, .link, .sched, .desk, .status, .regs, .output] s (audioStep slots s) := by
  unfold audioStep
  repeat' first
    | split
    | with_reducible apply Keeps.refl
    | with_reducible apply Keeps.after (deskAudio_keeps _ _)
    | with_reducible apply Keeps.after (stageAudio_keeps _ _)
    | decide

theorem advanceFrame_keeps (s : State) :
    Keeps [.frameIndex] s (advanceFrame s) := by
  unfold advanceFrame
  repeat' first
    | with_reducible apply Keeps.refl
    | with_reducible apply Keeps.after (setFrameIndex_keeps _ _)
    | decide

theorem frameBlocks_keeps (slots : List Sample) (s : State) :
    Keeps [.frameIndex, .channels, .mixes, .talkSeen, .meters, .deliverer, .link, .clock, .sched, .receiver, .desk, .ring, .status, .regs, .output] s (frameBlocks slots s) := by
  unfold frameBlocks
  repeat' first
    | with_reducible apply Keeps.refl
    | with_reducible apply Keeps.after (advanceFrame_keeps _)
    | with_reducible apply Keeps.after (countBridging_keeps _)
    | with_reducible apply Keeps.after (audioStep_keeps _ _)
    | with_reducible apply Keeps.after (farFrame_keeps _)
    | with_reducible apply Keeps.after (clockStep_keeps _)
    | decide

theorem frameStep_keeps (slots : List Sample) (s : State) :
    Keeps [.frameIndex, .channels, .mixes, .island, .talkSeen, .meters, .portA, .portB, .selector, .deliverer, .link, .clock, .sched, .receiver, .desk, .ring, .status, .regs, .output] s (frameStep slots s) := by
  unfold frameStep
  repeat' first
    | split
    | with_reducible apply Keeps.refl
    | with_reducible apply Keeps.after (judgePorts_keeps _)
    | with_reducible apply Keeps.after (frameBlocks_keeps _ _)
    | decide

theorem beforeFrame_keeps (s : State) :
    Keeps [.superframe, .frameIndex, .channels, .stepperDue, .preamp, .island, .arbiter, .button, .talkSeen, .meters, .portA, .portB, .selector, .deliverer, .link, .clock, .sched, .receiver, .desk, .stage, .board, .scanner, .ring, .status, .regs, .output] s (beforeFrame s) := by
  unfold beforeFrame
  repeat' first
    | split
    | with_reducible apply Keeps.refl
    | with_reducible apply Keeps.after (settle_keeps _)
    | with_reducible apply Keeps.after (superframeStep_keeps _ _)
    | decide

theorem storeBoard_keeps (offset : Nat) (value : Word) (afterRead : Bool) (s : State) :
    Keeps [.arbiter, .sched, .desk, .board, .scanner, .ring, .regs] s (storeBoard offset value afterRead s) := by
  unfold storeBoard
  dsimp only
  repeat' first
    | split
    | with_reducible apply Keeps.refl
    | with_reducible apply Keeps.after (setBoard_keeps _ _)
    | with_reducible apply Keeps.after (readFirst_keeps _ _ _)
    | decide

theorem writeWindow_keeps (offset : Nat) (width : Width) (value : Word) (afterRead : Bool) (s : State) :
    Keeps [.arbiter, .sched, .desk, .board, .scanner, .ring, .regs] s (writeWindow offset width value afterRead s) := by
  unfold writeWindow
  repeat' first
    | split
    | with_reducible apply Keeps.refl
    | with_reducible apply Keeps.after (storeBoard_keeps _ _ _ _)
    | with_reducible apply Keeps.after (refuseWrite_keeps _)
    | decide

theorem softReset_keeps (s : State) :
    Keeps [.role, .superframe, .frameIndex, .channels, .stepperDue, .preamp, .mixes, .island, .arbiter, .button, .talkSeen, .meters, .portA, .portB, .selector, .deliverer, .link, .clock, .sched, .receiver, .desk, .stage, .board, .scanner, .ring, .status, .regs, .output] s (softReset s) := by
  intro p hp; cases p <;> first | rfl | exact absurd (by decide) hp

theorem powerOn_keeps (strapHigh losA losB : Bool) (s : State) :
    Keeps [.role, .superframe, .frameIndex, .channels, .stepperDue, .preamp, .mixes, .island, .arbiter, .button, .talkSeen, .meters, .portA, .portB, .selector, .deliverer, .link, .clock, .sched, .receiver, .desk, .stage, .board, .scanner, .ring, .status, .regs, .output] s (powerOn strapHigh losA losB s) := by
  intro p hp; cases p <;> first | rfl | exact absurd (by decide) hp

theorem runChange_keeps (old : Ctrl) (s : State) :
    Keeps [.scanner] s (runChange old s) := by
  unfold runChange
  repeat' first
    | split
    | with_reducible apply Keeps.refl
    | with_reducible apply Keeps.after (setScanner_keeps _ _)
    | decide

theorem holdChange_keeps (old : Ctrl) (s : State) :
    Keeps [.meters, .regs] s (holdChange old s) := by
  unfold holdChange
  repeat' first
    | split
    | with_reducible apply Keeps.refl
    | with_reducible apply Keeps.after (releaseHold_keeps _)
    | decide

theorem ctrlEffects_keeps (old : Ctrl) (s : State) :
    Keeps [.meters, .scanner, .regs] s (ctrlEffects old s) := by
  unfold ctrlEffects
  repeat' first
    | split
    | with_reducible apply Keeps.refl
    | with_reducible apply Keeps.after (holdChange_keeps _ _)
    | with_reducible apply Keeps.after (runChange_keeps _ _)
    | decide

theorem storeCtrl_keeps (w : Word) (s : State) :
    Keeps [.role, .superframe, .frameIndex, .channels, .stepperDue, .preamp, .mixes, .island, .arbiter, .button, .talkSeen, .meters, .portA, .portB, .selector, .deliverer, .link, .clock, .sched, .receiver, .desk, .stage, .board, .scanner, .ring, .status, .regs, .output] s (storeCtrl w s) := by
  unfold storeCtrl
  repeat' first
    | split
    | with_reducible apply Keeps.refl
    | with_reducible apply Keeps.after (setRegs_keeps _ _)
    | with_reducible apply Keeps.after (softReset_keeps _)
    | with_reducible apply Keeps.after (ctrlEffects_keeps _ _)
    | decide

theorem writeCtrl_keeps (width : Width) (w : Word) (s : State) :
    Keeps [.role, .superframe, .frameIndex, .channels, .stepperDue, .preamp, .mixes, .island, .arbiter, .button, .talkSeen, .meters, .portA, .portB, .selector, .deliverer, .link, .clock, .sched, .receiver, .desk, .stage, .board, .scanner, .ring, .status, .regs, .output] s (writeCtrl width w s) := by
  unfold writeCtrl
  repeat' first
    | split
    | with_reducible apply Keeps.refl
    | with_reducible apply Keeps.after (storeCtrl_keeps _ _)
    | with_reducible apply Keeps.after (refuseWrite_keeps _)
    | decide

end Sys2Proof.Machine
end

