-- ==== Sys2Proof/Laws/Level.lean ====
section
/-! SUPPORT. The ramp law's lemmas (R28 to R30): forcing, setting a target and advancing keep a ramped gain in its
range. -/

namespace Sys2Proof.Machine

/-- The truncated step, by the sign of the distance (R29). -/
theorem step_bounds (d : Int) :
    (0 ≤ d → 0 ≤ d.tdiv 256 ∧ d.tdiv 256 * 256 ≤ d) ∧ (d ≤ 0 → d.tdiv 256 ≤ 0 ∧ d ≤ d.tdiv 256 * 256) := by
  constructor
  · intro h
    rw [Int.tdiv_eq_ediv_of_nonneg h]; omega
  · intro h
    have : d.tdiv 256 = -((-d) / 256) := by
      rw [← Int.tdiv_eq_ediv_of_nonneg (by omega : (0:Int) ≤ -d), Int.neg_tdiv]; omega
    omega

theorem rampForce_ok {lo hi v : Int} (h : inRange lo hi v) : RampOk lo hi (rampForce v) :=
  ⟨h, h, by simp [rampForce], fun _ => rfl, fun hne => absurd rfl hne⟩

theorem rampTarget_ok {lo hi t : Int} {g : Ramp} (h : RampOk lo hi g) (ht : inRange lo hi t) :
    RampOk lo hi (rampTarget t g) := by
  unfold rampTarget
  split
  · exact h
  · have hb := step_bounds (t - g.current)
    obtain ⟨h1, h2⟩ := h.current
    have ⟨h3, h4⟩ := ht
    refine ⟨h.current, ht, by simp, by simp, fun _ => ?_⟩
    simp only [inRange]
    rcases Int.le_total 0 (t - g.current) with hd | hd
    · have := hb.1 hd; omega
    · have := hb.2 hd; omega

theorem rampAdvance_ok {lo hi : Int} {g : Ramp} (h : RampOk lo hi g) : RampOk lo hi (rampAdvance g) := by
  unfold rampAdvance
  split
  · exact h
  · split
    · exact ⟨h.target, h.target, by simp, fun _ => rfl, fun hne => absurd rfl hne⟩
    · rename_i h0 h1
      have hc := h.course h0
      obtain ⟨a1, a2⟩ := h.current
      obtain ⟨c1, c2⟩ := hc
      have hr := h.remaining
      obtain ⟨k, hk⟩ : ∃ k : Nat, g.remaining = k + 2 := ⟨g.remaining - 2, by omega⟩
      rw [hk] at c1 c2
      have e : (((k + 2 : Nat) : Int) - 1) = (k : Int) + 1 := by omega
      rw [e] at c1 c2
      have hk0 : (0 : Int) ≤ k := Int.natCast_nonneg k
      refine ⟨?_, h.target, by simp only; omega, fun hz => absurd hz (by simp only; omega), fun _ => ?_⟩
      · simp only [inRange]
        constructor
        · rcases Int.le_total 0 g.step with hs | hs
          · omega
          · nlinarith
        · rcases Int.le_total 0 g.step with hs | hs
          · nlinarith
          · omega
      · simp only [inRange]
        have e2 : (((g.remaining - 1 : Nat) : Int) - 1) = (k : Int) := by omega
        rw [e2]
        constructor <;> nlinarith

end Sys2Proof.Machine
end

