-- ==== Sys2Proof/Laws/Memory.lean ====
section
/-! SUPPORT. The laws of the board's RAM: what a write reads as, what it leaves alone, and that it keeps the canonical
form. -/

namespace Sys2Proof.Machine

theorem Memory.wf_cons (c : Host.Cell) (m : Memory) :
    Memory.wf (c :: m) = true ↔ c.2 ≠ Memory.unlisted ∧ (∀ d ∈ m, c.1 < d.1) ∧ Memory.wf m = true := by
  simp [Memory.wf, and_assoc]

/-- An address below every listed one reads as an unlisted byte. -/
theorem Memory.readByte_below (m : Memory) (a : Nat) (h : ∀ d ∈ m, a < d.1) : m.readByte a = Memory.unlisted := by
  induction m with
  | nil => rfl
  | cons c m ih =>
    have hc := h c (by simp)
    have : a ≠ c.1 := by omega
    simp only [Memory.readByte, this, if_false]
    exact ih fun d hd => h d (by simp [hd])

/-- Every listed address after a write was listed before it, or is the one written. -/
theorem Memory.mem_writeByte (m : Memory) (a : Nat) (b : Byte) (d : Host.Cell) (h : d ∈ m.writeByte a b) :
    d ∈ m ∨ d.1 = a := by
  induction m with
  | nil =>
    simp only [Memory.writeByte] at h
    split at h
    · cases h
    · simp only [List.mem_singleton] at h; exact .inr (by rw [h])
  | cons c m ih =>
    simp only [Memory.writeByte] at h
    split at h
    · split at h
      · exact .inl h
      · rcases List.mem_cons.1 h with h | h
        · exact .inr (by rw [h])
        · exact .inl h
    · split at h
      · split at h
        · exact .inl (List.mem_cons_of_mem _ h)
        · rcases List.mem_cons.1 h with h | h
          · exact .inr (by rw [h])
          · exact .inl (List.mem_cons_of_mem _ h)
      · rcases List.mem_cons.1 h with h | h
        · exact .inl (by simp [h])
        · rcases ih h with h | h
          · exact .inl (List.mem_cons_of_mem _ h)
          · exact .inr h

/-- A byte write keeps the canonical form. -/
theorem Memory.wf_writeByte (m : Memory) (a : Nat) (b : Byte) (h : m.wf = true) : (m.writeByte a b).wf = true := by
  induction m with
  | nil =>
    simp only [Memory.writeByte]
    split
    · rfl
    · rename_i hb; simpa [Memory.wf] using hb
  | cons c m ih =>
    obtain ⟨hne, hlt, hm⟩ := (Memory.wf_cons c m).1 h
    simp only [Memory.writeByte]
    split
    · rename_i hac
      split
      · exact h
      · rename_i hb
        refine (Memory.wf_cons _ _).2 ⟨hb, ?_, h⟩
        intro d hd
        rcases List.mem_cons.1 hd with rfl | hd
        · exact hac
        · exact Nat.lt_trans hac (hlt d hd)
    · split
      · rename_i hac
        split
        · exact hm
        · rename_i hb
          exact (Memory.wf_cons _ _).2 ⟨hb, by rw [hac]; exact hlt, hm⟩
      · rename_i h1 h2
        refine (Memory.wf_cons _ _).2 ⟨hne, ?_, ih hm⟩
        intro d hd
        rcases Memory.mem_writeByte m a b d hd with hd | hd
        · exact hlt d hd
        · omega

/-- A byte reads as it was written. -/
theorem Memory.readByte_writeByte_self (m : Memory) (a : Nat) (b : Byte) (h : m.wf = true) :
    (m.writeByte a b).readByte a = b := by
  induction m with
  | nil =>
    simp only [Memory.writeByte]
    split
    · rename_i hb; simp [Memory.readByte, hb]
    · simp [Memory.readByte]
  | cons c m ih =>
    obtain ⟨hne, hlt, hm⟩ := (Memory.wf_cons c m).1 h
    simp only [Memory.writeByte]
    split
    · rename_i hac
      split
      · rename_i hb
        rw [hb]
        refine Memory.readByte_below _ _ ?_
        intro d hd
        rcases List.mem_cons.1 hd with rfl | hd
        · exact hac
        · exact Nat.lt_trans hac (hlt d hd)
      · simp [Memory.readByte]
    · split
      · rename_i hac
        split
        · rename_i hb
          rw [hb]
          exact Memory.readByte_below _ _ (by rw [hac]; exact hlt)
        · simp [Memory.readByte]
      · rename_i h1 h2
        simp only [Memory.readByte, h2, if_false]
        exact ih hm

/-- A byte write leaves every other address alone. -/
theorem Memory.readByte_writeByte_other (m : Memory) (a x : Nat) (b : Byte) (h : x ≠ a) :
    (m.writeByte a b).readByte x = m.readByte x := by
  induction m with
  | nil =>
    simp only [Memory.writeByte]
    split <;> simp [Memory.readByte, h]
  | cons c m ih =>
    simp only [Memory.writeByte]
    split
    · split
      · rfl
      · simp [Memory.readByte, h]
    · split
      · rename_i hac
        have hx : x ≠ c.1 := by rw [← hac]; exact h
        split
        · simp [Memory.readByte, hx]
        · simp [Memory.readByte, h, hx]
      · simp [Memory.readByte, ih]

/-- A word write keeps the canonical form. -/
theorem Memory.wf_writeWord (m : Memory) (a : Nat) (w : Word) (h : m.wf = true) : (m.writeWord a w).wf = true :=
  Memory.wf_writeByte _ _ _ (Memory.wf_writeByte _ _ _ (Memory.wf_writeByte _ _ _ (Memory.wf_writeByte _ _ _ h)))

/-- Every listed address after a word write was listed before it, or is one of the four written. -/
theorem Memory.mem_writeWord (m : Memory) (a : Nat) (w : Word) (d : Host.Cell) (h : d ∈ m.writeWord a w) :
    d ∈ m ∨ (a ≤ d.1 ∧ d.1 < a + 4) := by
  rcases Memory.mem_writeByte _ _ _ _ h with h | h
  · rcases Memory.mem_writeByte _ _ _ _ h with h | h
    · rcases Memory.mem_writeByte _ _ _ _ h with h | h
      · rcases Memory.mem_writeByte _ _ _ _ h with h | h
        · exact .inl h
        · exact .inr (by omega)
      · exact .inr (by omega)
    · exact .inr (by omega)
  · exact .inr (by omega)

/-- A word write leaves every byte outside its four alone. -/
theorem Memory.readByte_writeWord_other (m : Memory) (a x : Nat) (w : Word) (h : x < a ∨ a + 4 ≤ x) :
    (m.writeWord a w).readByte x = m.readByte x := by
  unfold Memory.writeWord
  rw [Memory.readByte_writeByte_other _ _ _ _ (by omega), Memory.readByte_writeByte_other _ _ _ _ (by omega),
    Memory.readByte_writeByte_other _ _ _ _ (by omega), Memory.readByte_writeByte_other _ _ _ _ (by omega)]

/-- The bytes of a word put together again. -/
theorem wordOfBytes_wordByte (w : Word) :
    wordOfBytes (wordByte w 0) (wordByte w 1) (wordByte w 2) (wordByte w 3) = w := by
  apply BitVec.eq_of_getLsbD_eq
  intro i hi
  simp only [wordOfBytes, wordByte, BitVec.getLsbD_append, BitVec.getLsbD_setWidth, BitVec.getLsbD_ushiftRight]
  by_cases h1 : i < 8
  · simp [h1]
  · by_cases h2 : i - 8 < 8
    · simp [h1, h2, show 8 + (i - 8) = i by omega]
    · by_cases h3 : i - (8 + 8) < 8
      · simp [h1, h2, h3, Nat.sub_sub, show 16 + (i - 16) = i by omega]
      · have h4 : i - 24 < 8 := by omega
        simp [h1, h2, h3, h4, Nat.sub_sub, show 24 + (i - 24) = i by omega]

/-- A word reads as it was written (R160). -/
theorem Memory.readWord_writeWord_self (m : Memory) (a : Nat) (w : Word) (h : m.wf = true) :
    (m.writeWord a w).readWord a = w := by
  have h0 := Memory.wf_writeByte m a (wordByte w 0) h
  have h1 := Memory.wf_writeByte _ (a + 1) (wordByte w 1) h0
  have h2 := Memory.wf_writeByte _ (a + 2) (wordByte w 2) h1
  unfold Memory.readWord Memory.writeWord
  rw [Memory.readByte_writeByte_self _ (a + 3) _ h2,
    Memory.readByte_writeByte_other _ (a + 3) (a + 2) _ (by omega),
    Memory.readByte_writeByte_self _ (a + 2) _ h1,
    Memory.readByte_writeByte_other _ (a + 3) (a + 1) _ (by omega),
    Memory.readByte_writeByte_other _ (a + 2) (a + 1) _ (by omega),
    Memory.readByte_writeByte_self _ (a + 1) _ h0,
    Memory.readByte_writeByte_other _ (a + 3) a _ (by omega),
    Memory.readByte_writeByte_other _ (a + 2) a _ (by omega),
    Memory.readByte_writeByte_other _ (a + 1) a _ (by omega),
    Memory.readByte_writeByte_self _ a _ h]
  exact wordOfBytes_wordByte w

/-- A word write leaves a word that does not overlap it alone. -/
theorem Memory.readWord_writeWord_other (m : Memory) (a x : Nat) (w : Word) (h : x + 4 ≤ a ∨ a + 4 ≤ x) :
    (m.writeWord a w).readWord x = m.readWord x := by
  unfold Memory.readWord
  rw [Memory.readByte_writeWord_other _ _ _ _ (by omega), Memory.readByte_writeWord_other _ _ _ _ (by omega),
    Memory.readByte_writeWord_other _ _ _ _ (by omega), Memory.readByte_writeWord_other _ _ _ _ (by omega)]

/-- Whether a memory is canonical and lies below 0x400. -/
theorem Memory.boardOk_writeWord (m : Memory) (a : Nat) (w : Word) (h : m.wf = true ∧ ∀ c ∈ m, c.1 < 0x400)
    (ha : a + 4 ≤ 0x400) : (m.writeWord a w).wf = true ∧ ∀ c ∈ m.writeWord a w, c.1 < 0x400 := by
  refine ⟨Memory.wf_writeWord m a w h.1, ?_⟩
  intro c hc
  rcases Memory.mem_writeWord m a w c hc with hc | hc
  · exact h.2 c hc
  · omega

/-- The words of an entry after the part's write of it (R163). -/
theorem entryWord_writeEntry (i k : Nat) (st : EntryState) (r : EntryResult) (cl : Bool) (kind : Byte) (tag : Half)
    (s : State) (h : s.board.wf = true) (hk : k < 8) :
    entryWord (writeEntry i st r cl kind tag s) i k =
      (if k = 0 then tag ++ kind ++ entryStateCode st
       else if k = 6 then 0#23 ++ BitVec.ofBool cl ++ entryResultCode r
       else if k = 7 then s.superframe else entryWord s i k) := by
  have h6 := Memory.wf_writeWord s.board (entryAddress i 6) (0#23 ++ BitVec.ofBool cl ++ entryResultCode r) h
  have h7 := Memory.wf_writeWord _ (entryAddress i 7) s.superframe h6
  show (Memory.writeWord _ _ _).readWord _ = _
  unfold entryAddress at *
  by_cases h0 : k = 0
  · subst h0
    rw [Memory.readWord_writeWord_self _ _ _ h7]; rfl
  · rw [Memory.readWord_writeWord_other _ _ _ _ (by omega)]
    by_cases hk7 : k = 7
    · subst hk7
      rw [Memory.readWord_writeWord_self _ _ _ h6]; rfl
    · rw [Memory.readWord_writeWord_other _ _ _ _ (by omega)]
      by_cases hk6 : k = 6
      · subst hk6
        rw [Memory.readWord_writeWord_self _ _ _ h]; rfl
      · rw [Memory.readWord_writeWord_other _ _ _ _ (by omega)]
        simp only [h0, hk6, hk7, if_false]; rfl

/-- The words of another entry are as they were. -/
theorem entryWord_writeEntry_other (i j k : Nat) (st : EntryState) (r : EntryResult) (cl : Bool) (kind : Byte)
    (tag : Half) (s : State) (hij : j ≠ i) (hk : k < 8) :
    entryWord (writeEntry i st r cl kind tag s) j k = entryWord s j k := by
  show (Memory.writeWord _ _ _).readWord _ = _
  unfold entryAddress
  rw [Memory.readWord_writeWord_other _ _ _ _ (by omega), Memory.readWord_writeWord_other _ _ _ _ (by omega),
    Memory.readWord_writeWord_other _ _ _ _ (by omega)]
  rfl

end Sys2Proof.Machine
end

