-- ==== Sys2Proof/Laws/State.lean ====
section
/-! SUPPORT. One lemma per field per update of State, all by rfl: no later proof unfolds a record update. -/

namespace Sys2Proof.Machine

@[simp] theorem State.setSuperframe_role (s : State) (v : Word) : (s.setSuperframe v).role = s.role := rfl
@[simp] theorem State.setSuperframe_superframe (s : State) (v : Word) : (s.setSuperframe v).superframe = v := rfl
@[simp] theorem State.setSuperframe_frameIndex (s : State) (v : Word) : (s.setSuperframe v).frameIndex = s.frameIndex := rfl
@[simp] theorem State.setSuperframe_channels (s : State) (v : Word) : (s.setSuperframe v).channels = s.channels := rfl
@[simp] theorem State.setSuperframe_stepperDue (s : State) (v : Word) : (s.setSuperframe v).stepperDue = s.stepperDue := rfl
@[simp] theorem State.setSuperframe_preamp (s : State) (v : Word) : (s.setSuperframe v).preamp = s.preamp := rfl
@[simp] theorem State.setSuperframe_mixes (s : State) (v : Word) : (s.setSuperframe v).mixes = s.mixes := rfl
@[simp] theorem State.setSuperframe_island (s : State) (v : Word) : (s.setSuperframe v).island = s.island := rfl
@[simp] theorem State.setSuperframe_arbiter (s : State) (v : Word) : (s.setSuperframe v).arbiter = s.arbiter := rfl
@[simp] theorem State.setSuperframe_button (s : State) (v : Word) : (s.setSuperframe v).button = s.button := rfl
@[simp] theorem State.setSuperframe_talkSeen (s : State) (v : Word) : (s.setSuperframe v).talkSeen = s.talkSeen := rfl
@[simp] theorem State.setSuperframe_meters (s : State) (v : Word) : (s.setSuperframe v).meters = s.meters := rfl
@[simp] theorem State.setSuperframe_portA (s : State) (v : Word) : (s.setSuperframe v).portA = s.portA := rfl
@[simp] theorem State.setSuperframe_portB (s : State) (v : Word) : (s.setSuperframe v).portB = s.portB := rfl
@[simp] theorem State.setSuperframe_selector (s : State) (v : Word) : (s.setSuperframe v).selector = s.selector := rfl
@[simp] theorem State.setSuperframe_deliverer (s : State) (v : Word) : (s.setSuperframe v).deliverer = s.deliverer := rfl
@[simp] theorem State.setSuperframe_link (s : State) (v : Word) : (s.setSuperframe v).link = s.link := rfl
@[simp] theorem State.setSuperframe_clock (s : State) (v : Word) : (s.setSuperframe v).clock = s.clock := rfl
@[simp] theorem State.setSuperframe_sched (s : State) (v : Word) : (s.setSuperframe v).sched = s.sched := rfl
@[simp] theorem State.setSuperframe_receiver (s : State) (v : Word) : (s.setSuperframe v).receiver = s.receiver := rfl
@[simp] theorem State.setSuperframe_desk (s : State) (v : Word) : (s.setSuperframe v).desk = s.desk := rfl
@[simp] theorem State.setSuperframe_stage (s : State) (v : Word) : (s.setSuperframe v).stage = s.stage := rfl
@[simp] theorem State.setSuperframe_board (s : State) (v : Word) : (s.setSuperframe v).board = s.board := rfl
@[simp] theorem State.setSuperframe_scanner (s : State) (v : Word) : (s.setSuperframe v).scanner = s.scanner := rfl
@[simp] theorem State.setSuperframe_ring (s : State) (v : Word) : (s.setSuperframe v).ring = s.ring := rfl
@[simp] theorem State.setSuperframe_status (s : State) (v : Word) : (s.setSuperframe v).status = s.status := rfl
@[simp] theorem State.setSuperframe_regs (s : State) (v : Word) : (s.setSuperframe v).regs = s.regs := rfl
@[simp] theorem State.setSuperframe_output (s : State) (v : Word) : (s.setSuperframe v).output = s.output := rfl
@[simp] theorem State.setSuperframe_pending (s : State) (v : Word) : (s.setSuperframe v).pending = s.pending := rfl

@[simp] theorem State.setFrameIndex_role (s : State) (v : Nat) : (s.setFrameIndex v).role = s.role := rfl
@[simp] theorem State.setFrameIndex_superframe (s : State) (v : Nat) : (s.setFrameIndex v).superframe = s.superframe := rfl
@[simp] theorem State.setFrameIndex_frameIndex (s : State) (v : Nat) : (s.setFrameIndex v).frameIndex = v := rfl
@[simp] theorem State.setFrameIndex_channels (s : State) (v : Nat) : (s.setFrameIndex v).channels = s.channels := rfl
@[simp] theorem State.setFrameIndex_stepperDue (s : State) (v : Nat) : (s.setFrameIndex v).stepperDue = s.stepperDue := rfl
@[simp] theorem State.setFrameIndex_preamp (s : State) (v : Nat) : (s.setFrameIndex v).preamp = s.preamp := rfl
@[simp] theorem State.setFrameIndex_mixes (s : State) (v : Nat) : (s.setFrameIndex v).mixes = s.mixes := rfl
@[simp] theorem State.setFrameIndex_island (s : State) (v : Nat) : (s.setFrameIndex v).island = s.island := rfl
@[simp] theorem State.setFrameIndex_arbiter (s : State) (v : Nat) : (s.setFrameIndex v).arbiter = s.arbiter := rfl
@[simp] theorem State.setFrameIndex_button (s : State) (v : Nat) : (s.setFrameIndex v).button = s.button := rfl
@[simp] theorem State.setFrameIndex_talkSeen (s : State) (v : Nat) : (s.setFrameIndex v).talkSeen = s.talkSeen := rfl
@[simp] theorem State.setFrameIndex_meters (s : State) (v : Nat) : (s.setFrameIndex v).meters = s.meters := rfl
@[simp] theorem State.setFrameIndex_portA (s : State) (v : Nat) : (s.setFrameIndex v).portA = s.portA := rfl
@[simp] theorem State.setFrameIndex_portB (s : State) (v : Nat) : (s.setFrameIndex v).portB = s.portB := rfl
@[simp] theorem State.setFrameIndex_selector (s : State) (v : Nat) : (s.setFrameIndex v).selector = s.selector := rfl
@[simp] theorem State.setFrameIndex_deliverer (s : State) (v : Nat) : (s.setFrameIndex v).deliverer = s.deliverer := rfl
@[simp] theorem State.setFrameIndex_link (s : State) (v : Nat) : (s.setFrameIndex v).link = s.link := rfl
@[simp] theorem State.setFrameIndex_clock (s : State) (v : Nat) : (s.setFrameIndex v).clock = s.clock := rfl
@[simp] theorem State.setFrameIndex_sched (s : State) (v : Nat) : (s.setFrameIndex v).sched = s.sched := rfl
@[simp] theorem State.setFrameIndex_receiver (s : State) (v : Nat) : (s.setFrameIndex v).receiver = s.receiver := rfl
@[simp] theorem State.setFrameIndex_desk (s : State) (v : Nat) : (s.setFrameIndex v).desk = s.desk := rfl
@[simp] theorem State.setFrameIndex_stage (s : State) (v : Nat) : (s.setFrameIndex v).stage = s.stage := rfl
@[simp] theorem State.setFrameIndex_board (s : State) (v : Nat) : (s.setFrameIndex v).board = s.board := rfl
@[simp] theorem State.setFrameIndex_scanner (s : State) (v : Nat) : (s.setFrameIndex v).scanner = s.scanner := rfl
@[simp] theorem State.setFrameIndex_ring (s : State) (v : Nat) : (s.setFrameIndex v).ring = s.ring := rfl
@[simp] theorem State.setFrameIndex_status (s : State) (v : Nat) : (s.setFrameIndex v).status = s.status := rfl
@[simp] theorem State.setFrameIndex_regs (s : State) (v : Nat) : (s.setFrameIndex v).regs = s.regs := rfl
@[simp] theorem State.setFrameIndex_output (s : State) (v : Nat) : (s.setFrameIndex v).output = s.output := rfl
@[simp] theorem State.setFrameIndex_pending (s : State) (v : Nat) : (s.setFrameIndex v).pending = s.pending := rfl

@[simp] theorem State.setChannels_role (s : State) (v : List Channel) : (s.setChannels v).role = s.role := rfl
@[simp] theorem State.setChannels_superframe (s : State) (v : List Channel) : (s.setChannels v).superframe = s.superframe := rfl
@[simp] theorem State.setChannels_frameIndex (s : State) (v : List Channel) : (s.setChannels v).frameIndex = s.frameIndex := rfl
@[simp] theorem State.setChannels_channels (s : State) (v : List Channel) : (s.setChannels v).channels = v := rfl
@[simp] theorem State.setChannels_stepperDue (s : State) (v : List Channel) : (s.setChannels v).stepperDue = s.stepperDue := rfl
@[simp] theorem State.setChannels_preamp (s : State) (v : List Channel) : (s.setChannels v).preamp = s.preamp := rfl
@[simp] theorem State.setChannels_mixes (s : State) (v : List Channel) : (s.setChannels v).mixes = s.mixes := rfl
@[simp] theorem State.setChannels_island (s : State) (v : List Channel) : (s.setChannels v).island = s.island := rfl
@[simp] theorem State.setChannels_arbiter (s : State) (v : List Channel) : (s.setChannels v).arbiter = s.arbiter := rfl
@[simp] theorem State.setChannels_button (s : State) (v : List Channel) : (s.setChannels v).button = s.button := rfl
@[simp] theorem State.setChannels_talkSeen (s : State) (v : List Channel) : (s.setChannels v).talkSeen = s.talkSeen := rfl
@[simp] theorem State.setChannels_meters (s : State) (v : List Channel) : (s.setChannels v).meters = s.meters := rfl
@[simp] theorem State.setChannels_portA (s : State) (v : List Channel) : (s.setChannels v).portA = s.portA := rfl
@[simp] theorem State.setChannels_portB (s : State) (v : List Channel) : (s.setChannels v).portB = s.portB := rfl
@[simp] theorem State.setChannels_selector (s : State) (v : List Channel) : (s.setChannels v).selector = s.selector := rfl
@[simp] theorem State.setChannels_deliverer (s : State) (v : List Channel) : (s.setChannels v).deliverer = s.deliverer := rfl
@[simp] theorem State.setChannels_link (s : State) (v : List Channel) : (s.setChannels v).link = s.link := rfl
@[simp] theorem State.setChannels_clock (s : State) (v : List Channel) : (s.setChannels v).clock = s.clock := rfl
@[simp] theorem State.setChannels_sched (s : State) (v : List Channel) : (s.setChannels v).sched = s.sched := rfl
@[simp] theorem State.setChannels_receiver (s : State) (v : List Channel) : (s.setChannels v).receiver = s.receiver := rfl
@[simp] theorem State.setChannels_desk (s : State) (v : List Channel) : (s.setChannels v).desk = s.desk := rfl
@[simp] theorem State.setChannels_stage (s : State) (v : List Channel) : (s.setChannels v).stage = s.stage := rfl
@[simp] theorem State.setChannels_board (s : State) (v : List Channel) : (s.setChannels v).board = s.board := rfl
@[simp] theorem State.setChannels_scanner (s : State) (v : List Channel) : (s.setChannels v).scanner = s.scanner := rfl
@[simp] theorem State.setChannels_ring (s : State) (v : List Channel) : (s.setChannels v).ring = s.ring := rfl
@[simp] theorem State.setChannels_status (s : State) (v : List Channel) : (s.setChannels v).status = s.status := rfl
@[simp] theorem State.setChannels_regs (s : State) (v : List Channel) : (s.setChannels v).regs = s.regs := rfl
@[simp] theorem State.setChannels_output (s : State) (v : List Channel) : (s.setChannels v).output = s.output := rfl
@[simp] theorem State.setChannels_pending (s : State) (v : List Channel) : (s.setChannels v).pending = s.pending := rfl

@[simp] theorem State.setStepperDue_role (s : State) (v : Bool) : (s.setStepperDue v).role = s.role := rfl
@[simp] theorem State.setStepperDue_superframe (s : State) (v : Bool) : (s.setStepperDue v).superframe = s.superframe := rfl
@[simp] theorem State.setStepperDue_frameIndex (s : State) (v : Bool) : (s.setStepperDue v).frameIndex = s.frameIndex := rfl
@[simp] theorem State.setStepperDue_channels (s : State) (v : Bool) : (s.setStepperDue v).channels = s.channels := rfl
@[simp] theorem State.setStepperDue_stepperDue (s : State) (v : Bool) : (s.setStepperDue v).stepperDue = v := rfl
@[simp] theorem State.setStepperDue_preamp (s : State) (v : Bool) : (s.setStepperDue v).preamp = s.preamp := rfl
@[simp] theorem State.setStepperDue_mixes (s : State) (v : Bool) : (s.setStepperDue v).mixes = s.mixes := rfl
@[simp] theorem State.setStepperDue_island (s : State) (v : Bool) : (s.setStepperDue v).island = s.island := rfl
@[simp] theorem State.setStepperDue_arbiter (s : State) (v : Bool) : (s.setStepperDue v).arbiter = s.arbiter := rfl
@[simp] theorem State.setStepperDue_button (s : State) (v : Bool) : (s.setStepperDue v).button = s.button := rfl
@[simp] theorem State.setStepperDue_talkSeen (s : State) (v : Bool) : (s.setStepperDue v).talkSeen = s.talkSeen := rfl
@[simp] theorem State.setStepperDue_meters (s : State) (v : Bool) : (s.setStepperDue v).meters = s.meters := rfl
@[simp] theorem State.setStepperDue_portA (s : State) (v : Bool) : (s.setStepperDue v).portA = s.portA := rfl
@[simp] theorem State.setStepperDue_portB (s : State) (v : Bool) : (s.setStepperDue v).portB = s.portB := rfl
@[simp] theorem State.setStepperDue_selector (s : State) (v : Bool) : (s.setStepperDue v).selector = s.selector := rfl
@[simp] theorem State.setStepperDue_deliverer (s : State) (v : Bool) : (s.setStepperDue v).deliverer = s.deliverer := rfl
@[simp] theorem State.setStepperDue_link (s : State) (v : Bool) : (s.setStepperDue v).link = s.link := rfl
@[simp] theorem State.setStepperDue_clock (s : State) (v : Bool) : (s.setStepperDue v).clock = s.clock := rfl
@[simp] theorem State.setStepperDue_sched (s : State) (v : Bool) : (s.setStepperDue v).sched = s.sched := rfl
@[simp] theorem State.setStepperDue_receiver (s : State) (v : Bool) : (s.setStepperDue v).receiver = s.receiver := rfl
@[simp] theorem State.setStepperDue_desk (s : State) (v : Bool) : (s.setStepperDue v).desk = s.desk := rfl
@[simp] theorem State.setStepperDue_stage (s : State) (v : Bool) : (s.setStepperDue v).stage = s.stage := rfl
@[simp] theorem State.setStepperDue_board (s : State) (v : Bool) : (s.setStepperDue v).board = s.board := rfl
@[simp] theorem State.setStepperDue_scanner (s : State) (v : Bool) : (s.setStepperDue v).scanner = s.scanner := rfl
@[simp] theorem State.setStepperDue_ring (s : State) (v : Bool) : (s.setStepperDue v).ring = s.ring := rfl
@[simp] theorem State.setStepperDue_status (s : State) (v : Bool) : (s.setStepperDue v).status = s.status := rfl
@[simp] theorem State.setStepperDue_regs (s : State) (v : Bool) : (s.setStepperDue v).regs = s.regs := rfl
@[simp] theorem State.setStepperDue_output (s : State) (v : Bool) : (s.setStepperDue v).output = s.output := rfl
@[simp] theorem State.setStepperDue_pending (s : State) (v : Bool) : (s.setStepperDue v).pending = s.pending := rfl

@[simp] theorem State.setPreamp_role (s : State) (v : Preamp) : (s.setPreamp v).role = s.role := rfl
@[simp] theorem State.setPreamp_superframe (s : State) (v : Preamp) : (s.setPreamp v).superframe = s.superframe := rfl
@[simp] theorem State.setPreamp_frameIndex (s : State) (v : Preamp) : (s.setPreamp v).frameIndex = s.frameIndex := rfl
@[simp] theorem State.setPreamp_channels (s : State) (v : Preamp) : (s.setPreamp v).channels = s.channels := rfl
@[simp] theorem State.setPreamp_stepperDue (s : State) (v : Preamp) : (s.setPreamp v).stepperDue = s.stepperDue := rfl
@[simp] theorem State.setPreamp_preamp (s : State) (v : Preamp) : (s.setPreamp v).preamp = v := rfl
@[simp] theorem State.setPreamp_mixes (s : State) (v : Preamp) : (s.setPreamp v).mixes = s.mixes := rfl
@[simp] theorem State.setPreamp_island (s : State) (v : Preamp) : (s.setPreamp v).island = s.island := rfl
@[simp] theorem State.setPreamp_arbiter (s : State) (v : Preamp) : (s.setPreamp v).arbiter = s.arbiter := rfl
@[simp] theorem State.setPreamp_button (s : State) (v : Preamp) : (s.setPreamp v).button = s.button := rfl
@[simp] theorem State.setPreamp_talkSeen (s : State) (v : Preamp) : (s.setPreamp v).talkSeen = s.talkSeen := rfl
@[simp] theorem State.setPreamp_meters (s : State) (v : Preamp) : (s.setPreamp v).meters = s.meters := rfl
@[simp] theorem State.setPreamp_portA (s : State) (v : Preamp) : (s.setPreamp v).portA = s.portA := rfl
@[simp] theorem State.setPreamp_portB (s : State) (v : Preamp) : (s.setPreamp v).portB = s.portB := rfl
@[simp] theorem State.setPreamp_selector (s : State) (v : Preamp) : (s.setPreamp v).selector = s.selector := rfl
@[simp] theorem State.setPreamp_deliverer (s : State) (v : Preamp) : (s.setPreamp v).deliverer = s.deliverer := rfl
@[simp] theorem State.setPreamp_link (s : State) (v : Preamp) : (s.setPreamp v).link = s.link := rfl
@[simp] theorem State.setPreamp_clock (s : State) (v : Preamp) : (s.setPreamp v).clock = s.clock := rfl
@[simp] theorem State.setPreamp_sched (s : State) (v : Preamp) : (s.setPreamp v).sched = s.sched := rfl
@[simp] theorem State.setPreamp_receiver (s : State) (v : Preamp) : (s.setPreamp v).receiver = s.receiver := rfl
@[simp] theorem State.setPreamp_desk (s : State) (v : Preamp) : (s.setPreamp v).desk = s.desk := rfl
@[simp] theorem State.setPreamp_stage (s : State) (v : Preamp) : (s.setPreamp v).stage = s.stage := rfl
@[simp] theorem State.setPreamp_board (s : State) (v : Preamp) : (s.setPreamp v).board = s.board := rfl
@[simp] theorem State.setPreamp_scanner (s : State) (v : Preamp) : (s.setPreamp v).scanner = s.scanner := rfl
@[simp] theorem State.setPreamp_ring (s : State) (v : Preamp) : (s.setPreamp v).ring = s.ring := rfl
@[simp] theorem State.setPreamp_status (s : State) (v : Preamp) : (s.setPreamp v).status = s.status := rfl
@[simp] theorem State.setPreamp_regs (s : State) (v : Preamp) : (s.setPreamp v).regs = s.regs := rfl
@[simp] theorem State.setPreamp_output (s : State) (v : Preamp) : (s.setPreamp v).output = s.output := rfl
@[simp] theorem State.setPreamp_pending (s : State) (v : Preamp) : (s.setPreamp v).pending = s.pending := rfl

@[simp] theorem State.setMixes_role (s : State) (v : List Mix) : (s.setMixes v).role = s.role := rfl
@[simp] theorem State.setMixes_superframe (s : State) (v : List Mix) : (s.setMixes v).superframe = s.superframe := rfl
@[simp] theorem State.setMixes_frameIndex (s : State) (v : List Mix) : (s.setMixes v).frameIndex = s.frameIndex := rfl
@[simp] theorem State.setMixes_channels (s : State) (v : List Mix) : (s.setMixes v).channels = s.channels := rfl
@[simp] theorem State.setMixes_stepperDue (s : State) (v : List Mix) : (s.setMixes v).stepperDue = s.stepperDue := rfl
@[simp] theorem State.setMixes_preamp (s : State) (v : List Mix) : (s.setMixes v).preamp = s.preamp := rfl
@[simp] theorem State.setMixes_mixes (s : State) (v : List Mix) : (s.setMixes v).mixes = v := rfl
@[simp] theorem State.setMixes_island (s : State) (v : List Mix) : (s.setMixes v).island = s.island := rfl
@[simp] theorem State.setMixes_arbiter (s : State) (v : List Mix) : (s.setMixes v).arbiter = s.arbiter := rfl
@[simp] theorem State.setMixes_button (s : State) (v : List Mix) : (s.setMixes v).button = s.button := rfl
@[simp] theorem State.setMixes_talkSeen (s : State) (v : List Mix) : (s.setMixes v).talkSeen = s.talkSeen := rfl
@[simp] theorem State.setMixes_meters (s : State) (v : List Mix) : (s.setMixes v).meters = s.meters := rfl
@[simp] theorem State.setMixes_portA (s : State) (v : List Mix) : (s.setMixes v).portA = s.portA := rfl
@[simp] theorem State.setMixes_portB (s : State) (v : List Mix) : (s.setMixes v).portB = s.portB := rfl
@[simp] theorem State.setMixes_selector (s : State) (v : List Mix) : (s.setMixes v).selector = s.selector := rfl
@[simp] theorem State.setMixes_deliverer (s : State) (v : List Mix) : (s.setMixes v).deliverer = s.deliverer := rfl
@[simp] theorem State.setMixes_link (s : State) (v : List Mix) : (s.setMixes v).link = s.link := rfl
@[simp] theorem State.setMixes_clock (s : State) (v : List Mix) : (s.setMixes v).clock = s.clock := rfl
@[simp] theorem State.setMixes_sched (s : State) (v : List Mix) : (s.setMixes v).sched = s.sched := rfl
@[simp] theorem State.setMixes_receiver (s : State) (v : List Mix) : (s.setMixes v).receiver = s.receiver := rfl
@[simp] theorem State.setMixes_desk (s : State) (v : List Mix) : (s.setMixes v).desk = s.desk := rfl
@[simp] theorem State.setMixes_stage (s : State) (v : List Mix) : (s.setMixes v).stage = s.stage := rfl
@[simp] theorem State.setMixes_board (s : State) (v : List Mix) : (s.setMixes v).board = s.board := rfl
@[simp] theorem State.setMixes_scanner (s : State) (v : List Mix) : (s.setMixes v).scanner = s.scanner := rfl
@[simp] theorem State.setMixes_ring (s : State) (v : List Mix) : (s.setMixes v).ring = s.ring := rfl
@[simp] theorem State.setMixes_status (s : State) (v : List Mix) : (s.setMixes v).status = s.status := rfl
@[simp] theorem State.setMixes_regs (s : State) (v : List Mix) : (s.setMixes v).regs = s.regs := rfl
@[simp] theorem State.setMixes_output (s : State) (v : List Mix) : (s.setMixes v).output = s.output := rfl
@[simp] theorem State.setMixes_pending (s : State) (v : List Mix) : (s.setMixes v).pending = s.pending := rfl

@[simp] theorem State.setIsland_role (s : State) (v : Island) : (s.setIsland v).role = s.role := rfl
@[simp] theorem State.setIsland_superframe (s : State) (v : Island) : (s.setIsland v).superframe = s.superframe := rfl
@[simp] theorem State.setIsland_frameIndex (s : State) (v : Island) : (s.setIsland v).frameIndex = s.frameIndex := rfl
@[simp] theorem State.setIsland_channels (s : State) (v : Island) : (s.setIsland v).channels = s.channels := rfl
@[simp] theorem State.setIsland_stepperDue (s : State) (v : Island) : (s.setIsland v).stepperDue = s.stepperDue := rfl
@[simp] theorem State.setIsland_preamp (s : State) (v : Island) : (s.setIsland v).preamp = s.preamp := rfl
@[simp] theorem State.setIsland_mixes (s : State) (v : Island) : (s.setIsland v).mixes = s.mixes := rfl
@[simp] theorem State.setIsland_island (s : State) (v : Island) : (s.setIsland v).island = v := rfl
@[simp] theorem State.setIsland_arbiter (s : State) (v : Island) : (s.setIsland v).arbiter = s.arbiter := rfl
@[simp] theorem State.setIsland_button (s : State) (v : Island) : (s.setIsland v).button = s.button := rfl
@[simp] theorem State.setIsland_talkSeen (s : State) (v : Island) : (s.setIsland v).talkSeen = s.talkSeen := rfl
@[simp] theorem State.setIsland_meters (s : State) (v : Island) : (s.setIsland v).meters = s.meters := rfl
@[simp] theorem State.setIsland_portA (s : State) (v : Island) : (s.setIsland v).portA = s.portA := rfl
@[simp] theorem State.setIsland_portB (s : State) (v : Island) : (s.setIsland v).portB = s.portB := rfl
@[simp] theorem State.setIsland_selector (s : State) (v : Island) : (s.setIsland v).selector = s.selector := rfl
@[simp] theorem State.setIsland_deliverer (s : State) (v : Island) : (s.setIsland v).deliverer = s.deliverer := rfl
@[simp] theorem State.setIsland_link (s : State) (v : Island) : (s.setIsland v).link = s.link := rfl
@[simp] theorem State.setIsland_clock (s : State) (v : Island) : (s.setIsland v).clock = s.clock := rfl
@[simp] theorem State.setIsland_sched (s : State) (v : Island) : (s.setIsland v).sched = s.sched := rfl
@[simp] theorem State.setIsland_receiver (s : State) (v : Island) : (s.setIsland v).receiver = s.receiver := rfl
@[simp] theorem State.setIsland_desk (s : State) (v : Island) : (s.setIsland v).desk = s.desk := rfl
@[simp] theorem State.setIsland_stage (s : State) (v : Island) : (s.setIsland v).stage = s.stage := rfl
@[simp] theorem State.setIsland_board (s : State) (v : Island) : (s.setIsland v).board = s.board := rfl
@[simp] theorem State.setIsland_scanner (s : State) (v : Island) : (s.setIsland v).scanner = s.scanner := rfl
@[simp] theorem State.setIsland_ring (s : State) (v : Island) : (s.setIsland v).ring = s.ring := rfl
@[simp] theorem State.setIsland_status (s : State) (v : Island) : (s.setIsland v).status = s.status := rfl
@[simp] theorem State.setIsland_regs (s : State) (v : Island) : (s.setIsland v).regs = s.regs := rfl
@[simp] theorem State.setIsland_output (s : State) (v : Island) : (s.setIsland v).output = s.output := rfl
@[simp] theorem State.setIsland_pending (s : State) (v : Island) : (s.setIsland v).pending = s.pending := rfl

@[simp] theorem State.setArbiter_role (s : State) (v : Arbiter) : (s.setArbiter v).role = s.role := rfl
@[simp] theorem State.setArbiter_superframe (s : State) (v : Arbiter) : (s.setArbiter v).superframe = s.superframe := rfl
@[simp] theorem State.setArbiter_frameIndex (s : State) (v : Arbiter) : (s.setArbiter v).frameIndex = s.frameIndex := rfl
@[simp] theorem State.setArbiter_channels (s : State) (v : Arbiter) : (s.setArbiter v).channels = s.channels := rfl
@[simp] theorem State.setArbiter_stepperDue (s : State) (v : Arbiter) : (s.setArbiter v).stepperDue = s.stepperDue := rfl
@[simp] theorem State.setArbiter_preamp (s : State) (v : Arbiter) : (s.setArbiter v).preamp = s.preamp := rfl
@[simp] theorem State.setArbiter_mixes (s : State) (v : Arbiter) : (s.setArbiter v).mixes = s.mixes := rfl
@[simp] theorem State.setArbiter_island (s : State) (v : Arbiter) : (s.setArbiter v).island = s.island := rfl
@[simp] theorem State.setArbiter_arbiter (s : State) (v : Arbiter) : (s.setArbiter v).arbiter = v := rfl
@[simp] theorem State.setArbiter_button (s : State) (v : Arbiter) : (s.setArbiter v).button = s.button := rfl
@[simp] theorem State.setArbiter_talkSeen (s : State) (v : Arbiter) : (s.setArbiter v).talkSeen = s.talkSeen := rfl
@[simp] theorem State.setArbiter_meters (s : State) (v : Arbiter) : (s.setArbiter v).meters = s.meters := rfl
@[simp] theorem State.setArbiter_portA (s : State) (v : Arbiter) : (s.setArbiter v).portA = s.portA := rfl
@[simp] theorem State.setArbiter_portB (s : State) (v : Arbiter) : (s.setArbiter v).portB = s.portB := rfl
@[simp] theorem State.setArbiter_selector (s : State) (v : Arbiter) : (s.setArbiter v).selector = s.selector := rfl
@[simp] theorem State.setArbiter_deliverer (s : State) (v : Arbiter) : (s.setArbiter v).deliverer = s.deliverer := rfl
@[simp] theorem State.setArbiter_link (s : State) (v : Arbiter) : (s.setArbiter v).link = s.link := rfl
@[simp] theorem State.setArbiter_clock (s : State) (v : Arbiter) : (s.setArbiter v).clock = s.clock := rfl
@[simp] theorem State.setArbiter_sched (s : State) (v : Arbiter) : (s.setArbiter v).sched = s.sched := rfl
@[simp] theorem State.setArbiter_receiver (s : State) (v : Arbiter) : (s.setArbiter v).receiver = s.receiver := rfl
@[simp] theorem State.setArbiter_desk (s : State) (v : Arbiter) : (s.setArbiter v).desk = s.desk := rfl
@[simp] theorem State.setArbiter_stage (s : State) (v : Arbiter) : (s.setArbiter v).stage = s.stage := rfl
@[simp] theorem State.setArbiter_board (s : State) (v : Arbiter) : (s.setArbiter v).board = s.board := rfl
@[simp] theorem State.setArbiter_scanner (s : State) (v : Arbiter) : (s.setArbiter v).scanner = s.scanner := rfl
@[simp] theorem State.setArbiter_ring (s : State) (v : Arbiter) : (s.setArbiter v).ring = s.ring := rfl
@[simp] theorem State.setArbiter_status (s : State) (v : Arbiter) : (s.setArbiter v).status = s.status := rfl
@[simp] theorem State.setArbiter_regs (s : State) (v : Arbiter) : (s.setArbiter v).regs = s.regs := rfl
@[simp] theorem State.setArbiter_output (s : State) (v : Arbiter) : (s.setArbiter v).output = s.output := rfl
@[simp] theorem State.setArbiter_pending (s : State) (v : Arbiter) : (s.setArbiter v).pending = s.pending := rfl

@[simp] theorem State.setButton_role (s : State) (v : Button) : (s.setButton v).role = s.role := rfl
@[simp] theorem State.setButton_superframe (s : State) (v : Button) : (s.setButton v).superframe = s.superframe := rfl
@[simp] theorem State.setButton_frameIndex (s : State) (v : Button) : (s.setButton v).frameIndex = s.frameIndex := rfl
@[simp] theorem State.setButton_channels (s : State) (v : Button) : (s.setButton v).channels = s.channels := rfl
@[simp] theorem State.setButton_stepperDue (s : State) (v : Button) : (s.setButton v).stepperDue = s.stepperDue := rfl
@[simp] theorem State.setButton_preamp (s : State) (v : Button) : (s.setButton v).preamp = s.preamp := rfl
@[simp] theorem State.setButton_mixes (s : State) (v : Button) : (s.setButton v).mixes = s.mixes := rfl
@[simp] theorem State.setButton_island (s : State) (v : Button) : (s.setButton v).island = s.island := rfl
@[simp] theorem State.setButton_arbiter (s : State) (v : Button) : (s.setButton v).arbiter = s.arbiter := rfl
@[simp] theorem State.setButton_button (s : State) (v : Button) : (s.setButton v).button = v := rfl
@[simp] theorem State.setButton_talkSeen (s : State) (v : Button) : (s.setButton v).talkSeen = s.talkSeen := rfl
@[simp] theorem State.setButton_meters (s : State) (v : Button) : (s.setButton v).meters = s.meters := rfl
@[simp] theorem State.setButton_portA (s : State) (v : Button) : (s.setButton v).portA = s.portA := rfl
@[simp] theorem State.setButton_portB (s : State) (v : Button) : (s.setButton v).portB = s.portB := rfl
@[simp] theorem State.setButton_selector (s : State) (v : Button) : (s.setButton v).selector = s.selector := rfl
@[simp] theorem State.setButton_deliverer (s : State) (v : Button) : (s.setButton v).deliverer = s.deliverer := rfl
@[simp] theorem State.setButton_link (s : State) (v : Button) : (s.setButton v).link = s.link := rfl
@[simp] theorem State.setButton_clock (s : State) (v : Button) : (s.setButton v).clock = s.clock := rfl
@[simp] theorem State.setButton_sched (s : State) (v : Button) : (s.setButton v).sched = s.sched := rfl
@[simp] theorem State.setButton_receiver (s : State) (v : Button) : (s.setButton v).receiver = s.receiver := rfl
@[simp] theorem State.setButton_desk (s : State) (v : Button) : (s.setButton v).desk = s.desk := rfl
@[simp] theorem State.setButton_stage (s : State) (v : Button) : (s.setButton v).stage = s.stage := rfl
@[simp] theorem State.setButton_board (s : State) (v : Button) : (s.setButton v).board = s.board := rfl
@[simp] theorem State.setButton_scanner (s : State) (v : Button) : (s.setButton v).scanner = s.scanner := rfl
@[simp] theorem State.setButton_ring (s : State) (v : Button) : (s.setButton v).ring = s.ring := rfl
@[simp] theorem State.setButton_status (s : State) (v : Button) : (s.setButton v).status = s.status := rfl
@[simp] theorem State.setButton_regs (s : State) (v : Button) : (s.setButton v).regs = s.regs := rfl
@[simp] theorem State.setButton_output (s : State) (v : Button) : (s.setButton v).output = s.output := rfl
@[simp] theorem State.setButton_pending (s : State) (v : Button) : (s.setButton v).pending = s.pending := rfl

@[simp] theorem State.setTalkSeen_role (s : State) (v : Bool) : (s.setTalkSeen v).role = s.role := rfl
@[simp] theorem State.setTalkSeen_superframe (s : State) (v : Bool) : (s.setTalkSeen v).superframe = s.superframe := rfl
@[simp] theorem State.setTalkSeen_frameIndex (s : State) (v : Bool) : (s.setTalkSeen v).frameIndex = s.frameIndex := rfl
@[simp] theorem State.setTalkSeen_channels (s : State) (v : Bool) : (s.setTalkSeen v).channels = s.channels := rfl
@[simp] theorem State.setTalkSeen_stepperDue (s : State) (v : Bool) : (s.setTalkSeen v).stepperDue = s.stepperDue := rfl
@[simp] theorem State.setTalkSeen_preamp (s : State) (v : Bool) : (s.setTalkSeen v).preamp = s.preamp := rfl
@[simp] theorem State.setTalkSeen_mixes (s : State) (v : Bool) : (s.setTalkSeen v).mixes = s.mixes := rfl
@[simp] theorem State.setTalkSeen_island (s : State) (v : Bool) : (s.setTalkSeen v).island = s.island := rfl
@[simp] theorem State.setTalkSeen_arbiter (s : State) (v : Bool) : (s.setTalkSeen v).arbiter = s.arbiter := rfl
@[simp] theorem State.setTalkSeen_button (s : State) (v : Bool) : (s.setTalkSeen v).button = s.button := rfl
@[simp] theorem State.setTalkSeen_talkSeen (s : State) (v : Bool) : (s.setTalkSeen v).talkSeen = v := rfl
@[simp] theorem State.setTalkSeen_meters (s : State) (v : Bool) : (s.setTalkSeen v).meters = s.meters := rfl
@[simp] theorem State.setTalkSeen_portA (s : State) (v : Bool) : (s.setTalkSeen v).portA = s.portA := rfl
@[simp] theorem State.setTalkSeen_portB (s : State) (v : Bool) : (s.setTalkSeen v).portB = s.portB := rfl
@[simp] theorem State.setTalkSeen_selector (s : State) (v : Bool) : (s.setTalkSeen v).selector = s.selector := rfl
@[simp] theorem State.setTalkSeen_deliverer (s : State) (v : Bool) : (s.setTalkSeen v).deliverer = s.deliverer := rfl
@[simp] theorem State.setTalkSeen_link (s : State) (v : Bool) : (s.setTalkSeen v).link = s.link := rfl
@[simp] theorem State.setTalkSeen_clock (s : State) (v : Bool) : (s.setTalkSeen v).clock = s.clock := rfl
@[simp] theorem State.setTalkSeen_sched (s : State) (v : Bool) : (s.setTalkSeen v).sched = s.sched := rfl
@[simp] theorem State.setTalkSeen_receiver (s : State) (v : Bool) : (s.setTalkSeen v).receiver = s.receiver := rfl
@[simp] theorem State.setTalkSeen_desk (s : State) (v : Bool) : (s.setTalkSeen v).desk = s.desk := rfl
@[simp] theorem State.setTalkSeen_stage (s : State) (v : Bool) : (s.setTalkSeen v).stage = s.stage := rfl
@[simp] theorem State.setTalkSeen_board (s : State) (v : Bool) : (s.setTalkSeen v).board = s.board := rfl
@[simp] theorem State.setTalkSeen_scanner (s : State) (v : Bool) : (s.setTalkSeen v).scanner = s.scanner := rfl
@[simp] theorem State.setTalkSeen_ring (s : State) (v : Bool) : (s.setTalkSeen v).ring = s.ring := rfl
@[simp] theorem State.setTalkSeen_status (s : State) (v : Bool) : (s.setTalkSeen v).status = s.status := rfl
@[simp] theorem State.setTalkSeen_regs (s : State) (v : Bool) : (s.setTalkSeen v).regs = s.regs := rfl
@[simp] theorem State.setTalkSeen_output (s : State) (v : Bool) : (s.setTalkSeen v).output = s.output := rfl
@[simp] theorem State.setTalkSeen_pending (s : State) (v : Bool) : (s.setTalkSeen v).pending = s.pending := rfl

@[simp] theorem State.setMeters_role (s : State) (v : Meters) : (s.setMeters v).role = s.role := rfl
@[simp] theorem State.setMeters_superframe (s : State) (v : Meters) : (s.setMeters v).superframe = s.superframe := rfl
@[simp] theorem State.setMeters_frameIndex (s : State) (v : Meters) : (s.setMeters v).frameIndex = s.frameIndex := rfl
@[simp] theorem State.setMeters_channels (s : State) (v : Meters) : (s.setMeters v).channels = s.channels := rfl
@[simp] theorem State.setMeters_stepperDue (s : State) (v : Meters) : (s.setMeters v).stepperDue = s.stepperDue := rfl
@[simp] theorem State.setMeters_preamp (s : State) (v : Meters) : (s.setMeters v).preamp = s.preamp := rfl
@[simp] theorem State.setMeters_mixes (s : State) (v : Meters) : (s.setMeters v).mixes = s.mixes := rfl
@[simp] theorem State.setMeters_island (s : State) (v : Meters) : (s.setMeters v).island = s.island := rfl
@[simp] theorem State.setMeters_arbiter (s : State) (v : Meters) : (s.setMeters v).arbiter = s.arbiter := rfl
@[simp] theorem State.setMeters_button (s : State) (v : Meters) : (s.setMeters v).button = s.button := rfl
@[simp] theorem State.setMeters_talkSeen (s : State) (v : Meters) : (s.setMeters v).talkSeen = s.talkSeen := rfl
@[simp] theorem State.setMeters_meters (s : State) (v : Meters) : (s.setMeters v).meters = v := rfl
@[simp] theorem State.setMeters_portA (s : State) (v : Meters) : (s.setMeters v).portA = s.portA := rfl
@[simp] theorem State.setMeters_portB (s : State) (v : Meters) : (s.setMeters v).portB = s.portB := rfl
@[simp] theorem State.setMeters_selector (s : State) (v : Meters) : (s.setMeters v).selector = s.selector := rfl
@[simp] theorem State.setMeters_deliverer (s : State) (v : Meters) : (s.setMeters v).deliverer = s.deliverer := rfl
@[simp] theorem State.setMeters_link (s : State) (v : Meters) : (s.setMeters v).link = s.link := rfl
@[simp] theorem State.setMeters_clock (s : State) (v : Meters) : (s.setMeters v).clock = s.clock := rfl
@[simp] theorem State.setMeters_sched (s : State) (v : Meters) : (s.setMeters v).sched = s.sched := rfl
@[simp] theorem State.setMeters_receiver (s : State) (v : Meters) : (s.setMeters v).receiver = s.receiver := rfl
@[simp] theorem State.setMeters_desk (s : State) (v : Meters) : (s.setMeters v).desk = s.desk := rfl
@[simp] theorem State.setMeters_stage (s : State) (v : Meters) : (s.setMeters v).stage = s.stage := rfl
@[simp] theorem State.setMeters_board (s : State) (v : Meters) : (s.setMeters v).board = s.board := rfl
@[simp] theorem State.setMeters_scanner (s : State) (v : Meters) : (s.setMeters v).scanner = s.scanner := rfl
@[simp] theorem State.setMeters_ring (s : State) (v : Meters) : (s.setMeters v).ring = s.ring := rfl
@[simp] theorem State.setMeters_status (s : State) (v : Meters) : (s.setMeters v).status = s.status := rfl
@[simp] theorem State.setMeters_regs (s : State) (v : Meters) : (s.setMeters v).regs = s.regs := rfl
@[simp] theorem State.setMeters_output (s : State) (v : Meters) : (s.setMeters v).output = s.output := rfl
@[simp] theorem State.setMeters_pending (s : State) (v : Meters) : (s.setMeters v).pending = s.pending := rfl

@[simp] theorem State.setPortA_role (s : State) (v : Port) : (s.setPortA v).role = s.role := rfl
@[simp] theorem State.setPortA_superframe (s : State) (v : Port) : (s.setPortA v).superframe = s.superframe := rfl
@[simp] theorem State.setPortA_frameIndex (s : State) (v : Port) : (s.setPortA v).frameIndex = s.frameIndex := rfl
@[simp] theorem State.setPortA_channels (s : State) (v : Port) : (s.setPortA v).channels = s.channels := rfl
@[simp] theorem State.setPortA_stepperDue (s : State) (v : Port) : (s.setPortA v).stepperDue = s.stepperDue := rfl
@[simp] theorem State.setPortA_preamp (s : State) (v : Port) : (s.setPortA v).preamp = s.preamp := rfl
@[simp] theorem State.setPortA_mixes (s : State) (v : Port) : (s.setPortA v).mixes = s.mixes := rfl
@[simp] theorem State.setPortA_island (s : State) (v : Port) : (s.setPortA v).island = s.island := rfl
@[simp] theorem State.setPortA_arbiter (s : State) (v : Port) : (s.setPortA v).arbiter = s.arbiter := rfl
@[simp] theorem State.setPortA_button (s : State) (v : Port) : (s.setPortA v).button = s.button := rfl
@[simp] theorem State.setPortA_talkSeen (s : State) (v : Port) : (s.setPortA v).talkSeen = s.talkSeen := rfl
@[simp] theorem State.setPortA_meters (s : State) (v : Port) : (s.setPortA v).meters = s.meters := rfl
@[simp] theorem State.setPortA_portA (s : State) (v : Port) : (s.setPortA v).portA = v := rfl
@[simp] theorem State.setPortA_portB (s : State) (v : Port) : (s.setPortA v).portB = s.portB := rfl
@[simp] theorem State.setPortA_selector (s : State) (v : Port) : (s.setPortA v).selector = s.selector := rfl
@[simp] theorem State.setPortA_deliverer (s : State) (v : Port) : (s.setPortA v).deliverer = s.deliverer := rfl
@[simp] theorem State.setPortA_link (s : State) (v : Port) : (s.setPortA v).link = s.link := rfl
@[simp] theorem State.setPortA_clock (s : State) (v : Port) : (s.setPortA v).clock = s.clock := rfl
@[simp] theorem State.setPortA_sched (s : State) (v : Port) : (s.setPortA v).sched = s.sched := rfl
@[simp] theorem State.setPortA_receiver (s : State) (v : Port) : (s.setPortA v).receiver = s.receiver := rfl
@[simp] theorem State.setPortA_desk (s : State) (v : Port) : (s.setPortA v).desk = s.desk := rfl
@[simp] theorem State.setPortA_stage (s : State) (v : Port) : (s.setPortA v).stage = s.stage := rfl
@[simp] theorem State.setPortA_board (s : State) (v : Port) : (s.setPortA v).board = s.board := rfl
@[simp] theorem State.setPortA_scanner (s : State) (v : Port) : (s.setPortA v).scanner = s.scanner := rfl
@[simp] theorem State.setPortA_ring (s : State) (v : Port) : (s.setPortA v).ring = s.ring := rfl
@[simp] theorem State.setPortA_status (s : State) (v : Port) : (s.setPortA v).status = s.status := rfl
@[simp] theorem State.setPortA_regs (s : State) (v : Port) : (s.setPortA v).regs = s.regs := rfl
@[simp] theorem State.setPortA_output (s : State) (v : Port) : (s.setPortA v).output = s.output := rfl
@[simp] theorem State.setPortA_pending (s : State) (v : Port) : (s.setPortA v).pending = s.pending := rfl

@[simp] theorem State.setPortB_role (s : State) (v : Port) : (s.setPortB v).role = s.role := rfl
@[simp] theorem State.setPortB_superframe (s : State) (v : Port) : (s.setPortB v).superframe = s.superframe := rfl
@[simp] theorem State.setPortB_frameIndex (s : State) (v : Port) : (s.setPortB v).frameIndex = s.frameIndex := rfl
@[simp] theorem State.setPortB_channels (s : State) (v : Port) : (s.setPortB v).channels = s.channels := rfl
@[simp] theorem State.setPortB_stepperDue (s : State) (v : Port) : (s.setPortB v).stepperDue = s.stepperDue := rfl
@[simp] theorem State.setPortB_preamp (s : State) (v : Port) : (s.setPortB v).preamp = s.preamp := rfl
@[simp] theorem State.setPortB_mixes (s : State) (v : Port) : (s.setPortB v).mixes = s.mixes := rfl
@[simp] theorem State.setPortB_island (s : State) (v : Port) : (s.setPortB v).island = s.island := rfl
@[simp] theorem State.setPortB_arbiter (s : State) (v : Port) : (s.setPortB v).arbiter = s.arbiter := rfl
@[simp] theorem State.setPortB_button (s : State) (v : Port) : (s.setPortB v).button = s.button := rfl
@[simp] theorem State.setPortB_talkSeen (s : State) (v : Port) : (s.setPortB v).talkSeen = s.talkSeen := rfl
@[simp] theorem State.setPortB_meters (s : State) (v : Port) : (s.setPortB v).meters = s.meters := rfl
@[simp] theorem State.setPortB_portA (s : State) (v : Port) : (s.setPortB v).portA = s.portA := rfl
@[simp] theorem State.setPortB_portB (s : State) (v : Port) : (s.setPortB v).portB = v := rfl
@[simp] theorem State.setPortB_selector (s : State) (v : Port) : (s.setPortB v).selector = s.selector := rfl
@[simp] theorem State.setPortB_deliverer (s : State) (v : Port) : (s.setPortB v).deliverer = s.deliverer := rfl
@[simp] theorem State.setPortB_link (s : State) (v : Port) : (s.setPortB v).link = s.link := rfl
@[simp] theorem State.setPortB_clock (s : State) (v : Port) : (s.setPortB v).clock = s.clock := rfl
@[simp] theorem State.setPortB_sched (s : State) (v : Port) : (s.setPortB v).sched = s.sched := rfl
@[simp] theorem State.setPortB_receiver (s : State) (v : Port) : (s.setPortB v).receiver = s.receiver := rfl
@[simp] theorem State.setPortB_desk (s : State) (v : Port) : (s.setPortB v).desk = s.desk := rfl
@[simp] theorem State.setPortB_stage (s : State) (v : Port) : (s.setPortB v).stage = s.stage := rfl
@[simp] theorem State.setPortB_board (s : State) (v : Port) : (s.setPortB v).board = s.board := rfl
@[simp] theorem State.setPortB_scanner (s : State) (v : Port) : (s.setPortB v).scanner = s.scanner := rfl
@[simp] theorem State.setPortB_ring (s : State) (v : Port) : (s.setPortB v).ring = s.ring := rfl
@[simp] theorem State.setPortB_status (s : State) (v : Port) : (s.setPortB v).status = s.status := rfl
@[simp] theorem State.setPortB_regs (s : State) (v : Port) : (s.setPortB v).regs = s.regs := rfl
@[simp] theorem State.setPortB_output (s : State) (v : Port) : (s.setPortB v).output = s.output := rfl
@[simp] theorem State.setPortB_pending (s : State) (v : Port) : (s.setPortB v).pending = s.pending := rfl

@[simp] theorem State.setSelector_role (s : State) (v : Selector) : (s.setSelector v).role = s.role := rfl
@[simp] theorem State.setSelector_superframe (s : State) (v : Selector) : (s.setSelector v).superframe = s.superframe := rfl
@[simp] theorem State.setSelector_frameIndex (s : State) (v : Selector) : (s.setSelector v).frameIndex = s.frameIndex := rfl
@[simp] theorem State.setSelector_channels (s : State) (v : Selector) : (s.setSelector v).channels = s.channels := rfl
@[simp] theorem State.setSelector_stepperDue (s : State) (v : Selector) : (s.setSelector v).stepperDue = s.stepperDue := rfl
@[simp] theorem State.setSelector_preamp (s : State) (v : Selector) : (s.setSelector v).preamp = s.preamp := rfl
@[simp] theorem State.setSelector_mixes (s : State) (v : Selector) : (s.setSelector v).mixes = s.mixes := rfl
@[simp] theorem State.setSelector_island (s : State) (v : Selector) : (s.setSelector v).island = s.island := rfl
@[simp] theorem State.setSelector_arbiter (s : State) (v : Selector) : (s.setSelector v).arbiter = s.arbiter := rfl
@[simp] theorem State.setSelector_button (s : State) (v : Selector) : (s.setSelector v).button = s.button := rfl
@[simp] theorem State.setSelector_talkSeen (s : State) (v : Selector) : (s.setSelector v).talkSeen = s.talkSeen := rfl
@[simp] theorem State.setSelector_meters (s : State) (v : Selector) : (s.setSelector v).meters = s.meters := rfl
@[simp] theorem State.setSelector_portA (s : State) (v : Selector) : (s.setSelector v).portA = s.portA := rfl
@[simp] theorem State.setSelector_portB (s : State) (v : Selector) : (s.setSelector v).portB = s.portB := rfl
@[simp] theorem State.setSelector_selector (s : State) (v : Selector) : (s.setSelector v).selector = v := rfl
@[simp] theorem State.setSelector_deliverer (s : State) (v : Selector) : (s.setSelector v).deliverer = s.deliverer := rfl
@[simp] theorem State.setSelector_link (s : State) (v : Selector) : (s.setSelector v).link = s.link := rfl
@[simp] theorem State.setSelector_clock (s : State) (v : Selector) : (s.setSelector v).clock = s.clock := rfl
@[simp] theorem State.setSelector_sched (s : State) (v : Selector) : (s.setSelector v).sched = s.sched := rfl
@[simp] theorem State.setSelector_receiver (s : State) (v : Selector) : (s.setSelector v).receiver = s.receiver := rfl
@[simp] theorem State.setSelector_desk (s : State) (v : Selector) : (s.setSelector v).desk = s.desk := rfl
@[simp] theorem State.setSelector_stage (s : State) (v : Selector) : (s.setSelector v).stage = s.stage := rfl
@[simp] theorem State.setSelector_board (s : State) (v : Selector) : (s.setSelector v).board = s.board := rfl
@[simp] theorem State.setSelector_scanner (s : State) (v : Selector) : (s.setSelector v).scanner = s.scanner := rfl
@[simp] theorem State.setSelector_ring (s : State) (v : Selector) : (s.setSelector v).ring = s.ring := rfl
@[simp] theorem State.setSelector_status (s : State) (v : Selector) : (s.setSelector v).status = s.status := rfl
@[simp] theorem State.setSelector_regs (s : State) (v : Selector) : (s.setSelector v).regs = s.regs := rfl
@[simp] theorem State.setSelector_output (s : State) (v : Selector) : (s.setSelector v).output = s.output := rfl
@[simp] theorem State.setSelector_pending (s : State) (v : Selector) : (s.setSelector v).pending = s.pending := rfl

@[simp] theorem State.setDeliverer_role (s : State) (v : Deliverer) : (s.setDeliverer v).role = s.role := rfl
@[simp] theorem State.setDeliverer_superframe (s : State) (v : Deliverer) : (s.setDeliverer v).superframe = s.superframe := rfl
@[simp] theorem State.setDeliverer_frameIndex (s : State) (v : Deliverer) : (s.setDeliverer v).frameIndex = s.frameIndex := rfl
@[simp] theorem State.setDeliverer_channels (s : State) (v : Deliverer) : (s.setDeliverer v).channels = s.channels := rfl
@[simp] theorem State.setDeliverer_stepperDue (s : State) (v : Deliverer) : (s.setDeliverer v).stepperDue = s.stepperDue := rfl
@[simp] theorem State.setDeliverer_preamp (s : State) (v : Deliverer) : (s.setDeliverer v).preamp = s.preamp := rfl
@[simp] theorem State.setDeliverer_mixes (s : State) (v : Deliverer) : (s.setDeliverer v).mixes = s.mixes := rfl
@[simp] theorem State.setDeliverer_island (s : State) (v : Deliverer) : (s.setDeliverer v).island = s.island := rfl
@[simp] theorem State.setDeliverer_arbiter (s : State) (v : Deliverer) : (s.setDeliverer v).arbiter = s.arbiter := rfl
@[simp] theorem State.setDeliverer_button (s : State) (v : Deliverer) : (s.setDeliverer v).button = s.button := rfl
@[simp] theorem State.setDeliverer_talkSeen (s : State) (v : Deliverer) : (s.setDeliverer v).talkSeen = s.talkSeen := rfl
@[simp] theorem State.setDeliverer_meters (s : State) (v : Deliverer) : (s.setDeliverer v).meters = s.meters := rfl
@[simp] theorem State.setDeliverer_portA (s : State) (v : Deliverer) : (s.setDeliverer v).portA = s.portA := rfl
@[simp] theorem State.setDeliverer_portB (s : State) (v : Deliverer) : (s.setDeliverer v).portB = s.portB := rfl
@[simp] theorem State.setDeliverer_selector (s : State) (v : Deliverer) : (s.setDeliverer v).selector = s.selector := rfl
@[simp] theorem State.setDeliverer_deliverer (s : State) (v : Deliverer) : (s.setDeliverer v).deliverer = v := rfl
@[simp] theorem State.setDeliverer_link (s : State) (v : Deliverer) : (s.setDeliverer v).link = s.link := rfl
@[simp] theorem State.setDeliverer_clock (s : State) (v : Deliverer) : (s.setDeliverer v).clock = s.clock := rfl
@[simp] theorem State.setDeliverer_sched (s : State) (v : Deliverer) : (s.setDeliverer v).sched = s.sched := rfl
@[simp] theorem State.setDeliverer_receiver (s : State) (v : Deliverer) : (s.setDeliverer v).receiver = s.receiver := rfl
@[simp] theorem State.setDeliverer_desk (s : State) (v : Deliverer) : (s.setDeliverer v).desk = s.desk := rfl
@[simp] theorem State.setDeliverer_stage (s : State) (v : Deliverer) : (s.setDeliverer v).stage = s.stage := rfl
@[simp] theorem State.setDeliverer_board (s : State) (v : Deliverer) : (s.setDeliverer v).board = s.board := rfl
@[simp] theorem State.setDeliverer_scanner (s : State) (v : Deliverer) : (s.setDeliverer v).scanner = s.scanner := rfl
@[simp] theorem State.setDeliverer_ring (s : State) (v : Deliverer) : (s.setDeliverer v).ring = s.ring := rfl
@[simp] theorem State.setDeliverer_status (s : State) (v : Deliverer) : (s.setDeliverer v).status = s.status := rfl
@[simp] theorem State.setDeliverer_regs (s : State) (v : Deliverer) : (s.setDeliverer v).regs = s.regs := rfl
@[simp] theorem State.setDeliverer_output (s : State) (v : Deliverer) : (s.setDeliverer v).output = s.output := rfl
@[simp] theorem State.setDeliverer_pending (s : State) (v : Deliverer) : (s.setDeliverer v).pending = s.pending := rfl

@[simp] theorem State.setLink_role (s : State) (v : Link) : (s.setLink v).role = s.role := rfl
@[simp] theorem State.setLink_superframe (s : State) (v : Link) : (s.setLink v).superframe = s.superframe := rfl
@[simp] theorem State.setLink_frameIndex (s : State) (v : Link) : (s.setLink v).frameIndex = s.frameIndex := rfl
@[simp] theorem State.setLink_channels (s : State) (v : Link) : (s.setLink v).channels = s.channels := rfl
@[simp] theorem State.setLink_stepperDue (s : State) (v : Link) : (s.setLink v).stepperDue = s.stepperDue := rfl
@[simp] theorem State.setLink_preamp (s : State) (v : Link) : (s.setLink v).preamp = s.preamp := rfl
@[simp] theorem State.setLink_mixes (s : State) (v : Link) : (s.setLink v).mixes = s.mixes := rfl
@[simp] theorem State.setLink_island (s : State) (v : Link) : (s.setLink v).island = s.island := rfl
@[simp] theorem State.setLink_arbiter (s : State) (v : Link) : (s.setLink v).arbiter = s.arbiter := rfl
@[simp] theorem State.setLink_button (s : State) (v : Link) : (s.setLink v).button = s.button := rfl
@[simp] theorem State.setLink_talkSeen (s : State) (v : Link) : (s.setLink v).talkSeen = s.talkSeen := rfl
@[simp] theorem State.setLink_meters (s : State) (v : Link) : (s.setLink v).meters = s.meters := rfl
@[simp] theorem State.setLink_portA (s : State) (v : Link) : (s.setLink v).portA = s.portA := rfl
@[simp] theorem State.setLink_portB (s : State) (v : Link) : (s.setLink v).portB = s.portB := rfl
@[simp] theorem State.setLink_selector (s : State) (v : Link) : (s.setLink v).selector = s.selector := rfl
@[simp] theorem State.setLink_deliverer (s : State) (v : Link) : (s.setLink v).deliverer = s.deliverer := rfl
@[simp] theorem State.setLink_link (s : State) (v : Link) : (s.setLink v).link = v := rfl
@[simp] theorem State.setLink_clock (s : State) (v : Link) : (s.setLink v).clock = s.clock := rfl
@[simp] theorem State.setLink_sched (s : State) (v : Link) : (s.setLink v).sched = s.sched := rfl
@[simp] theorem State.setLink_receiver (s : State) (v : Link) : (s.setLink v).receiver = s.receiver := rfl
@[simp] theorem State.setLink_desk (s : State) (v : Link) : (s.setLink v).desk = s.desk := rfl
@[simp] theorem State.setLink_stage (s : State) (v : Link) : (s.setLink v).stage = s.stage := rfl
@[simp] theorem State.setLink_board (s : State) (v : Link) : (s.setLink v).board = s.board := rfl
@[simp] theorem State.setLink_scanner (s : State) (v : Link) : (s.setLink v).scanner = s.scanner := rfl
@[simp] theorem State.setLink_ring (s : State) (v : Link) : (s.setLink v).ring = s.ring := rfl
@[simp] theorem State.setLink_status (s : State) (v : Link) : (s.setLink v).status = s.status := rfl
@[simp] theorem State.setLink_regs (s : State) (v : Link) : (s.setLink v).regs = s.regs := rfl
@[simp] theorem State.setLink_output (s : State) (v : Link) : (s.setLink v).output = s.output := rfl
@[simp] theorem State.setLink_pending (s : State) (v : Link) : (s.setLink v).pending = s.pending := rfl

@[simp] theorem State.setClock_role (s : State) (v : Clock) : (s.setClock v).role = s.role := rfl
@[simp] theorem State.setClock_superframe (s : State) (v : Clock) : (s.setClock v).superframe = s.superframe := rfl
@[simp] theorem State.setClock_frameIndex (s : State) (v : Clock) : (s.setClock v).frameIndex = s.frameIndex := rfl
@[simp] theorem State.setClock_channels (s : State) (v : Clock) : (s.setClock v).channels = s.channels := rfl
@[simp] theorem State.setClock_stepperDue (s : State) (v : Clock) : (s.setClock v).stepperDue = s.stepperDue := rfl
@[simp] theorem State.setClock_preamp (s : State) (v : Clock) : (s.setClock v).preamp = s.preamp := rfl
@[simp] theorem State.setClock_mixes (s : State) (v : Clock) : (s.setClock v).mixes = s.mixes := rfl
@[simp] theorem State.setClock_island (s : State) (v : Clock) : (s.setClock v).island = s.island := rfl
@[simp] theorem State.setClock_arbiter (s : State) (v : Clock) : (s.setClock v).arbiter = s.arbiter := rfl
@[simp] theorem State.setClock_button (s : State) (v : Clock) : (s.setClock v).button = s.button := rfl
@[simp] theorem State.setClock_talkSeen (s : State) (v : Clock) : (s.setClock v).talkSeen = s.talkSeen := rfl
@[simp] theorem State.setClock_meters (s : State) (v : Clock) : (s.setClock v).meters = s.meters := rfl
@[simp] theorem State.setClock_portA (s : State) (v : Clock) : (s.setClock v).portA = s.portA := rfl
@[simp] theorem State.setClock_portB (s : State) (v : Clock) : (s.setClock v).portB = s.portB := rfl
@[simp] theorem State.setClock_selector (s : State) (v : Clock) : (s.setClock v).selector = s.selector := rfl
@[simp] theorem State.setClock_deliverer (s : State) (v : Clock) : (s.setClock v).deliverer = s.deliverer := rfl
@[simp] theorem State.setClock_link (s : State) (v : Clock) : (s.setClock v).link = s.link := rfl
@[simp] theorem State.setClock_clock (s : State) (v : Clock) : (s.setClock v).clock = v := rfl
@[simp] theorem State.setClock_sched (s : State) (v : Clock) : (s.setClock v).sched = s.sched := rfl
@[simp] theorem State.setClock_receiver (s : State) (v : Clock) : (s.setClock v).receiver = s.receiver := rfl
@[simp] theorem State.setClock_desk (s : State) (v : Clock) : (s.setClock v).desk = s.desk := rfl
@[simp] theorem State.setClock_stage (s : State) (v : Clock) : (s.setClock v).stage = s.stage := rfl
@[simp] theorem State.setClock_board (s : State) (v : Clock) : (s.setClock v).board = s.board := rfl
@[simp] theorem State.setClock_scanner (s : State) (v : Clock) : (s.setClock v).scanner = s.scanner := rfl
@[simp] theorem State.setClock_ring (s : State) (v : Clock) : (s.setClock v).ring = s.ring := rfl
@[simp] theorem State.setClock_status (s : State) (v : Clock) : (s.setClock v).status = s.status := rfl
@[simp] theorem State.setClock_regs (s : State) (v : Clock) : (s.setClock v).regs = s.regs := rfl
@[simp] theorem State.setClock_output (s : State) (v : Clock) : (s.setClock v).output = s.output := rfl
@[simp] theorem State.setClock_pending (s : State) (v : Clock) : (s.setClock v).pending = s.pending := rfl

@[simp] theorem State.setSched_role (s : State) (v : Scheduler) : (s.setSched v).role = s.role := rfl
@[simp] theorem State.setSched_superframe (s : State) (v : Scheduler) : (s.setSched v).superframe = s.superframe := rfl
@[simp] theorem State.setSched_frameIndex (s : State) (v : Scheduler) : (s.setSched v).frameIndex = s.frameIndex := rfl
@[simp] theorem State.setSched_channels (s : State) (v : Scheduler) : (s.setSched v).channels = s.channels := rfl
@[simp] theorem State.setSched_stepperDue (s : State) (v : Scheduler) : (s.setSched v).stepperDue = s.stepperDue := rfl
@[simp] theorem State.setSched_preamp (s : State) (v : Scheduler) : (s.setSched v).preamp = s.preamp := rfl
@[simp] theorem State.setSched_mixes (s : State) (v : Scheduler) : (s.setSched v).mixes = s.mixes := rfl
@[simp] theorem State.setSched_island (s : State) (v : Scheduler) : (s.setSched v).island = s.island := rfl
@[simp] theorem State.setSched_arbiter (s : State) (v : Scheduler) : (s.setSched v).arbiter = s.arbiter := rfl
@[simp] theorem State.setSched_button (s : State) (v : Scheduler) : (s.setSched v).button = s.button := rfl
@[simp] theorem State.setSched_talkSeen (s : State) (v : Scheduler) : (s.setSched v).talkSeen = s.talkSeen := rfl
@[simp] theorem State.setSched_meters (s : State) (v : Scheduler) : (s.setSched v).meters = s.meters := rfl
@[simp] theorem State.setSched_portA (s : State) (v : Scheduler) : (s.setSched v).portA = s.portA := rfl
@[simp] theorem State.setSched_portB (s : State) (v : Scheduler) : (s.setSched v).portB = s.portB := rfl
@[simp] theorem State.setSched_selector (s : State) (v : Scheduler) : (s.setSched v).selector = s.selector := rfl
@[simp] theorem State.setSched_deliverer (s : State) (v : Scheduler) : (s.setSched v).deliverer = s.deliverer := rfl
@[simp] theorem State.setSched_link (s : State) (v : Scheduler) : (s.setSched v).link = s.link := rfl
@[simp] theorem State.setSched_clock (s : State) (v : Scheduler) : (s.setSched v).clock = s.clock := rfl
@[simp] theorem State.setSched_sched (s : State) (v : Scheduler) : (s.setSched v).sched = v := rfl
@[simp] theorem State.setSched_receiver (s : State) (v : Scheduler) : (s.setSched v).receiver = s.receiver := rfl
@[simp] theorem State.setSched_desk (s : State) (v : Scheduler) : (s.setSched v).desk = s.desk := rfl
@[simp] theorem State.setSched_stage (s : State) (v : Scheduler) : (s.setSched v).stage = s.stage := rfl
@[simp] theorem State.setSched_board (s : State) (v : Scheduler) : (s.setSched v).board = s.board := rfl
@[simp] theorem State.setSched_scanner (s : State) (v : Scheduler) : (s.setSched v).scanner = s.scanner := rfl
@[simp] theorem State.setSched_ring (s : State) (v : Scheduler) : (s.setSched v).ring = s.ring := rfl
@[simp] theorem State.setSched_status (s : State) (v : Scheduler) : (s.setSched v).status = s.status := rfl
@[simp] theorem State.setSched_regs (s : State) (v : Scheduler) : (s.setSched v).regs = s.regs := rfl
@[simp] theorem State.setSched_output (s : State) (v : Scheduler) : (s.setSched v).output = s.output := rfl
@[simp] theorem State.setSched_pending (s : State) (v : Scheduler) : (s.setSched v).pending = s.pending := rfl

@[simp] theorem State.setReceiver_role (s : State) (v : Receiver) : (s.setReceiver v).role = s.role := rfl
@[simp] theorem State.setReceiver_superframe (s : State) (v : Receiver) : (s.setReceiver v).superframe = s.superframe := rfl
@[simp] theorem State.setReceiver_frameIndex (s : State) (v : Receiver) : (s.setReceiver v).frameIndex = s.frameIndex := rfl
@[simp] theorem State.setReceiver_channels (s : State) (v : Receiver) : (s.setReceiver v).channels = s.channels := rfl
@[simp] theorem State.setReceiver_stepperDue (s : State) (v : Receiver) : (s.setReceiver v).stepperDue = s.stepperDue := rfl
@[simp] theorem State.setReceiver_preamp (s : State) (v : Receiver) : (s.setReceiver v).preamp = s.preamp := rfl
@[simp] theorem State.setReceiver_mixes (s : State) (v : Receiver) : (s.setReceiver v).mixes = s.mixes := rfl
@[simp] theorem State.setReceiver_island (s : State) (v : Receiver) : (s.setReceiver v).island = s.island := rfl
@[simp] theorem State.setReceiver_arbiter (s : State) (v : Receiver) : (s.setReceiver v).arbiter = s.arbiter := rfl
@[simp] theorem State.setReceiver_button (s : State) (v : Receiver) : (s.setReceiver v).button = s.button := rfl
@[simp] theorem State.setReceiver_talkSeen (s : State) (v : Receiver) : (s.setReceiver v).talkSeen = s.talkSeen := rfl
@[simp] theorem State.setReceiver_meters (s : State) (v : Receiver) : (s.setReceiver v).meters = s.meters := rfl
@[simp] theorem State.setReceiver_portA (s : State) (v : Receiver) : (s.setReceiver v).portA = s.portA := rfl
@[simp] theorem State.setReceiver_portB (s : State) (v : Receiver) : (s.setReceiver v).portB = s.portB := rfl
@[simp] theorem State.setReceiver_selector (s : State) (v : Receiver) : (s.setReceiver v).selector = s.selector := rfl
@[simp] theorem State.setReceiver_deliverer (s : State) (v : Receiver) : (s.setReceiver v).deliverer = s.deliverer := rfl
@[simp] theorem State.setReceiver_link (s : State) (v : Receiver) : (s.setReceiver v).link = s.link := rfl
@[simp] theorem State.setReceiver_clock (s : State) (v : Receiver) : (s.setReceiver v).clock = s.clock := rfl
@[simp] theorem State.setReceiver_sched (s : State) (v : Receiver) : (s.setReceiver v).sched = s.sched := rfl
@[simp] theorem State.setReceiver_receiver (s : State) (v : Receiver) : (s.setReceiver v).receiver = v := rfl
@[simp] theorem State.setReceiver_desk (s : State) (v : Receiver) : (s.setReceiver v).desk = s.desk := rfl
@[simp] theorem State.setReceiver_stage (s : State) (v : Receiver) : (s.setReceiver v).stage = s.stage := rfl
@[simp] theorem State.setReceiver_board (s : State) (v : Receiver) : (s.setReceiver v).board = s.board := rfl
@[simp] theorem State.setReceiver_scanner (s : State) (v : Receiver) : (s.setReceiver v).scanner = s.scanner := rfl
@[simp] theorem State.setReceiver_ring (s : State) (v : Receiver) : (s.setReceiver v).ring = s.ring := rfl
@[simp] theorem State.setReceiver_status (s : State) (v : Receiver) : (s.setReceiver v).status = s.status := rfl
@[simp] theorem State.setReceiver_regs (s : State) (v : Receiver) : (s.setReceiver v).regs = s.regs := rfl
@[simp] theorem State.setReceiver_output (s : State) (v : Receiver) : (s.setReceiver v).output = s.output := rfl
@[simp] theorem State.setReceiver_pending (s : State) (v : Receiver) : (s.setReceiver v).pending = s.pending := rfl

@[simp] theorem State.setDesk_role (s : State) (v : DeskRepl) : (s.setDesk v).role = s.role := rfl
@[simp] theorem State.setDesk_superframe (s : State) (v : DeskRepl) : (s.setDesk v).superframe = s.superframe := rfl
@[simp] theorem State.setDesk_frameIndex (s : State) (v : DeskRepl) : (s.setDesk v).frameIndex = s.frameIndex := rfl
@[simp] theorem State.setDesk_channels (s : State) (v : DeskRepl) : (s.setDesk v).channels = s.channels := rfl
@[simp] theorem State.setDesk_stepperDue (s : State) (v : DeskRepl) : (s.setDesk v).stepperDue = s.stepperDue := rfl
@[simp] theorem State.setDesk_preamp (s : State) (v : DeskRepl) : (s.setDesk v).preamp = s.preamp := rfl
@[simp] theorem State.setDesk_mixes (s : State) (v : DeskRepl) : (s.setDesk v).mixes = s.mixes := rfl
@[simp] theorem State.setDesk_island (s : State) (v : DeskRepl) : (s.setDesk v).island = s.island := rfl
@[simp] theorem State.setDesk_arbiter (s : State) (v : DeskRepl) : (s.setDesk v).arbiter = s.arbiter := rfl
@[simp] theorem State.setDesk_button (s : State) (v : DeskRepl) : (s.setDesk v).button = s.button := rfl
@[simp] theorem State.setDesk_talkSeen (s : State) (v : DeskRepl) : (s.setDesk v).talkSeen = s.talkSeen := rfl
@[simp] theorem State.setDesk_meters (s : State) (v : DeskRepl) : (s.setDesk v).meters = s.meters := rfl
@[simp] theorem State.setDesk_portA (s : State) (v : DeskRepl) : (s.setDesk v).portA = s.portA := rfl
@[simp] theorem State.setDesk_portB (s : State) (v : DeskRepl) : (s.setDesk v).portB = s.portB := rfl
@[simp] theorem State.setDesk_selector (s : State) (v : DeskRepl) : (s.setDesk v).selector = s.selector := rfl
@[simp] theorem State.setDesk_deliverer (s : State) (v : DeskRepl) : (s.setDesk v).deliverer = s.deliverer := rfl
@[simp] theorem State.setDesk_link (s : State) (v : DeskRepl) : (s.setDesk v).link = s.link := rfl
@[simp] theorem State.setDesk_clock (s : State) (v : DeskRepl) : (s.setDesk v).clock = s.clock := rfl
@[simp] theorem State.setDesk_sched (s : State) (v : DeskRepl) : (s.setDesk v).sched = s.sched := rfl
@[simp] theorem State.setDesk_receiver (s : State) (v : DeskRepl) : (s.setDesk v).receiver = s.receiver := rfl
@[simp] theorem State.setDesk_desk (s : State) (v : DeskRepl) : (s.setDesk v).desk = v := rfl
@[simp] theorem State.setDesk_stage (s : State) (v : DeskRepl) : (s.setDesk v).stage = s.stage := rfl
@[simp] theorem State.setDesk_board (s : State) (v : DeskRepl) : (s.setDesk v).board = s.board := rfl
@[simp] theorem State.setDesk_scanner (s : State) (v : DeskRepl) : (s.setDesk v).scanner = s.scanner := rfl
@[simp] theorem State.setDesk_ring (s : State) (v : DeskRepl) : (s.setDesk v).ring = s.ring := rfl
@[simp] theorem State.setDesk_status (s : State) (v : DeskRepl) : (s.setDesk v).status = s.status := rfl
@[simp] theorem State.setDesk_regs (s : State) (v : DeskRepl) : (s.setDesk v).regs = s.regs := rfl
@[simp] theorem State.setDesk_output (s : State) (v : DeskRepl) : (s.setDesk v).output = s.output := rfl
@[simp] theorem State.setDesk_pending (s : State) (v : DeskRepl) : (s.setDesk v).pending = s.pending := rfl

@[simp] theorem State.setStage_role (s : State) (v : StageRepl) : (s.setStage v).role = s.role := rfl
@[simp] theorem State.setStage_superframe (s : State) (v : StageRepl) : (s.setStage v).superframe = s.superframe := rfl
@[simp] theorem State.setStage_frameIndex (s : State) (v : StageRepl) : (s.setStage v).frameIndex = s.frameIndex := rfl
@[simp] theorem State.setStage_channels (s : State) (v : StageRepl) : (s.setStage v).channels = s.channels := rfl
@[simp] theorem State.setStage_stepperDue (s : State) (v : StageRepl) : (s.setStage v).stepperDue = s.stepperDue := rfl
@[simp] theorem State.setStage_preamp (s : State) (v : StageRepl) : (s.setStage v).preamp = s.preamp := rfl
@[simp] theorem State.setStage_mixes (s : State) (v : StageRepl) : (s.setStage v).mixes = s.mixes := rfl
@[simp] theorem State.setStage_island (s : State) (v : StageRepl) : (s.setStage v).island = s.island := rfl
@[simp] theorem State.setStage_arbiter (s : State) (v : StageRepl) : (s.setStage v).arbiter = s.arbiter := rfl
@[simp] theorem State.setStage_button (s : State) (v : StageRepl) : (s.setStage v).button = s.button := rfl
@[simp] theorem State.setStage_talkSeen (s : State) (v : StageRepl) : (s.setStage v).talkSeen = s.talkSeen := rfl
@[simp] theorem State.setStage_meters (s : State) (v : StageRepl) : (s.setStage v).meters = s.meters := rfl
@[simp] theorem State.setStage_portA (s : State) (v : StageRepl) : (s.setStage v).portA = s.portA := rfl
@[simp] theorem State.setStage_portB (s : State) (v : StageRepl) : (s.setStage v).portB = s.portB := rfl
@[simp] theorem State.setStage_selector (s : State) (v : StageRepl) : (s.setStage v).selector = s.selector := rfl
@[simp] theorem State.setStage_deliverer (s : State) (v : StageRepl) : (s.setStage v).deliverer = s.deliverer := rfl
@[simp] theorem State.setStage_link (s : State) (v : StageRepl) : (s.setStage v).link = s.link := rfl
@[simp] theorem State.setStage_clock (s : State) (v : StageRepl) : (s.setStage v).clock = s.clock := rfl
@[simp] theorem State.setStage_sched (s : State) (v : StageRepl) : (s.setStage v).sched = s.sched := rfl
@[simp] theorem State.setStage_receiver (s : State) (v : StageRepl) : (s.setStage v).receiver = s.receiver := rfl
@[simp] theorem State.setStage_desk (s : State) (v : StageRepl) : (s.setStage v).desk = s.desk := rfl
@[simp] theorem State.setStage_stage (s : State) (v : StageRepl) : (s.setStage v).stage = v := rfl
@[simp] theorem State.setStage_board (s : State) (v : StageRepl) : (s.setStage v).board = s.board := rfl
@[simp] theorem State.setStage_scanner (s : State) (v : StageRepl) : (s.setStage v).scanner = s.scanner := rfl
@[simp] theorem State.setStage_ring (s : State) (v : StageRepl) : (s.setStage v).ring = s.ring := rfl
@[simp] theorem State.setStage_status (s : State) (v : StageRepl) : (s.setStage v).status = s.status := rfl
@[simp] theorem State.setStage_regs (s : State) (v : StageRepl) : (s.setStage v).regs = s.regs := rfl
@[simp] theorem State.setStage_output (s : State) (v : StageRepl) : (s.setStage v).output = s.output := rfl
@[simp] theorem State.setStage_pending (s : State) (v : StageRepl) : (s.setStage v).pending = s.pending := rfl

@[simp] theorem State.setBoard_role (s : State) (v : Memory) : (s.setBoard v).role = s.role := rfl
@[simp] theorem State.setBoard_superframe (s : State) (v : Memory) : (s.setBoard v).superframe = s.superframe := rfl
@[simp] theorem State.setBoard_frameIndex (s : State) (v : Memory) : (s.setBoard v).frameIndex = s.frameIndex := rfl
@[simp] theorem State.setBoard_channels (s : State) (v : Memory) : (s.setBoard v).channels = s.channels := rfl
@[simp] theorem State.setBoard_stepperDue (s : State) (v : Memory) : (s.setBoard v).stepperDue = s.stepperDue := rfl
@[simp] theorem State.setBoard_preamp (s : State) (v : Memory) : (s.setBoard v).preamp = s.preamp := rfl
@[simp] theorem State.setBoard_mixes (s : State) (v : Memory) : (s.setBoard v).mixes = s.mixes := rfl
@[simp] theorem State.setBoard_island (s : State) (v : Memory) : (s.setBoard v).island = s.island := rfl
@[simp] theorem State.setBoard_arbiter (s : State) (v : Memory) : (s.setBoard v).arbiter = s.arbiter := rfl
@[simp] theorem State.setBoard_button (s : State) (v : Memory) : (s.setBoard v).button = s.button := rfl
@[simp] theorem State.setBoard_talkSeen (s : State) (v : Memory) : (s.setBoard v).talkSeen = s.talkSeen := rfl
@[simp] theorem State.setBoard_meters (s : State) (v : Memory) : (s.setBoard v).meters = s.meters := rfl
@[simp] theorem State.setBoard_portA (s : State) (v : Memory) : (s.setBoard v).portA = s.portA := rfl
@[simp] theorem State.setBoard_portB (s : State) (v : Memory) : (s.setBoard v).portB = s.portB := rfl
@[simp] theorem State.setBoard_selector (s : State) (v : Memory) : (s.setBoard v).selector = s.selector := rfl
@[simp] theorem State.setBoard_deliverer (s : State) (v : Memory) : (s.setBoard v).deliverer = s.deliverer := rfl
@[simp] theorem State.setBoard_link (s : State) (v : Memory) : (s.setBoard v).link = s.link := rfl
@[simp] theorem State.setBoard_clock (s : State) (v : Memory) : (s.setBoard v).clock = s.clock := rfl
@[simp] theorem State.setBoard_sched (s : State) (v : Memory) : (s.setBoard v).sched = s.sched := rfl
@[simp] theorem State.setBoard_receiver (s : State) (v : Memory) : (s.setBoard v).receiver = s.receiver := rfl
@[simp] theorem State.setBoard_desk (s : State) (v : Memory) : (s.setBoard v).desk = s.desk := rfl
@[simp] theorem State.setBoard_stage (s : State) (v : Memory) : (s.setBoard v).stage = s.stage := rfl
@[simp] theorem State.setBoard_board (s : State) (v : Memory) : (s.setBoard v).board = v := rfl
@[simp] theorem State.setBoard_scanner (s : State) (v : Memory) : (s.setBoard v).scanner = s.scanner := rfl
@[simp] theorem State.setBoard_ring (s : State) (v : Memory) : (s.setBoard v).ring = s.ring := rfl
@[simp] theorem State.setBoard_status (s : State) (v : Memory) : (s.setBoard v).status = s.status := rfl
@[simp] theorem State.setBoard_regs (s : State) (v : Memory) : (s.setBoard v).regs = s.regs := rfl
@[simp] theorem State.setBoard_output (s : State) (v : Memory) : (s.setBoard v).output = s.output := rfl
@[simp] theorem State.setBoard_pending (s : State) (v : Memory) : (s.setBoard v).pending = s.pending := rfl

@[simp] theorem State.setScanner_role (s : State) (v : Scanner) : (s.setScanner v).role = s.role := rfl
@[simp] theorem State.setScanner_superframe (s : State) (v : Scanner) : (s.setScanner v).superframe = s.superframe := rfl
@[simp] theorem State.setScanner_frameIndex (s : State) (v : Scanner) : (s.setScanner v).frameIndex = s.frameIndex := rfl
@[simp] theorem State.setScanner_channels (s : State) (v : Scanner) : (s.setScanner v).channels = s.channels := rfl
@[simp] theorem State.setScanner_stepperDue (s : State) (v : Scanner) : (s.setScanner v).stepperDue = s.stepperDue := rfl
@[simp] theorem State.setScanner_preamp (s : State) (v : Scanner) : (s.setScanner v).preamp = s.preamp := rfl
@[simp] theorem State.setScanner_mixes (s : State) (v : Scanner) : (s.setScanner v).mixes = s.mixes := rfl
@[simp] theorem State.setScanner_island (s : State) (v : Scanner) : (s.setScanner v).island = s.island := rfl
@[simp] theorem State.setScanner_arbiter (s : State) (v : Scanner) : (s.setScanner v).arbiter = s.arbiter := rfl
@[simp] theorem State.setScanner_button (s : State) (v : Scanner) : (s.setScanner v).button = s.button := rfl
@[simp] theorem State.setScanner_talkSeen (s : State) (v : Scanner) : (s.setScanner v).talkSeen = s.talkSeen := rfl
@[simp] theorem State.setScanner_meters (s : State) (v : Scanner) : (s.setScanner v).meters = s.meters := rfl
@[simp] theorem State.setScanner_portA (s : State) (v : Scanner) : (s.setScanner v).portA = s.portA := rfl
@[simp] theorem State.setScanner_portB (s : State) (v : Scanner) : (s.setScanner v).portB = s.portB := rfl
@[simp] theorem State.setScanner_selector (s : State) (v : Scanner) : (s.setScanner v).selector = s.selector := rfl
@[simp] theorem State.setScanner_deliverer (s : State) (v : Scanner) : (s.setScanner v).deliverer = s.deliverer := rfl
@[simp] theorem State.setScanner_link (s : State) (v : Scanner) : (s.setScanner v).link = s.link := rfl
@[simp] theorem State.setScanner_clock (s : State) (v : Scanner) : (s.setScanner v).clock = s.clock := rfl
@[simp] theorem State.setScanner_sched (s : State) (v : Scanner) : (s.setScanner v).sched = s.sched := rfl
@[simp] theorem State.setScanner_receiver (s : State) (v : Scanner) : (s.setScanner v).receiver = s.receiver := rfl
@[simp] theorem State.setScanner_desk (s : State) (v : Scanner) : (s.setScanner v).desk = s.desk := rfl
@[simp] theorem State.setScanner_stage (s : State) (v : Scanner) : (s.setScanner v).stage = s.stage := rfl
@[simp] theorem State.setScanner_board (s : State) (v : Scanner) : (s.setScanner v).board = s.board := rfl
@[simp] theorem State.setScanner_scanner (s : State) (v : Scanner) : (s.setScanner v).scanner = v := rfl
@[simp] theorem State.setScanner_ring (s : State) (v : Scanner) : (s.setScanner v).ring = s.ring := rfl
@[simp] theorem State.setScanner_status (s : State) (v : Scanner) : (s.setScanner v).status = s.status := rfl
@[simp] theorem State.setScanner_regs (s : State) (v : Scanner) : (s.setScanner v).regs = s.regs := rfl
@[simp] theorem State.setScanner_output (s : State) (v : Scanner) : (s.setScanner v).output = s.output := rfl
@[simp] theorem State.setScanner_pending (s : State) (v : Scanner) : (s.setScanner v).pending = s.pending := rfl

@[simp] theorem State.setRing_role (s : State) (v : Ring) : (s.setRing v).role = s.role := rfl
@[simp] theorem State.setRing_superframe (s : State) (v : Ring) : (s.setRing v).superframe = s.superframe := rfl
@[simp] theorem State.setRing_frameIndex (s : State) (v : Ring) : (s.setRing v).frameIndex = s.frameIndex := rfl
@[simp] theorem State.setRing_channels (s : State) (v : Ring) : (s.setRing v).channels = s.channels := rfl
@[simp] theorem State.setRing_stepperDue (s : State) (v : Ring) : (s.setRing v).stepperDue = s.stepperDue := rfl
@[simp] theorem State.setRing_preamp (s : State) (v : Ring) : (s.setRing v).preamp = s.preamp := rfl
@[simp] theorem State.setRing_mixes (s : State) (v : Ring) : (s.setRing v).mixes = s.mixes := rfl
@[simp] theorem State.setRing_island (s : State) (v : Ring) : (s.setRing v).island = s.island := rfl
@[simp] theorem State.setRing_arbiter (s : State) (v : Ring) : (s.setRing v).arbiter = s.arbiter := rfl
@[simp] theorem State.setRing_button (s : State) (v : Ring) : (s.setRing v).button = s.button := rfl
@[simp] theorem State.setRing_talkSeen (s : State) (v : Ring) : (s.setRing v).talkSeen = s.talkSeen := rfl
@[simp] theorem State.setRing_meters (s : State) (v : Ring) : (s.setRing v).meters = s.meters := rfl
@[simp] theorem State.setRing_portA (s : State) (v : Ring) : (s.setRing v).portA = s.portA := rfl
@[simp] theorem State.setRing_portB (s : State) (v : Ring) : (s.setRing v).portB = s.portB := rfl
@[simp] theorem State.setRing_selector (s : State) (v : Ring) : (s.setRing v).selector = s.selector := rfl
@[simp] theorem State.setRing_deliverer (s : State) (v : Ring) : (s.setRing v).deliverer = s.deliverer := rfl
@[simp] theorem State.setRing_link (s : State) (v : Ring) : (s.setRing v).link = s.link := rfl
@[simp] theorem State.setRing_clock (s : State) (v : Ring) : (s.setRing v).clock = s.clock := rfl
@[simp] theorem State.setRing_sched (s : State) (v : Ring) : (s.setRing v).sched = s.sched := rfl
@[simp] theorem State.setRing_receiver (s : State) (v : Ring) : (s.setRing v).receiver = s.receiver := rfl
@[simp] theorem State.setRing_desk (s : State) (v : Ring) : (s.setRing v).desk = s.desk := rfl
@[simp] theorem State.setRing_stage (s : State) (v : Ring) : (s.setRing v).stage = s.stage := rfl
@[simp] theorem State.setRing_board (s : State) (v : Ring) : (s.setRing v).board = s.board := rfl
@[simp] theorem State.setRing_scanner (s : State) (v : Ring) : (s.setRing v).scanner = s.scanner := rfl
@[simp] theorem State.setRing_ring (s : State) (v : Ring) : (s.setRing v).ring = v := rfl
@[simp] theorem State.setRing_status (s : State) (v : Ring) : (s.setRing v).status = s.status := rfl
@[simp] theorem State.setRing_regs (s : State) (v : Ring) : (s.setRing v).regs = s.regs := rfl
@[simp] theorem State.setRing_output (s : State) (v : Ring) : (s.setRing v).output = s.output := rfl
@[simp] theorem State.setRing_pending (s : State) (v : Ring) : (s.setRing v).pending = s.pending := rfl

@[simp] theorem State.setStatus_role (s : State) (v : Status) : (s.setStatus v).role = s.role := rfl
@[simp] theorem State.setStatus_superframe (s : State) (v : Status) : (s.setStatus v).superframe = s.superframe := rfl
@[simp] theorem State.setStatus_frameIndex (s : State) (v : Status) : (s.setStatus v).frameIndex = s.frameIndex := rfl
@[simp] theorem State.setStatus_channels (s : State) (v : Status) : (s.setStatus v).channels = s.channels := rfl
@[simp] theorem State.setStatus_stepperDue (s : State) (v : Status) : (s.setStatus v).stepperDue = s.stepperDue := rfl
@[simp] theorem State.setStatus_preamp (s : State) (v : Status) : (s.setStatus v).preamp = s.preamp := rfl
@[simp] theorem State.setStatus_mixes (s : State) (v : Status) : (s.setStatus v).mixes = s.mixes := rfl
@[simp] theorem State.setStatus_island (s : State) (v : Status) : (s.setStatus v).island = s.island := rfl
@[simp] theorem State.setStatus_arbiter (s : State) (v : Status) : (s.setStatus v).arbiter = s.arbiter := rfl
@[simp] theorem State.setStatus_button (s : State) (v : Status) : (s.setStatus v).button = s.button := rfl
@[simp] theorem State.setStatus_talkSeen (s : State) (v : Status) : (s.setStatus v).talkSeen = s.talkSeen := rfl
@[simp] theorem State.setStatus_meters (s : State) (v : Status) : (s.setStatus v).meters = s.meters := rfl
@[simp] theorem State.setStatus_portA (s : State) (v : Status) : (s.setStatus v).portA = s.portA := rfl
@[simp] theorem State.setStatus_portB (s : State) (v : Status) : (s.setStatus v).portB = s.portB := rfl
@[simp] theorem State.setStatus_selector (s : State) (v : Status) : (s.setStatus v).selector = s.selector := rfl
@[simp] theorem State.setStatus_deliverer (s : State) (v : Status) : (s.setStatus v).deliverer = s.deliverer := rfl
@[simp] theorem State.setStatus_link (s : State) (v : Status) : (s.setStatus v).link = s.link := rfl
@[simp] theorem State.setStatus_clock (s : State) (v : Status) : (s.setStatus v).clock = s.clock := rfl
@[simp] theorem State.setStatus_sched (s : State) (v : Status) : (s.setStatus v).sched = s.sched := rfl
@[simp] theorem State.setStatus_receiver (s : State) (v : Status) : (s.setStatus v).receiver = s.receiver := rfl
@[simp] theorem State.setStatus_desk (s : State) (v : Status) : (s.setStatus v).desk = s.desk := rfl
@[simp] theorem State.setStatus_stage (s : State) (v : Status) : (s.setStatus v).stage = s.stage := rfl
@[simp] theorem State.setStatus_board (s : State) (v : Status) : (s.setStatus v).board = s.board := rfl
@[simp] theorem State.setStatus_scanner (s : State) (v : Status) : (s.setStatus v).scanner = s.scanner := rfl
@[simp] theorem State.setStatus_ring (s : State) (v : Status) : (s.setStatus v).ring = s.ring := rfl
@[simp] theorem State.setStatus_status (s : State) (v : Status) : (s.setStatus v).status = v := rfl
@[simp] theorem State.setStatus_regs (s : State) (v : Status) : (s.setStatus v).regs = s.regs := rfl
@[simp] theorem State.setStatus_output (s : State) (v : Status) : (s.setStatus v).output = s.output := rfl
@[simp] theorem State.setStatus_pending (s : State) (v : Status) : (s.setStatus v).pending = s.pending := rfl

@[simp] theorem State.setRegs_role (s : State) (v : Regs) : (s.setRegs v).role = s.role := rfl
@[simp] theorem State.setRegs_superframe (s : State) (v : Regs) : (s.setRegs v).superframe = s.superframe := rfl
@[simp] theorem State.setRegs_frameIndex (s : State) (v : Regs) : (s.setRegs v).frameIndex = s.frameIndex := rfl
@[simp] theorem State.setRegs_channels (s : State) (v : Regs) : (s.setRegs v).channels = s.channels := rfl
@[simp] theorem State.setRegs_stepperDue (s : State) (v : Regs) : (s.setRegs v).stepperDue = s.stepperDue := rfl
@[simp] theorem State.setRegs_preamp (s : State) (v : Regs) : (s.setRegs v).preamp = s.preamp := rfl
@[simp] theorem State.setRegs_mixes (s : State) (v : Regs) : (s.setRegs v).mixes = s.mixes := rfl
@[simp] theorem State.setRegs_island (s : State) (v : Regs) : (s.setRegs v).island = s.island := rfl
@[simp] theorem State.setRegs_arbiter (s : State) (v : Regs) : (s.setRegs v).arbiter = s.arbiter := rfl
@[simp] theorem State.setRegs_button (s : State) (v : Regs) : (s.setRegs v).button = s.button := rfl
@[simp] theorem State.setRegs_talkSeen (s : State) (v : Regs) : (s.setRegs v).talkSeen = s.talkSeen := rfl
@[simp] theorem State.setRegs_meters (s : State) (v : Regs) : (s.setRegs v).meters = s.meters := rfl
@[simp] theorem State.setRegs_portA (s : State) (v : Regs) : (s.setRegs v).portA = s.portA := rfl
@[simp] theorem State.setRegs_portB (s : State) (v : Regs) : (s.setRegs v).portB = s.portB := rfl
@[simp] theorem State.setRegs_selector (s : State) (v : Regs) : (s.setRegs v).selector = s.selector := rfl
@[simp] theorem State.setRegs_deliverer (s : State) (v : Regs) : (s.setRegs v).deliverer = s.deliverer := rfl
@[simp] theorem State.setRegs_link (s : State) (v : Regs) : (s.setRegs v).link = s.link := rfl
@[simp] theorem State.setRegs_clock (s : State) (v : Regs) : (s.setRegs v).clock = s.clock := rfl
@[simp] theorem State.setRegs_sched (s : State) (v : Regs) : (s.setRegs v).sched = s.sched := rfl
@[simp] theorem State.setRegs_receiver (s : State) (v : Regs) : (s.setRegs v).receiver = s.receiver := rfl
@[simp] theorem State.setRegs_desk (s : State) (v : Regs) : (s.setRegs v).desk = s.desk := rfl
@[simp] theorem State.setRegs_stage (s : State) (v : Regs) : (s.setRegs v).stage = s.stage := rfl
@[simp] theorem State.setRegs_board (s : State) (v : Regs) : (s.setRegs v).board = s.board := rfl
@[simp] theorem State.setRegs_scanner (s : State) (v : Regs) : (s.setRegs v).scanner = s.scanner := rfl
@[simp] theorem State.setRegs_ring (s : State) (v : Regs) : (s.setRegs v).ring = s.ring := rfl
@[simp] theorem State.setRegs_status (s : State) (v : Regs) : (s.setRegs v).status = s.status := rfl
@[simp] theorem State.setRegs_regs (s : State) (v : Regs) : (s.setRegs v).regs = v := rfl
@[simp] theorem State.setRegs_output (s : State) (v : Regs) : (s.setRegs v).output = s.output := rfl
@[simp] theorem State.setRegs_pending (s : State) (v : Regs) : (s.setRegs v).pending = s.pending := rfl

@[simp] theorem State.setOutput_role (s : State) (v : Output) : (s.setOutput v).role = s.role := rfl
@[simp] theorem State.setOutput_superframe (s : State) (v : Output) : (s.setOutput v).superframe = s.superframe := rfl
@[simp] theorem State.setOutput_frameIndex (s : State) (v : Output) : (s.setOutput v).frameIndex = s.frameIndex := rfl
@[simp] theorem State.setOutput_channels (s : State) (v : Output) : (s.setOutput v).channels = s.channels := rfl
@[simp] theorem State.setOutput_stepperDue (s : State) (v : Output) : (s.setOutput v).stepperDue = s.stepperDue := rfl
@[simp] theorem State.setOutput_preamp (s : State) (v : Output) : (s.setOutput v).preamp = s.preamp := rfl
@[simp] theorem State.setOutput_mixes (s : State) (v : Output) : (s.setOutput v).mixes = s.mixes := rfl
@[simp] theorem State.setOutput_island (s : State) (v : Output) : (s.setOutput v).island = s.island := rfl
@[simp] theorem State.setOutput_arbiter (s : State) (v : Output) : (s.setOutput v).arbiter = s.arbiter := rfl
@[simp] theorem State.setOutput_button (s : State) (v : Output) : (s.setOutput v).button = s.button := rfl
@[simp] theorem State.setOutput_talkSeen (s : State) (v : Output) : (s.setOutput v).talkSeen = s.talkSeen := rfl
@[simp] theorem State.setOutput_meters (s : State) (v : Output) : (s.setOutput v).meters = s.meters := rfl
@[simp] theorem State.setOutput_portA (s : State) (v : Output) : (s.setOutput v).portA = s.portA := rfl
@[simp] theorem State.setOutput_portB (s : State) (v : Output) : (s.setOutput v).portB = s.portB := rfl
@[simp] theorem State.setOutput_selector (s : State) (v : Output) : (s.setOutput v).selector = s.selector := rfl
@[simp] theorem State.setOutput_deliverer (s : State) (v : Output) : (s.setOutput v).deliverer = s.deliverer := rfl
@[simp] theorem State.setOutput_link (s : State) (v : Output) : (s.setOutput v).link = s.link := rfl
@[simp] theorem State.setOutput_clock (s : State) (v : Output) : (s.setOutput v).clock = s.clock := rfl
@[simp] theorem State.setOutput_sched (s : State) (v : Output) : (s.setOutput v).sched = s.sched := rfl
@[simp] theorem State.setOutput_receiver (s : State) (v : Output) : (s.setOutput v).receiver = s.receiver := rfl
@[simp] theorem State.setOutput_desk (s : State) (v : Output) : (s.setOutput v).desk = s.desk := rfl
@[simp] theorem State.setOutput_stage (s : State) (v : Output) : (s.setOutput v).stage = s.stage := rfl
@[simp] theorem State.setOutput_board (s : State) (v : Output) : (s.setOutput v).board = s.board := rfl
@[simp] theorem State.setOutput_scanner (s : State) (v : Output) : (s.setOutput v).scanner = s.scanner := rfl
@[simp] theorem State.setOutput_ring (s : State) (v : Output) : (s.setOutput v).ring = s.ring := rfl
@[simp] theorem State.setOutput_status (s : State) (v : Output) : (s.setOutput v).status = s.status := rfl
@[simp] theorem State.setOutput_regs (s : State) (v : Output) : (s.setOutput v).regs = s.regs := rfl
@[simp] theorem State.setOutput_output (s : State) (v : Output) : (s.setOutput v).output = v := rfl
@[simp] theorem State.setOutput_pending (s : State) (v : Output) : (s.setOutput v).pending = s.pending := rfl

@[simp] theorem State.setPending_role (s : State) (v : List Instr) : (s.setPending v).role = s.role := rfl
@[simp] theorem State.setPending_superframe (s : State) (v : List Instr) : (s.setPending v).superframe = s.superframe := rfl
@[simp] theorem State.setPending_frameIndex (s : State) (v : List Instr) : (s.setPending v).frameIndex = s.frameIndex := rfl
@[simp] theorem State.setPending_channels (s : State) (v : List Instr) : (s.setPending v).channels = s.channels := rfl
@[simp] theorem State.setPending_stepperDue (s : State) (v : List Instr) : (s.setPending v).stepperDue = s.stepperDue := rfl
@[simp] theorem State.setPending_preamp (s : State) (v : List Instr) : (s.setPending v).preamp = s.preamp := rfl
@[simp] theorem State.setPending_mixes (s : State) (v : List Instr) : (s.setPending v).mixes = s.mixes := rfl
@[simp] theorem State.setPending_island (s : State) (v : List Instr) : (s.setPending v).island = s.island := rfl
@[simp] theorem State.setPending_arbiter (s : State) (v : List Instr) : (s.setPending v).arbiter = s.arbiter := rfl
@[simp] theorem State.setPending_button (s : State) (v : List Instr) : (s.setPending v).button = s.button := rfl
@[simp] theorem State.setPending_talkSeen (s : State) (v : List Instr) : (s.setPending v).talkSeen = s.talkSeen := rfl
@[simp] theorem State.setPending_meters (s : State) (v : List Instr) : (s.setPending v).meters = s.meters := rfl
@[simp] theorem State.setPending_portA (s : State) (v : List Instr) : (s.setPending v).portA = s.portA := rfl
@[simp] theorem State.setPending_portB (s : State) (v : List Instr) : (s.setPending v).portB = s.portB := rfl
@[simp] theorem State.setPending_selector (s : State) (v : List Instr) : (s.setPending v).selector = s.selector := rfl
@[simp] theorem State.setPending_deliverer (s : State) (v : List Instr) : (s.setPending v).deliverer = s.deliverer := rfl
@[simp] theorem State.setPending_link (s : State) (v : List Instr) : (s.setPending v).link = s.link := rfl
@[simp] theorem State.setPending_clock (s : State) (v : List Instr) : (s.setPending v).clock = s.clock := rfl
@[simp] theorem State.setPending_sched (s : State) (v : List Instr) : (s.setPending v).sched = s.sched := rfl
@[simp] theorem State.setPending_receiver (s : State) (v : List Instr) : (s.setPending v).receiver = s.receiver := rfl
@[simp] theorem State.setPending_desk (s : State) (v : List Instr) : (s.setPending v).desk = s.desk := rfl
@[simp] theorem State.setPending_stage (s : State) (v : List Instr) : (s.setPending v).stage = s.stage := rfl
@[simp] theorem State.setPending_board (s : State) (v : List Instr) : (s.setPending v).board = s.board := rfl
@[simp] theorem State.setPending_scanner (s : State) (v : List Instr) : (s.setPending v).scanner = s.scanner := rfl
@[simp] theorem State.setPending_ring (s : State) (v : List Instr) : (s.setPending v).ring = s.ring := rfl
@[simp] theorem State.setPending_status (s : State) (v : List Instr) : (s.setPending v).status = s.status := rfl
@[simp] theorem State.setPending_regs (s : State) (v : List Instr) : (s.setPending v).regs = s.regs := rfl
@[simp] theorem State.setPending_output (s : State) (v : List Instr) : (s.setPending v).output = s.output := rfl
@[simp] theorem State.setPending_pending (s : State) (v : List Instr) : (s.setPending v).pending = v := rfl

/-- Two ports in one: what reading a port after replacing one gives. -/
theorem State.setPort_port (s : State) (p q : PortId) (v : Port) :
    (s.setPort p v).port q = if p = q then v else s.port q := by cases p <;> cases q <;> rfl

@[simp] theorem State.setPort_role (s : State) (p : PortId) (v : Port) : (s.setPort p v).role = s.role := by cases p <;> rfl
@[simp] theorem State.setPort_superframe (s : State) (p : PortId) (v : Port) : (s.setPort p v).superframe = s.superframe := by cases p <;> rfl
@[simp] theorem State.setPort_frameIndex (s : State) (p : PortId) (v : Port) : (s.setPort p v).frameIndex = s.frameIndex := by cases p <;> rfl
@[simp] theorem State.setPort_channels (s : State) (p : PortId) (v : Port) : (s.setPort p v).channels = s.channels := by cases p <;> rfl
@[simp] theorem State.setPort_stepperDue (s : State) (p : PortId) (v : Port) : (s.setPort p v).stepperDue = s.stepperDue := by cases p <;> rfl
@[simp] theorem State.setPort_preamp (s : State) (p : PortId) (v : Port) : (s.setPort p v).preamp = s.preamp := by cases p <;> rfl
@[simp] theorem State.setPort_mixes (s : State) (p : PortId) (v : Port) : (s.setPort p v).mixes = s.mixes := by cases p <;> rfl
@[simp] theorem State.setPort_island (s : State) (p : PortId) (v : Port) : (s.setPort p v).island = s.island := by cases p <;> rfl
@[simp] theorem State.setPort_arbiter (s : State) (p : PortId) (v : Port) : (s.setPort p v).arbiter = s.arbiter := by cases p <;> rfl
@[simp] theorem State.setPort_button (s : State) (p : PortId) (v : Port) : (s.setPort p v).button = s.button := by cases p <;> rfl
@[simp] theorem State.setPort_talkSeen (s : State) (p : PortId) (v : Port) : (s.setPort p v).talkSeen = s.talkSeen := by cases p <;> rfl
@[simp] theorem State.setPort_meters (s : State) (p : PortId) (v : Port) : (s.setPort p v).meters = s.meters := by cases p <;> rfl
@[simp] theorem State.setPort_selector (s : State) (p : PortId) (v : Port) : (s.setPort p v).selector = s.selector := by cases p <;> rfl
@[simp] theorem State.setPort_deliverer (s : State) (p : PortId) (v : Port) : (s.setPort p v).deliverer = s.deliverer := by cases p <;> rfl
@[simp] theorem State.setPort_link (s : State) (p : PortId) (v : Port) : (s.setPort p v).link = s.link := by cases p <;> rfl
@[simp] theorem State.setPort_clock (s : State) (p : PortId) (v : Port) : (s.setPort p v).clock = s.clock := by cases p <;> rfl
@[simp] theorem State.setPort_sched (s : State) (p : PortId) (v : Port) : (s.setPort p v).sched = s.sched := by cases p <;> rfl
@[simp] theorem State.setPort_receiver (s : State) (p : PortId) (v : Port) : (s.setPort p v).receiver = s.receiver := by cases p <;> rfl
@[simp] theorem State.setPort_desk (s : State) (p : PortId) (v : Port) : (s.setPort p v).desk = s.desk := by cases p <;> rfl
@[simp] theorem State.setPort_stage (s : State) (p : PortId) (v : Port) : (s.setPort p v).stage = s.stage := by cases p <;> rfl
@[simp] theorem State.setPort_board (s : State) (p : PortId) (v : Port) : (s.setPort p v).board = s.board := by cases p <;> rfl
@[simp] theorem State.setPort_scanner (s : State) (p : PortId) (v : Port) : (s.setPort p v).scanner = s.scanner := by cases p <;> rfl
@[simp] theorem State.setPort_ring (s : State) (p : PortId) (v : Port) : (s.setPort p v).ring = s.ring := by cases p <;> rfl
@[simp] theorem State.setPort_status (s : State) (p : PortId) (v : Port) : (s.setPort p v).status = s.status := by cases p <;> rfl
@[simp] theorem State.setPort_regs (s : State) (p : PortId) (v : Port) : (s.setPort p v).regs = s.regs := by cases p <;> rfl
@[simp] theorem State.setPort_output (s : State) (p : PortId) (v : Port) : (s.setPort p v).output = s.output := by cases p <;> rfl
@[simp] theorem State.setPort_pending (s : State) (p : PortId) (v : Port) : (s.setPort p v).pending = s.pending := by cases p <;> rfl

@[simp] theorem State.setPort_port_same (s : State) (p : PortId) (v : Port) : (s.setPort p v).port p = v := by
  cases p <;> rfl

@[simp] theorem otherPort_otherPort (p : PortId) : otherPort (otherPort p) = p := by cases p <;> rfl

@[simp] theorem State.setPort_port_other (s : State) (p : PortId) (v : Port) :
    (s.setPort p v).port (otherPort p) = s.port (otherPort p) := by cases p <;> rfl

end Sys2Proof.Machine
end

