-- ==== Sys2Proof/Tests/Slice0.lean ====
section
/-! SUPPORT. Tests of the model against the manual's own figures, one ill-formed term for each check of WellFormed, and
for every statement with hypotheses a state that meets them. Expected values are the manual's; each test's docstring
names the place. -/

namespace Sys2Proof.Tests

open Sys2Proof Sys2Proof.Machine

set_option Elab.async false

/-! ## WellFormed: an ill-formed term for each check -/

theorem test_illformed_soft_reset : wellFormed (.softReset .word 0x7F) = false := by decide +kernel
theorem test_illformed_run_start : wellFormed (.runStart .word 0x02) = false := by decide +kernel
theorem test_illformed_run_stop : wellFormed (.runStop .word 0x01) = false := by decide +kernel
theorem test_illformed_scan_period : wellFormed (.scanPeriod .word 0x82) = false := by decide +kernel
theorem test_illformed_meter_cadence : wellFormed (.meterCadence .word 0x88) = false := by decide +kernel
theorem test_illformed_hold_set : wellFormed (.meterHoldSet .word 0x00) = false := by decide +kernel
theorem test_illformed_hold_release : wellFormed (.meterHoldRelease .word 0x20) = false := by decide +kernel
theorem test_illformed_policy : wellFormed (.policy .word 0xC0) = false := by decide +kernel
theorem test_illformed_window_write : wellFormed (.windowWrite 2 .word 0 false) = false := by decide +kernel
theorem test_illformed_frame : wellFormed (.frame (List.replicate 95 0) 512) = false := by decide +kernel
theorem test_illformed_frame_received : wellFormed (.frameReceived .a (List.replicate 60 0) 0) = false := by decide +kernel
theorem test_illformed_port_lock : wellFormed (.portLock .b (List.replicate 61 0) 513) = false := by decide +kernel

/-! ## Level arithmetic (sections 2.2 to 2.4, worked figures) -/

/-- The codes of the worked gains (section 2.2). -/
theorem test_worked_gains :
    [255, 243, 237, 232, 231, 230, 225, 219, 207, 200, 195, 171, 111, 100, 51, 40, 39, 10, 3, 2, 1, 0].map levelGain =
      [4194304, 2097152, 1482910, 1110928, 1048576, 989724, 741455, 524288, 262144, 174960, 131072, 32768, 1024, 542,
        32, 16, 16, 2, 2, 1, 1, 0] := by decide +kernel

/-- A master trimmed half a dB: advance 1, 128, 255 and the snap (section 2.3). -/
theorem test_worked_ramp :
    [1, 128, 255, 256].map (fun n => (Nat.iterate rampAdvance n (rampTarget 989724 (rampForce 1048576))).current) =
      [1048347, 1019264, 990181, 989724] := by decide +kernel

/-- The halves of the gain rounding go up at both signs (section 2.4). -/
theorem test_worked_rounding :
    [3 * 524288, 524288, -524288, -524289, -3 * 524288, 15625 * 524288, -15625 * 524288, 928063 * 524288].map gainRound =
      [2, 1, 0, -1, -1, 7813, -7812, 464032] := by decide +kernel

/-- Four frames of concealment after 1,000,000 and −1,000,000 (section 7.2): the first repeats, the others decay. -/
theorem test_worked_concealment :
    [1000000, -1000000].map (fun v => (decay v, decay (decay v), decay (decay (decay v)))) =
      [(875000, 765625, 669922), (-875000, -765625, -669921)] := by decide +kernel

/-! ## Inputs and mixes (chapters 1 and 3) -/

/-- A gate closing on a steady 2,000,000: frame 1, and frame 255 at both signs (section 1.2). -/
theorem test_worked_gate :
    let closing := fun n => { Channel.initial with gate := Nat.iterate rampAdvance n (rampTarget 0 (rampForce unity)) }
    (chainStep 2000000 (closing 0)).2 = 1992188 ∧ (chainStep 2000000 (closing 254)).2 = 7813 ∧
      (chainStep (-2000000) (closing 254)).2 = -7812 ∧ (chainStep 2000000 (closing 255)).2 = 0 := by decide +kernel

/-- Polarity saturates −8,388,608, and the clip test is on the raw sample at 8,355,840 (R2, R3). -/
theorem test_polarity_and_clip :
    (chainStep (-8388608) { Channel.initial with polarity := true }).2 = 8388607 ∧
      (chainStep 8355839 .initial).1.clip = false ∧ (chainStep (-8355840) .initial).1.clip = true := by decide +kernel

/-- The worked mix of section 3.5: bus 528,063, effective master 219, output 464,032 with no clip. -/
theorem test_worked_mix :
    let sends := [rampForce 1048576, rampForce 989724]
    busValue [1000000, -500000] sends = 528063 ∧ effectiveMaster 231 12 true false 0 = 219 ∧
      satSample (mixRounded 528063 200000 0 (rampForce 524288) (rampForce 1048576) (rampForce 0)) = 464032 := by decide +kernel

/-- The clamped bus of section 3.5: 65 inputs at full scale and code 255 through code 123 give 4,194,304. -/
theorem test_worked_clamped_bus :
    busValue (List.replicate 65 8388607) (List.replicate 65 (rampForce 4194304)) = 2147483647 ∧
      mixRounded 2147483647 0 0 (rampForce (levelGain 123)) (rampForce 0) (rampForce 0) = 4194304 := by decide +kernel

/-! ## Words and messages (chapters 1, 6 and 11) -/

/-- The check over no bytes and over the nine ASCII digits (R93). -/
theorem test_crc_check_value :
    crc16 [] = 0xFFFF#16 ∧
      crc16 [0x31, 0x32, 0x33, 0x34, 0x35, 0x36, 0x37, 0x38, 0x39] = 0x29B1#16 := by decide +kernel

/-- Channel 12 with gain 30, pad 0, phantom 1 goes out as 0x18F2 (section 1.5). -/
theorem test_preamp_word : preampWord 12 30 false true = 0x18F2#16 := by decide +kernel

/-- The released word of input 5: peak 2,500,000, clip 1, mark 12 (section 11.7). -/
theorem test_meter_word : meterWord 2500000 true 12 = 0x192625A0#32 := by decide +kernel

/-- The receiver over the false headers of section 6.3: 0x40 exceeds a PULL's 2, a NOTE's 16 is taken. -/
theorem test_receiver_candidates :
    receiveLoop (receiveFuel [] [0x1C, 0xA3, 0x40, 0xA6, 0x10]) [] [0x1C, 0xA3, 0x40, 0xA6, 0x10] =
      ([0xA6, 0x10], []) := by decide +kernel

/-- The board entry of section 11.5: SET_FIELD, channel 52, phantom on, judged as its words say. -/
theorem test_board_entry :
    let m := Memory.writeWord (Memory.writeWord (Memory.writeWord [] 192 0x07110201#32) 196 0x00140034#32) 200
      0x00000102#32
    judgeEntry (State.reset.setBoard m) 6 = .valid (.setField 52 2 1) ∧
      entryDeadline (State.reset.setBoard m) 6 = 20 ∧
      entryWord (writeEntry 6 .held .held false 2 0x0711 (State.reset.setBoard m)) 6 0 = 0x07110204#32 := by decide +kernel

/-- CTRL reads 0 after a desk reset and 0x100 after a stage reset (section 11.10). -/
theorem test_ctrl_after_reset :
    readCtrl State.reset = 0 ∧ readCtrl (State.initial .stage true true false []) = 0x100#32 := by decide +kernel

/-- A port's MARGINAL after 4, 1 to 3 and 0 bad frames (R98). -/
theorem test_marginal_table :
    marginalAfter 4 false = true ∧ marginalAfter 3 false = false ∧ marginalAfter 1 true = true ∧
      marginalAfter 0 true = false := by decide +kernel

/-- Fibre B comes back: tag 5,002 after 5,000 starts a new run, 5,003 continues it (section 6.2). -/
theorem test_hunt_run :
    let v := { Port.initial false with huntRun := 0, lastGood := some 5000 }
    huntAfter v 5002 = 1 ∧ huntAfter { v with huntRun := 1, lastGood := some 5002 } 5003 = 2 := by decide +kernel

/-- A stage oscillator's holdover frames: 513 cycles for the first |trim| of a run, 511 for a negative trim (R133). -/
theorem test_holdover_lengths :
    holdoverLength 42 41 = 513 ∧ holdoverLength 42 42 = 512 ∧ holdoverLength (-7) 6 = 511 ∧
      holdoverLength 0 0 = 512 := by decide +kernel

/-- A desk period of 512 and a quarter cycles: the ends at 512.25, 1,024.5, 1,536.75 and 2,049 give frames of 513, 512,
512 and 512 cycles, 2,049 in all (R130: each ends at the first cycle at or after its ideal end). -/
theorem test_locked_lengths :
    let c := realign 0 { State.reset.clock with state := .locked, realignPending := true, period := 2049 / 4 }
    ([0, 1, 2, 3].map fun n => (Nat.iterate clockFrame n c).frameLen) = [513, 512, 512, 512] ∧
      (Nat.iterate clockFrame 4 c).measCycles = 2049 ∧ (Nat.iterate clockFrame 4 c).measFrames = 4 := by decide +kernel

/-- A desk frame that completes 300 cycles into the stage's frame ends it there, and the next runs one period (R131). -/
theorem test_realignment_skips :
    let c := realign 300 { State.reset.clock with state := .locked, realignPending := true }
    c.frameLen = 300 ∧ (clockFrame c).frameLen = 512 ∧ (clockFrame c).measFrames = 0 ∧
      (realign 255 c).frameLen = 512 ∧ (realign 255 c).cut = .repeated 255 := by decide +kernel

/-! ## Small states -/

/-- A desk right after reset. -/
def desk : State := State.reset

/-- A stage right after reset, with light on both fibres. -/
def stage : State := State.initial .stage false false false []

/-- `s` in a link state. -/
def linkTo (l : LinkState) (s : State) : State := s.setLink { s.link with state := l }

/-- `s` with one message handed on by its receiver. -/
def hears (t : MsgType) (p : List Byte) (s : State) : State :=
  s.setReceiver { s.receiver with inbox := [{ type := t, payload := p }] }

/-- A frame for a tag, with nothing in it. -/
def frameFor (tag : Nat) : RxFrame := { tag := tag, header := 0, slots := [], control := [] }

/-- A port that is LOCKED. -/
def lockedPort : Port := { Port.initial false with state := .locked }

/-- `s` with one channel. -/
def onChannel (n : Nat) (c : Channel) (s : State) : State := setChannel n c s

/-- `s` at a frame index; at 48 a boundary is due. -/
def atFrame (k : Nat) (s : State) : State := s.setFrameIndex k

/-- A board with the words 0, 1 and 2 of one entry. -/
def posted (i : Nat) (w0 w1 w2 : Word) (s : State) : State :=
  s.setBoard (Memory.writeWord (Memory.writeWord (Memory.writeWord [] (32 * i) w0) (32 * i + 4) w1) (32 * i + 8) w2)

/-- `s` with a scan in progress that stands at entry `i`. -/
def scanningAt (i : Nat) (s : State) : State := s.setScanner { s.scanner with pos := some i }

/-- Whether the sizes that Sized asks for hold, as one check. -/
def sizesHold (s : State) : Bool :=
  let far := farSlots s.role
  let framed := fun (v : Port) => v.buffer.length == 8 && v.buffer.all fun x => x.all fun f => f.slots.length == far
  s.channels.length == 96 && s.preamp.absent.length == 12 && s.mixes.length == 16 &&
    s.mixes.all (fun x => x.sends.length == 112) && s.meters.table.length == 112 && s.meters.store.length == 112 &&
    framed s.portA && framed s.portB && s.deliverer.lastOut.length == far && s.desk.shadow.length == 226 &&
    s.desk.shadow.all (fun e => e.contents.length == 16) && s.stage.live.length == 226 &&
    s.stage.live.all (fun e => e.contents.length == 16) && s.scanner.accepted.length == 32 && s.ring.records.length == 64

/-- The check says what Sized says. -/
theorem sized_of_check {s : State} (h : sizesHold s = true) : Sized s := by
  simp only [sizesHold, Bool.and_eq_true, beq_iff_eq, List.all_eq_true, Option.all_eq_true] at h
  obtain ⟨⟨⟨⟨⟨⟨⟨⟨⟨⟨⟨⟨⟨⟨hc, hp⟩, hx⟩, hxs⟩, hm⟩, hms⟩, ha, haf⟩, hb, hbf⟩, ho⟩, hd⟩, hdc⟩, hl⟩, hlc⟩, hs⟩, hr⟩ := h
  exact { channels := hc, chips := hp, mixes := hx, sends := hxs, meters := hm, store := hms, bufferA := ha,
          bufferB := hb, slotsA := fun f hf => haf _ hf f rfl, slotsB := fun f hf => hbf _ hf f rfl, lastOut := ho,
          shadow := hd, shadowBytes := hdc, live := hl, liveBytes := hlc, accepted := hs, ring := hr }

/-- `s` with a live record. -/
def withLive (record : Nat) (contents : List Byte) (s : State) : State :=
  s.setStage { s.stage with live := s.stage.live.set record { contents := contents, version := 0, stamp := 0 } }

/-- A state whose tables are those of one with their sizes has its sizes. -/
theorem sized_of {s t : State} (h : sizesHold s = true) (e : sizesHold t = sizesHold s) : Sized t :=
  sized_of_check (e.trans h)

/-- The stage reset's tables have their sizes. -/
theorem sizes_stage : sizesHold stage = true := by decide +kernel

/-- The desk reset's tables have their sizes. -/
theorem sizes_desk : sizesHold desk = true := by decide +kernel

/-- The lists of a desk with one dirty record, one in flight and one being adopted. -/
def busyDesk : State :=
  (linkTo .linked desk).setDesk { desk.desk with
    dirty := [3], inFlight := [{ record := 225, version := 1, stamp := 0 }],
    adoption := [{ record := 7, pulled := none }] }

theorem lists_busyDesk : ListsOk busyDesk :=
  ⟨by decide +kernel, by decide +kernel, by decide +kernel, by decide +kernel, by decide +kernel, by decide +kernel,
    by decide +kernel, fun h => absurd (Or.inl (by decide +kernel)) h, fun h => absurd h (by decide +kernel)⟩

/-- Lists that are empty are consistent. -/
theorem lists_empty {s : State} (h : s.desk.dirty = [] ∧ s.desk.inFlight = [] ∧ s.desk.adoption = []) : ListsOk s := by
  obtain ⟨dirty, flight, adopting⟩ := h
  constructor <;> simp [dirty, flight, adopting]

/-- A board in canonical form inside its region. -/
theorem board_ok {s : State} (h : (s.board.wf && s.board.all fun c => decide (c.1 < 0x400)) = true) : BoardOk s := by
  simp only [Bool.and_eq_true, List.all_eq_true, decide_eq_true_eq] at h
  exact h

/-! ## Statements about the whole machine: states that meet their hypotheses -/

theorem test_witness_StepRunsFrontCommand :
    (desk.setPending [.noticeRead, .linkstatRead]).pending = .noticeRead :: [.linkstatRead] ∧ desk.pending = [] := by
  decide +kernel

theorem test_witness_QueueAndRoleKept :
    exec .noticeRead desk = .next (readNotice desk) ∧ ∀ h a b, Instr.noticeRead ≠ .powerOn h a b :=
  ⟨rfl, fun _ _ _ => nofun⟩

/-- Accepted records that name dirty or in-flight records meet AcceptedOk. -/
theorem accepted_of_all {s : State} (hl : s.scanner.accepted.length = 32)
    (h : ∀ x ∈ s.scanner.accepted, ∀ a ∈ x,
      a.record < recordCount ∧ (isDirty s.desk a.record = true ∨ isInFlight s.desk a.record = true)) :
    AcceptedOk s := by
  refine ⟨hl, fun i a ha => h (some a) ?_ a rfl⟩
  rw [acceptedAt, List.getD_eq_getElem?_getD] at ha
  cases hx : s.scanner.accepted[i]? with
  | none => rw [hx] at ha; cases ha
  | some x => rw [hx] at ha; cases ha; exact List.mem_of_getElem? hx

/-- A desk whose three lists are not empty, with an entry ACCEPTED against a record in flight, takes a command. -/
theorem test_witness_ReplicationInvariant :
    let a : Accepted := { record := 225, kind := 1, tag := 0, clamped := false, expiry := 1000 }
    let s := (setAccepted 31 (some a) busyDesk).setPending [.noticeRead]
    ListsOk s ∧ AcceptedOk s ∧ acceptedAt s 31 = some a ∧ step s = .next (readNotice (s.setPending [])) :=
  ⟨⟨lists_busyDesk.1, lists_busyDesk.2, lists_busyDesk.3, lists_busyDesk.4, lists_busyDesk.5, lists_busyDesk.6,
    lists_busyDesk.7, lists_busyDesk.8, lists_busyDesk.9⟩, accepted_of_all (by decide +kernel) (by decide +kernel),
    by decide +kernel, rfl⟩

theorem test_witness_BoardMemoryInvariant :
    let s := (posted 31 0x00000501 0 0 desk).setPending [.noticeRead]
    BoardOk s ∧ s.board ≠ [] ∧ step s = .next (readNotice (s.setPending [])) :=
  ⟨board_ok (by decide +kernel), by decide +kernel, rfl⟩

theorem test_witness_UpdateQueueInvariant :
    let s := (stage.setPreamp { stage.preamp with
      queue := [95, 0], transfer := some { channel := 95, word := 0, prior := ⟨0, false, false, false⟩ } }).setPending
        [.noticeRead]
    QueueOk s ∧ step s = .next (readNotice (s.setPending [])) := by
  refine ⟨⟨?_, ?_, ?_⟩, rfl⟩
  · decide +kernel
  · decide +kernel
  · intro t h
    cases h
    decide

theorem test_witness_CarriedSourceInvariant :
    let s := (desk.setArbiter { desk.arbiter with
      b := { TalkRecord.initial with state := .latched }, carried := some .b }).setPending [.noticeRead]
    CarriedOk s ∧ step s = .next (readNotice (s.setPending [])) := ⟨rfl, rfl⟩

/-- A stage in LOST with the island engaged at a hold of 1 second. -/
def islandStage : State :=
  withLive 225 (1 :: 255 :: List.replicate 14 0)
    ((linkTo .lost stage).setIsland { count := 1000, engaged := true, lastElapsed := 0, lastEngaged := false })

theorem test_witness_LinkStateInvariant :
    let s := islandStage.setPending [.noticeRead]
    MaskOk s ∧ IslandOk s ∧ SilentOk s ∧ s.island.engaged = true ∧ step s = .next (readNotice (s.setPending [])) :=
  ⟨fun _ => rfl, fun _ => by decide +kernel, fun _ => by decide +kernel, rfl, rfl⟩

theorem test_rest_ok (lo hi v : Int) (h : lo ≤ v ∧ v ≤ hi) : RampOk lo hi (rampForce v) :=
  ⟨h, h, Nat.zero_le _, fun _ => rfl, fun hn => absurd rfl hn⟩

theorem test_witness_RangesInvariant :
    let s := (atFrame 48 stage).setPending [.noticeRead]
    RampsOk s ∧ TrimOk s ∧ IndexOk s ∧ step s = .next (readNotice (s.setPending [])) := by
  refine ⟨⟨fun c h => ?_, fun x h => ?_, test_rest_ok 0 unity 0 (by decide)⟩, by unfold TrimOk; decide +kernel,
    Nat.le_refl 48, rfl⟩
  · cases List.eq_of_mem_replicate h
    exact test_rest_ok 0 unity unity (by decide)
  · cases List.eq_of_mem_replicate h
    have h0 : RampOk 0 maxGain (rampForce 0) := test_rest_ok 0 maxGain 0 (by decide)
    refine ⟨fun g hg => ?_, h0, h0, h0⟩
    cases List.eq_of_mem_replicate hg
    exact h0

theorem test_witness_SizesInvariant :
    Sized (stage.setPending [.noticeRead]) ∧
      step (stage.setPending [.noticeRead]) = .next (readNotice stage) :=
  ⟨sized_of sizes_stage rfl, rfl⟩

/-! ## Layouts and arithmetic -/

/-- Frames of 8 bytes, a good one, one with another check and one with an index of 48; and the operands at their
edges. -/
theorem test_witness_FrameRoundTrip :
    (∀ body : List Byte, body ∈ [[0, 47, 0, 0, 0, 0], [0, 48, 0, 0, 0, 0]] → 8 ≤ (withCheck body).length) ∧
    crc16 ((withCheck [0, 47, 0, 0, 0, 0]).take 6) = half16At (withCheck [0, 47, 0, 0, 0, 0]) 6 ∧
    crc16 [0, 47, 0, 0, 0, 0] ≠ half16At [0, 47, 0, 0, 0, 0, 0, 0] 6 ∧
    ((byteAt (withCheck [0, 48, 0, 0, 0, 0]) 1).extractLsb' 0 6).toNat = 48 ∧
    (47 < 48 ∧ ([1, 2, 3, 4] : List Byte).length = 4) ∧
      ((List.replicate 96 (-8388608 : Int)).length = 96 ∧
        ∀ x ∈ List.replicate 96 (-8388608 : Int), -8388608 ≤ x ∧ x ≤ 8388607) ∧
      ((List.replicate 16 (8388607 : Int)).length = 16 ∧
        ∀ x ∈ List.replicate 16 (8388607 : Int), -8388608 ≤ x ∧ x ≤ 8388607) := by decide +kernel

theorem test_witness_MessageRoundTrip :
    (List.replicate 67 (0xA8 : Byte)).length ≤ MsgType.meter.maxPayload ∧
      ([] : List Byte).length ≤ MsgType.hello.maxPayload ∧
      0 ≠ crc16 (MsgType.pull.header :: BitVec.ofNat 8 2 :: [0xA1, 3]) ∧
      MsgType.pull.maxPayload < (3 : Byte).toNat ∧ MsgType.meter.maxPayload < (68 : Byte).toNat := by
  decide +kernel

theorem test_witness_PreampWordLayout : (95 : Nat) < 96 ∧ (60 : Nat) ≤ 60 := by decide

theorem test_witness_LevelArithmetic :
    unity ≠ (rampForce 0).target ∧ (rampForce 0).remaining = 0 ∧ (rampTarget unity (rampForce 0)).remaining = 256 ∧
      (Nat.iterate rampAdvance 255 (rampTarget unity (rampForce 0))).remaining = 1 ∧ inRange 0 unity unity ∧
      (0 : Int) ≤ 8388607 ∧ (-8388608 : Int) ≤ 0 := by
  unfold inRange
  decide +kernel

theorem test_witness_ClampLaw :
    ∀ r ∈ [0, 95, 96, 111, 112, 223, 224, 225], r < recordCount ∧
      (r < 96 ∨ (96 ≤ r ∧ r < 112) ∨ (112 ≤ r ∧ r < 224) ∨ r = 224 ∨ r = 225) := by decide

/-! ## The host's registers and window -/

theorem test_witness_Resets : (0x80#32).getLsbD 7 = true := by decide

/-- Every row of CTRL with the word its name describes, at a desk that releases no hold. -/
theorem test_witness_CtrlWrites :
    (∀ i ∈ [Instr.runStart .word 0x7F, .scanPeriod .word 0x7F, .meterCadence .word 0x7F, .meterHoldSet .word 0x7F,
        .policy .word 0x7F], i ∈ ctrlRows 0x7F ∧ wellFormed i = true) ∧
      (∀ i ∈ [Instr.runStop .word 0, .meterHoldRelease .word 0], i ∈ ctrlRows 0 ∧ wellFormed i = true) ∧
      ¬ (desk.role = .desk ∧ desk.regs.ctrl.hold = true ∧ (0x7F#32).getLsbD 5 = false) := by decide +kernel

/-- A desk that holds its meters, with `n` sweeps counted. -/
def holdingDesk (n : Nat) : State :=
  (desk.setRegs { desk.regs with ctrl := { desk.regs.ctrl with hold := true } }).setMeters
    { desk.meters with sweeps := n }

theorem test_witness_HoldReleased :
    (∀ c ∈ [Instr.meterHoldRelease .word 0, .runStart .word 0x01, .runStop .word 0, .scanPeriod .word 0,
        .meterCadence .word 0, .policy .word 0],
      (c ∈ ctrlRows 0 ∨ c ∈ ctrlRows 0x01) ∧ wellFormed c = true) ∧
      (0#32).getLsbD 5 = false ∧ (1#32).getLsbD 5 = false ∧
      (holdingDesk 1).role = .desk ∧ (holdingDesk 1).regs.ctrl.hold = true ∧
      (holdingDesk 1).meters.table.length = 112 ∧ (holdingDesk 1).meters.store.length = 112 ∧
      2 ^ ((0#32).extractLsb' 3 2).toNat ≤ (holdingDesk 1).meters.sweeps ∧
      (holdingDesk 7).meters.sweeps < 2 ^ ((0x18#32).extractLsb' 3 2).toNat := by decide +kernel

/-- An edit of record 225 that an entry holds, due at superframe 0. -/
def heldEdit : Accepted := { record := 225, kind := 1, tag := 0, clamped := false, expiry := 0 }

/-- Each refused form; a write of the last writable word of entry 31, with a scan at that entry, before it and past it;
and an entry at the scan that it takes, one that is FREE, and one that is POSTED and held. -/
theorem test_witness_HostWrites :
    RefusedWrite .desk (.windowWrite 0x18 .word 0 false) ∧ RefusedWrite .desk (.windowWrite 0x400 .word 0 true) ∧
      RefusedWrite .stage (.windowWrite 0 .word 0 false) ∧ RefusedWrite .desk (.windowWrite 0 .byte 0 false) ∧
      RefusedWrite .desk (.noticeWrite .half 0) ∧ RefusedWrite .desk (.linkstatWrite .word 0) ∧
      (desk.role = .desk ∧ (0x3F4#14).toNat % 4 = 0 ∧ (0x3F4#14).toNat < 0x400 ∧ (0x3F4#14).toNat / 4 % 8 ≤ 5 ∧
        (0x3F4#14).toNat / 32 = 31 ∧ (scanningAt 31 desk).scanner.pos = some 31 ∧
        (scanningAt 0 desk).scanner.pos = some 0 ∧ desk.scanner.pos = none ∧
        (0x14#14).toNat / 32 = 0 ∧ desk.scanner.reads.lookup 5 = none ∧
        isTakeable (scanningAt 31 (posted 31 0x00000501 0 0 desk)) 31 = true ∧
        isTakeable (scanningAt 31 desk) 31 = false ∧
        isTakeable (setAccepted 31 (some heldEdit) (scanningAt 31 (posted 31 0x00000501 0 0 desk))) 31 = false) ∧
      BoardOk desk ∧ BoardOk (scanningAt 31 desk) ∧ BoardOk (scanningAt 0 desk) := by
  refine ⟨?_, ?_, ?_, ?_, ?_, ?_, by decide +kernel, board_ok (by decide +kernel), board_ok (by decide +kernel),
    board_ok (by decide +kernel)⟩ <;> unfold RefusedWrite <;> decide

/-! ## A local frame and a boundary -/

theorem test_witness_ChannelChain :
    inRange (-8388608) 8388607 (-8388608) ∧ RampOk 0 unity Channel.initial.gate ∧
      { Channel.initial with peak := 8388608 }.peak ≤ 8388608 ∧ (rampAdvance Channel.initial.gate).current = unity ∧
      (rampAdvance (rampForce 0)).current = 0 :=
  ⟨by unfold inRange; decide, test_rest_ok 0 unity unity (by decide), by decide, by decide, by decide⟩

/-- A stage with mix 0 at code 231, its button pressed into mix 0 where asked, and the island engaged where asked. -/
def mixStage (pressed engaged : Bool) : State :=
  withLive 96 (231 :: 24 :: 231 :: 231 :: List.replicate 12 0)
    (withLive 224 (47 :: 1 :: List.replicate 14 0)
      ((stage.setButton { stage.button with pressed := pressed }).setIsland { stage.island with engaged := engaged }))

/-- Code 0; each case of the effective master; each condition of the two talk targets, mix 15 the last of a mask. -/
theorem test_witness_MixComputation :
    Sized stage ∧ (liveByte stage 96 0).toNat = 0 ∧
      (∀ pressed engaged, (liveByte (mixStage pressed engaged) (96 + 0) 0).toNat ≠ 0 ∧
        (liveByte (mixStage pressed engaged) 225 1).toNat ≠ 255 ∧
        (mixStage pressed engaged).island.engaged = engaged ∧ (mixStage pressed engaged).button.pressed = pressed ∧
        liveByte (mixStage pressed engaged) 224 0 ≠ 255 ∧
        (liveByte (mixStage pressed engaged) 224 2 ++ liveByte (mixStage pressed engaged) 224 1).getLsbD 0 = true ∧
        levelGain (liveByte (mixStage pressed engaged) (96 + 0) 3).toNat ≠ 0) ∧
      (liveByte islandStage 225 1).toNat = 255 ∧ islandStage.island.engaged = true ∧
      (0x8000#16).getLsbD 15 = true ∧ stage.deliverer.maskInUse.getLsbD 15 = false :=
  ⟨sized_of_check sizes_stage, by decide +kernel⟩

/-- A frame within a superframe and one at its end; a message in progress, one eligible, and none. -/
theorem test_witness_StageFrameSent :
    stage.role = .stage ∧ (atFrame 47 stage).frameIndex < 48 ∧ 48 ≤ (atFrame 48 stage).frameIndex ∧
      (send .pull [0, 1] stage).sched.sending = 0xA3 :: (messageBytes .pull [0, 1]).tail ∧
      stage.sched.sending = [] ∧ NothingEligible stage ∧
      ¬ NothingEligible (stage.setSched { stage.sched with helloDue := true }) :=
  ⟨rfl, by decide +kernel, by decide +kernel, by decide +kernel, rfl,
    ⟨rfl, fun _ => ⟨fun _ => rfl, fun h => absurd h (by decide +kernel)⟩, fun h => absurd h (by decide +kernel)⟩,
    fun h => absurd h.1 (by decide +kernel)⟩

theorem test_witness_DeskFrameSent :
    desk.role = .desk ∧ (atFrame 47 desk).frameIndex < 48 ∧ 48 ≤ (atFrame 48 desk).frameIndex ∧
      (send .hello [0, 1, 0] desk).sched.sending = 0xA1 :: (messageBytes .hello [0, 1, 0]).tail ∧
      desk.sched.sending = [] ∧ NothingEligible desk ∧
      ¬ NothingEligible ((linkTo .linked desk).setDesk { desk.desk with dirty := [225] }) :=
  ⟨rfl, by decide +kernel, by decide +kernel, by decide +kernel, rfl,
    ⟨rfl, fun h => absurd h (by decide +kernel), fun _ h => absurd h (by decide +kernel)⟩,
    fun h => (h.2.2 rfl rfl).2.elim (by decide +kernel) fun k => by
      obtain ⟨e, he, -⟩ := k 225 (List.mem_singleton.2 rfl)
      cases he⟩

/-- A LINKED desk that takes its frames from port A, with a hold and one frame in the buffer. -/
def linkedDesk (hold tag : Nat) : State :=
  (((linkTo .linked desk).setPortA { lockedPort with buffer := lockedPort.buffer.set (tag % 8) (some (frameFor tag)) })
    |>.setSelector { active := some .a, cleanCount := 0 }).setDeliverer { desk.deliverer with hold := hold, cursor := 8 }

/-- An end LINKED on port A with the frame of its cursor there, a header and a pending switchover from B. -/
def delivering (failRun : Nat) (header : Half) (s : State) : State :=
  (((linkTo .linked s).setPortA { lockedPort with
      failRun := failRun, buffer := lockedPort.buffer.set 0 (some { frameFor 8 with header := header }) }).setSelector
    { active := some .a, cleanCount := 0 }).setDeliverer { s.deliverer with cursor := 8, switchover := some (.b, .a) }

/-- Each clause: silence, delivery at both ends with stage talk turned or not and with a port that unlocks, the three
ways to conceal, and a bridge at its 47th frame. -/
theorem test_witness_FarEndFrame :
    (beforeFrame desk).link.state = .down ∧
      (let u := beforeFrame (delivering 0 1 desk);
        let t := frameStep [] u;
        u.link.state = .linked ∧ u.selector.active = some .a ∧ u.deliverer.hold = 0 ∧
          presentFrame (u.port .a) u.deliverer.cursor = some { frameFor 8 with header := 1 } ∧ u.role = .desk ∧
          u.talkSeen = false ∧ t.link.state = .linked ∧ t.portA.state = u.portA.state ∧ t.portB.state = u.portB.state) ∧
      (let u := beforeFrame (delivering 0 0xFFFF stage);
        let t := frameStep [] u;
        presentFrame (u.port .a) u.deliverer.cursor = some { frameFor 8 with header := 0xFFFF } ∧
          u.deliverer.hold = 0 ∧ u.role = .stage ∧ t.link.state = u.link.state ∧ t.portA.state = u.portA.state) ∧
      (let u := beforeFrame (atFrame 47 (delivering 15 1 stage));
        presentFrame (u.port .a) u.deliverer.cursor = some { frameFor 8 with header := 1 } ∧
          (frameStep [] u).link.state ≠ u.link.state) ∧
      (let u := beforeFrame (linkedDesk 7 8);
        u.link.state = .linked ∧ u.deliverer.hold ≠ 0) ∧
      (let u := beforeFrame (linkedDesk 0 16);
        u.deliverer.hold = 0 ∧ presentFrame (u.port .a) u.deliverer.cursor = none) ∧
      (let u := beforeFrame ((linkTo .bridging desk).setLink { desk.link with state := .bridging, bridging := 47 });
        u.link.state = .bridging ∧ u.link.bridging = 47 ∧ u.selector.active = none) := by decide +kernel

/-- A frame that judges nothing, and for one that judges each state of a port, good and failed, up to the 16th. -/
theorem test_witness_FrameTimesJudged :
    (beforeFrame desk).frameIndex = 0 ∧ (beforeFrame (atFrame 48 desk)).frameIndex = 0 ∧
      (let u := beforeFrame (atFrame 1 desk);
        u.frameIndex ≠ 0 ∧ (u.port .a).state = .dark) ∧
      ((beforeFrame (atFrame 47 (desk.setPortA (.initial false)))).port .a).state = .hunting ∧
      (let v := (beforeFrame (atFrame 47 (desk.setPortA { lockedPort with goodNow := true }))).port .a;
        v.state = .locked ∧ v.goodNow = true) ∧
      (let v := (beforeFrame (atFrame 47 (desk.setPortA { lockedPort with failRun := 14 }))).port .a;
        v.state = .locked ∧ v.goodNow = false ∧ v.failRun < 15) ∧
      (let v := (finishScan (settle (atFrame 48 (desk.setPortB { lockedPort with failRun := 15 })))).port .b;
        v.state = .locked ∧ v.goodNow = false ∧ 15 ≤ v.failRun) := by decide +kernel

/-- A desk on port A at the end of a superframe with `bad` bad frames, its last frame time good on both ports, a standby
LOCKED since the last boundary and a pending switchover. -/
def twoPorts (bad : Nat) : State :=
  (((atFrame 48 desk).setPortA { lockedPort with badNow := bad, goodNow := true }).setPortB
    { lockedPort with lockedWhole := true, goodNow := true }).setSelector { active := some .a, cleanCount := 0 }
    |>.setDeliverer { desk.deliverer with switchover := some (.b, .a) } |> linkTo .linked

theorem test_witness_SuperframePorts :
    (atFrame 47 desk).frameIndex < 48 ∧ 48 ≤ (twoPorts 4).frameIndex ∧
      (endSuperframe (atFrame 48 desk)).selector.active = none ∧
      (let u := endSuperframe (twoPorts 4);
        u.selector.active = some .a ∧ (u.port .a).state = .locked ∧ (u.port .a).badNow = 4 ∧
          (u.port .b).state = .locked ∧ (u.port .b).lockedWhole = true ∧ (u.port .b).badNow = 0 ∧
          (u.port .a).marginal = false ∧ u.link.state = .linked ∧ u.deliverer.switchover = some (.b, .a)) ∧
      (let u := endSuperframe (twoPorts 3);
        u.selector.active = some .a ∧ (u.port .a).badNow = 3 ∧ (u.port .a).marginal = false) := by decide +kernel

/-- A stage in LOST whose island timer stands at a count, with a hold of 255 seconds and a dim of 255. -/
def dueIsland (count : Nat) : State :=
  withLive 225 (255 :: 255 :: List.replicate 14 0)
    ((linkTo .lost stage).setIsland { stage.island with count := count })

/-- A stage whose released button has been sampled low a number of times in a row. -/
def sampledStage (counter : Nat) : State := stage.setButton { stage.button with pinLow := true, counter := counter }

/-- Each clause: CONNECTING or not, RUN 0, the timer below and at its period, the island below and at its hold, not
LOST and engaged already, the pin at the present level, at its 19th other sample and at its 20th. -/
theorem test_witness_SuperframeCounters :
    48 ≤ (atFrame 48 desk).frameIndex ∧
    (∀ age ∈ [0, 3], (desk.setLink { desk.link with helloAge := age }).link.helloAge = age) ∧
    (endSuperframe (atFrame 48 (linkTo .connecting desk))).link.state = .connecting ∧
      (let u := endSuperframe (atFrame 48 desk);
        u.link.state ≠ .connecting ∧ u.role = .desk ∧ u.regs.ctrl.run = false) ∧
      (∀ timer ∈ [6, 7], let u := endSuperframe (((atFrame 48 desk).setRegs { desk.regs with
          ctrl := { desk.regs.ctrl with run := true, period := 3 } }).setScanner { desk.scanner with timer := timer });
        u.regs.ctrl.run = true ∧ 2 ^ u.regs.ctrl.period.toNat = 8 ∧ u.scanner.timer = timer) ∧
      (endSuperframe (atFrame 48 stage)).role = .stage ∧ (endSuperframe (atFrame 48 stage)).link.state ≠ .lost ∧
      (∀ count ∈ [254998, 254999], let u := endSuperframe (atFrame 48 (dueIsland count));
        u.role = .stage ∧ u.link.state = .lost ∧ u.island.engaged = false ∧ (liveByte u 225 0).toNat = 255 ∧
          u.island.count = count) ∧
      (endSuperframe (atFrame 48 islandStage)).island.engaged = true ∧
      ∀ counter ∈ [18, 19], let u := endSuperframe (atFrame 48 (sampledStage counter));
        u.button.pressed = false ∧ u.button.counter = counter := by decide +kernel

/-- The last event record, meter and live record are there, at a part of either role. -/
theorem test_witness_HostReads :
    desk.role = .desk ∧ stage.role = .stage ∧ desk.ring.records[63]?.isSome = true ∧
      desk.meters.table[111]?.isSome = true ∧ stage.stage.live[225]?.isSome = true := by decide +kernel

/-! ## The request board and the desk's timers -/

/-- Each clause: no scan; an entry that is not POSTED; a valid request of kind 5 and of kind 1; one that fails; and a
scan that stands at the request. -/
theorem test_witness_BoardScanned :
    let s := scanningAt 0 (posted 31 0x00000501 0 0 desk)
    let e := scanningAt 0 (posted 31 0x00000101 225 0 desk)
    let r := scanningAt 31 (posted 31 0x00000901 0 0 desk)
    (desk.role = .desk ∧ desk.scanner.pos = none ∧ desk.scanner.reads = []) ∧
      s.role = .desk ∧ s.scanner.pos = some 0 ∧ BoardOk s ∧ isTakeable s 31 = true ∧ isTakeable s 30 = false ∧
      judgeEntry s 31 = .valid .replayAll ∧ wordKind (scanWord s 31 0) = 5 ∧
      e.scanner.pos = some 0 ∧ BoardOk e ∧ isTakeable e 31 = true ∧
      judgeEntry e 31 = .valid (.setRecord 225 (List.replicate 16 0)) ∧ wordKind (scanWord e 31 0) = 1 ∧
      e.scanner.accepted.length = 32 ∧
      r.scanner.pos = some 31 ∧ BoardOk r ∧ isTakeable r 31 = true ∧ judgeEntry r 31 = .refuse .refusedKind ∧
      ScanAt (scanningAt 31 s) 31 .replayAll := by
  refine ⟨by decide +kernel, rfl, rfl, board_ok (by decide +kernel), by decide +kernel, by decide +kernel,
    by decide +kernel, by decide +kernel, rfl, board_ok (by decide +kernel), by decide +kernel, by decide +kernel,
    by decide +kernel, by decide +kernel, rfl, board_ok (by decide +kernel), by decide +kernel, by decide +kernel, ?_⟩
  unfold ScanAt
  decide +kernel

/-- A scan at entry 31 with one posted request of a kind, a target and two argument bytes, of tag 0x0711. -/
def asking (kind target args : Nat) (s : State) : State :=
  scanningAt 31 (posted 31 (BitVec.ofNat 32 (0x07110001 + 256 * kind)) (BitVec.ofNat 32 target) (BitVec.ofNat 32 args) s)

/-- R166 at the ends of each range: kinds 0 and 6, record 226, source 2, the first index past the fields of each kind,
modes 0 and 3; and the last values that are valid. -/
theorem test_judged_at_bounds :
    let judged := fun kind target args => judgeEntry (asking kind target args desk) 31
    judged 0 0 0 = .refuse .refusedKind ∧ judged 6 0 0 = .refuse .refusedKind ∧
      judged 1 226 0 = .refuse .refusedTarget ∧ judged 2 226 0 = .refuse .refusedTarget ∧
      judged 3 2 1 = .refuse .refusedTarget ∧ judged 4 2 0 = .refuse .refusedTarget ∧
      (∀ x ∈ [(95, 4), (111, 4), (112, 16), (223, 16), (224, 3), (225, 2)],
        judged 2 x.1 x.2 = .refuse .refusedArgument ∧ judged 2 x.1 (x.2 - 1) = .valid (.setField x.1 (x.2 - 1) 0)) ∧
      judged 3 1 0 = .refuse .refusedArgument ∧ judged 3 1 3 = .refuse .refusedArgument ∧
      judged 3 0 0x09800101 = .valid (.talkPress .a false 0x8001 9) ∧
      judged 3 1 2 = .valid (.talkPress .b true 0 0) ∧ judged 4 1 0 = .valid (.talkRelease .b) ∧
      judged 5 0xFFFF 0 = .valid .replayAll := by decide +kernel

/-- A SET_RECORD of the last member of an adoption set and of one of two, and a SET_FIELD of a record in no set. -/
theorem test_witness_EditsTaken :
    let s := (asking 1 225 0 desk).setDesk { desk.desk with adoption := [{ record := 225, pulled := none }] }
    let v := (asking 1 225 0 desk).setDesk { desk.desk with
      adoption := [{ record := 3, pulled := none }, { record := 225, pulled := some 0 }] }
    let u := asking 2 95 0x3D00 desk
    BoardOk s ∧ Sized s ∧ ScanAt s 31 (.setRecord 225 (List.replicate 16 0)) ∧ isAdopting s.desk 225 = true ∧
      (s.desk.adoption.filter fun e => e.record != 225) = [] ∧
      BoardOk v ∧ Sized v ∧ ScanAt v 31 (.setRecord 225 (List.replicate 16 0)) ∧ isAdopting v.desk 225 = true ∧
      (v.desk.adoption.filter fun e => e.record != 225) ≠ [] ∧
      BoardOk u ∧ Sized u ∧ ScanAt u 31 (.setField 95 0 0x3D) ∧ isAdopting u.desk 95 = false := by
  unfold ScanAt
  exact ⟨board_ok (by decide +kernel), sized_of_check (by decide +kernel), by decide +kernel, by decide +kernel,
    by decide +kernel, board_ok (by decide +kernel), sized_of_check (by decide +kernel), by decide +kernel,
    by decide +kernel, by decide +kernel, board_ok (by decide +kernel), sized_of_check (by decide +kernel),
    by decide +kernel, by decide +kernel⟩

/-- A desk that carries source B, latched. -/
def carryingB : State :=
  desk.setArbiter { desk.arbiter with b := { TalkRecord.initial with state := .latched }, carried := some .b }

/-- Each clause: A pressed momentary over B, B latched again with its longest limit, B released, A released when OFF. -/
theorem test_witness_TalkRequestsTaken :
    BoardOk (asking 3 0 1 carryingB) ∧ CarriedOk (asking 3 0 1 carryingB) ∧
      ScanAt (asking 3 0 1 carryingB) 31 (.talkPress .a false 0 0) ∧
      ScanAt (asking 3 1 0xFF000002 carryingB) 31 (.talkPress .b true 0 255) ∧
      ScanAt (asking 4 1 0 carryingB) 31 (.talkRelease .b) ∧
      (talkRecord (asking 4 1 0 carryingB) .b).state ≠ .off ∧
      ScanAt (asking 4 0 0 carryingB) 31 (.talkRelease .a) ∧
      (talkRecord (asking 4 0 0 carryingB) .a).state = .off := by
  refine ⟨board_ok (by decide +kernel), rfl, ?_⟩
  unfold ScanAt
  decide +kernel

theorem test_witness_ReplayAllTaken :
    let s := asking 5 0xFFFF 0 busyDesk
    BoardOk s ∧ ListsOk s ∧ ScanAt s 31 .replayAll := by
  refine ⟨board_ok (by decide +kernel), ⟨lists_busyDesk.1, lists_busyDesk.2, lists_busyDesk.3, lists_busyDesk.4,
    lists_busyDesk.5, lists_busyDesk.6, lists_busyDesk.7, lists_busyDesk.8, lists_busyDesk.9⟩, ?_⟩
  unfold ScanAt
  decide +kernel

/-- A desk at superframe 1,000 with A momentary and B latched, both timers expiring there. -/
def expiringDesk : State :=
  (desk.setSuperframe 1000).setArbiter
    { a := { TalkRecord.initial with state := .momentary, renewTimer := some 1000 },
      b := { TalkRecord.initial with state := .latched, limitTimer := some 1000, limit := 1 }, carried := some .a }

theorem test_witness_TalkTimeouts :
    expiringDesk.role = .desk ∧ CarriedOk expiringDesk ∧ reached expiringDesk.superframe 1000 = true ∧
      reached expiringDesk.superframe 1001 = false ∧
      ((talkRecord expiringDesk .a).state = .momentary ∧ (talkRecord expiringDesk .a).renewTimer = some 1000) ∧
      (talkRecord expiringDesk .b).state = .latched ∧ (talkRecord expiringDesk .b).limitTimer = some 1000 :=
  ⟨rfl, rfl, by decide +kernel, by decide +kernel, by decide +kernel, by decide +kernel, by decide +kernel⟩

theorem test_witness_DeadlineHeld :
    let a : Accepted := { record := 52, kind := 2, tag := 0x0711, clamped := true, expiry := 200 }
    let s := setAccepted 31 (some a) desk
    s.role = .desk ∧ BoardOk s ∧ Sized s ∧ acceptedAt s 31 = some a ∧ reached s.superframe a.expiry = false ∧
      acceptedAt (s.setSuperframe 200) 31 = some a ∧ reached (s.setSuperframe 200).superframe a.expiry = true :=
  ⟨rfl, board_ok (by decide +kernel), sized_of_check (by decide +kernel), by decide +kernel,
    by decide +kernel, by decide +kernel, by decide +kernel⟩

/-- At superframe 8 a PUSH of superframe 0 has timed out and one of superframe 1 has not; so for a PULL. -/
theorem test_witness_ReplicationTimeouts :
    let d : DeskRepl := { desk.desk with
      inFlight := [{ record := 1, version := 1, stamp := 1 }, { record := 2, version := 1, stamp := 0 }],
      adoption := [{ record := 225, pulled := some 0 }] }
    let s := (desk.setDesk d).setSuperframe 8
    s.role = .desk ∧
      s.desk.inFlight = [⟨1, 1, 1⟩] ++ (⟨2, 1, 0⟩ : InFlight) :: [] ∧ reached s.superframe (1 + 8) = false ∧
      reached s.superframe (0 + 8) = true ∧ (⟨225, some 0⟩ : Adoptee) ∈ s.desk.adoption := by decide +kernel

/-! ## Inputs and preamps -/

/-- A stage whose stepper's timer has expired, with channel 95 to walk up to 60 and the queue empty. -/
def steppingStage : State :=
  (withLive 95 (60 :: List.replicate 15 0) (stage.setPreamp { stage.preamp with queue := [] })).setStepperDue true

theorem test_witness_GainStepper :
    stage.role = .stage ∧ stage.channels.length = 96 ∧ stage.stepperDue = false ∧
      steppingStage.role = .stage ∧ steppingStage.channels.length = 96 ∧ steppingStage.stepperDue = true ∧
      (channelAt steppingStage 95).appliedGain ≠ (liveByte steppingStage 95 0).toNat ∧
      95 ∉ steppingStage.preamp.queue ∧ steppingStage.preamp.transfer = none := by decide +kernel

/-- A stage whose channel 95 is shut in a sequencer state, with a timer that expires at superframe 800. -/
def shutChannel (p : PhantomState) : State :=
  onChannel 95 { Channel.initial with gate := rampForce 0, phantom := p, phantomTimer := some 800 } stage

theorem test_witness_PhantomReactions :
    let on := channelAt (shutChannel .mutingOn) 95
    let off := channelAt (shutChannel .mutingOff) 95
    (shutChannel .mutingOn).role = .stage ∧ (shutChannel .mutingOn).channels.length = 96 ∧
      (on.gate.current = 0 ∧ on.gate.target = 0 ∧ on.phantom = .mutingOn) ∧
      (off.gate.current = 0 ∧ off.gate.target = 0 ∧ off.phantom = .mutingOff) ∧
      (channelAt stage 95).gate.current ≠ 0 ∧
      (channelAt (shutChannel .charging) 95).phantomTimer = some 800 ∧
      (channelAt (shutChannel .charging) 95).phantom = .charging ∧
      (channelAt (shutChannel .discharging) 95).phantom = .discharging ∧
      reached ((shutChannel .charging).setSuperframe 800).superframe 800 = true ∧
      reached ((shutChannel .charging).setSuperframe 799).superframe 800 = false := by decide +kernel

/-- A desk with both talk timers one boundary from their end, a push and a pull one boundary from theirs, and a deadline
ahead. -/
def waitingDesk : State :=
  setAccepted 31 (some { heldEdit with expiry := 1000 }) ((expiringDesk.setSuperframe 999).setDesk { desk.desk with
    inFlight := [{ record := 1, version := 1, stamp := 992 }], adoption := [{ record := 225, pulled := some 992 }] })

/-- A stage with a channel CHARGING one boundary from its end, a transfer in progress and a port at its 14th failed
frame time in a row. -/
def waitingStage : State :=
  (((shutChannel .charging).setSuperframe 799).setPreamp { stage.preamp with
    transfer := some { channel := 95, word := 0, prior := ⟨0, false, false, false⟩ } }).setPortA
      { lockedPort with failRun := 14 }

/-- A timer that may be stopped has not reached its expiry, as one check. -/
def notReached (s : State) (timer : Option Word) : Bool := timer.all fun e => !reached s.superframe e

/-- The check says what NothingDue says of a timer. -/
theorem not_reached {s : State} {timer : Option Word} (h : notReached s timer = true) (e : Word) (he : timer = some e) :
    reached s.superframe e = false := by
  subst he
  simpa [notReached] using h

theorem test_witness_FrameTimesJudged_desk :
    NothingDue waitingDesk ∧ NoScan waitingDesk ∧ waitingDesk.frameIndex < 48 ∧ waitingDesk.desk.inFlight.length ≤ 8 ∧
      48 ≤ (atFrame 48 desk).frameIndex := by
  have notStage : waitingDesk.role ≠ .stage := by decide +kernel
  refine ⟨{
    inbox := rfl, bridge := by decide +kernel, gates := fun h => absurd h notStage,
    phantoms := fun h => absurd h notStage, trim := fun h => absurd h notStage, stepper := fun h => absurd h notStage,
    transfer := fun h => absurd h notStage, pushes := by decide +kernel,
    renews := ?_, limits := ?_, pulls := ?_, deadlines := ?_ }, fun _ => ⟨rfl, rfl⟩, by decide +kernel,
    by decide +kernel, by decide +kernel⟩
  · have h : ∀ src ∈ [TalkSource.a, .b], notReached waitingDesk (talkRecord waitingDesk src).renewTimer = true := by
      decide +kernel
    exact fun _ src _ => not_reached (h src (by cases src <;> decide))
  · have h : ∀ src ∈ [TalkSource.a, .b], notReached waitingDesk (talkRecord waitingDesk src).limitTimer = true := by
      decide +kernel
    exact fun _ src _ => not_reached (h src (by cases src <;> decide))
  · have h : ∀ e ∈ waitingDesk.desk.adoption, notReached waitingDesk (e.pulled.map (· + 8)) = true := by decide +kernel
    exact fun _ e he _ stamp hs => not_reached (h e he) (stamp + 8) (by rw [hs]; rfl)
  · have h : ∀ i < 32, ∀ a ∈ acceptedAt waitingDesk i, reached waitingDesk.superframe a.expiry = false := by decide +kernel
    exact fun _ i hi a ha => h i hi a ha

theorem test_witness_FrameTimesJudged_stage :
    NothingDue waitingStage ∧ NoScan waitingStage ∧
      ∀ p, (waitingStage.port p).state = .locked → (waitingStage.port p).goodNow = false →
        (waitingStage.port p).failRun < 15 := by
  have notDesk : waitingStage.role ≠ .desk := by decide +kernel
  refine ⟨{
    inbox := rfl, bridge := by decide +kernel, gates := by decide +kernel, phantoms := ?_, trim := by decide +kernel,
    stepper := by decide +kernel, transfer := by decide +kernel, renews := fun h => absurd h notDesk,
    limits := fun h => absurd h notDesk, pushes := fun h => absurd h notDesk, pulls := fun h => absurd h notDesk,
    deadlines := fun h => absurd h notDesk }, fun h => absurd h notDesk, ?_⟩
  · have h : ∀ n < 96, notReached waitingStage (channelAt waitingStage n).phantomTimer = true := by decide +kernel
    exact fun _ n hn _ => not_reached (h n hn)
  · intro p
    cases p <;> decide +kernel

/-- The gate-closed reaction of MUTING_ON changes the applied phantom of channel 95. -/
theorem test_witness_PhantomSwitchedShut :
    let s := shutChannel .mutingOn
    let t := gateClosedReaction 95 s
    exec (.gateClosed 95) s = .next t ∧ (channelAt t 95).appliedPhantom ≠ (channelAt s 95).appliedPhantom ∧
      (∀ h a b, Instr.gateClosed 95 ≠ .powerOn h a b) ∧ (∀ width w, Instr.gateClosed 95 ≠ .softReset width w) ∧
      (∀ slots cycles, Instr.gateClosed 95 ≠ .frame slots cycles) ∧
      (channelAt (beforeFrame s) 95).appliedPhantom ≠ (channelAt s 95).appliedPhantom :=
  ⟨rfl, by decide +kernel, fun _ _ _ => nofun, fun _ _ => nofun, fun _ _ => nofun, by decide +kernel⟩

theorem test_witness_TransferStarts :
    stage.role = .stage ∧ stage.preamp.queue = 0 :: List.range' 1 95 ∧ stage.preamp.transfer = none ∧
      steppingStage.preamp.queue = [] := by decide +kernel

/-- A transfer of channel 12 in progress, the prior record valid with gain 30, at a sequencer in ON. -/
def sendingStage : State :=
  (onChannel 12 { Channel.initial with phantom := .on } stage).setPreamp { stage.preamp with
    transfer := some { channel := 12, word := 0x18F2, prior := { gain := 30, pad := false, phantom := false, valid := true } } }

/-- Returned words: no marker; the echo that matches; one that differs, with the overcurrent bit. -/
theorem test_witness_TransferCompletes :
    (∃ tr, sendingStage.preamp.transfer = some tr ∧ tr.channel < 96 ∧ tr.prior.valid = true ∧
        tr.prior.gain = ((0xA780#16).extractLsb' 6 6).toNat ∧ tr.prior.pad = (0xA780#16).getLsbD 5 ∧
        tr.prior.phantom = (0xA780#16).getLsbD 4 ∧ tr.prior.gain ≠ ((0xA008#16).extractLsb' 6 6).toNat) ∧
      sendingStage.role = .stage ∧ sendingStage.channels.length = 96 ∧
      (0x0780#16).extractLsb' 12 4 ≠ 0b1010#4 ∧ (0xA780#16).extractLsb' 12 4 = 0b1010#4 ∧
      (0xA008#16).getLsbD 3 = true ∧ (channelAt sendingStage 12).phantom = .on :=
  ⟨⟨_, rfl, by decide +kernel⟩, by decide +kernel⟩

/-! ## Ports, path and link -/

theorem test_witness_PortLight :
    (desk.port .a).state = .dark ∧ (stage.port .a).state = .hunting ∧
      ((desk.setPortB lockedPort).port .b).state = .locked ∧ desk.selector.active ≠ some .b ∧
      desk.ring.written ≠ 4294967295#32 ∧ desk.ring.records.length = 64 := by decide +kernel

/-- A stage that takes its frames from port A at a cursor, with a realignment pending. -/
def followingStage (cursor : Nat) : State :=
  (((linkTo .linked stage).setPortA lockedPort).setSelector { active := some .a, cleanCount := 0 })
    |>.setDeliverer { stage.deliverer with cursor := cursor }
    |>.setClock { stage.clock with state := .locked, realignPending := true }

/-- That stage with the realignment behind it and a last arrival. -/
def measuringStage (last : Option Arrival) : State :=
  (followingStage 46).setClock { stage.clock with state := .locked, lastArrival := last }

/-- A whole desk frame for tag 47, the last of its superframe. -/
def wholeFrame : List Byte := deskFrame 0 47 0 (List.replicate 16 0) 0 [0, 0, 0, 0]

/-- What the stage reads from it. -/
def wholeRead : RxFrame :=
  { tag := 47, header := 0, slots := List.replicate 17 0, control := [0, 0, 0, 0] }

theorem whole_read : checkFrame .stage wholeFrame = some wholeRead := by decide +kernel

/-- Each relation of the newest tag 47 to the cursor at its edges: ahead by 1, 7, 8, 12,284, 12,285 and 0; a bad
frame; a frame at a port in HUNTING that starts its run; a pending realignment; and a LOCKED clock with each last
arrival, the tag before among them. -/
theorem test_witness_ArrivalFiled :
    checkFrame .stage wholeFrame = some wholeRead ∧
      (∀ last : Option Arrival, (measuringStage last).role = .stage ∧ (measuringStage last).clock.state = .locked ∧
        (measuringStage last).clock.realignPending = false ∧ (measuringStage last).clock.lastArrival = last ∧
        (measuringStage last).selector.active = some .a ∧ ((measuringStage last).port .a).state = .locked) ∧
      checkFrame stage.role (wholeFrame.set 0 1) = none ∧
      (desk.port .a).state = .dark ∧
      ([46, 40, 39, 51, 50, 47].map fun c => tagAhead wholeRead.tag c) = [1, 7, 8, 12284, 12285, 0] ∧
      ((followingStage 46).port .a).state = .locked ∧ (followingStage 46).selector.active = some .a ∧
      (followingStage 46).role = .stage ∧ (followingStage 46).clock.realignPending = true ∧
      (stage.port .a).state = .hunting ∧ (stage.port .a).lastGood = none ∧ stage.selector.active ≠ some .a ∧
      wholeRead.tag = (46 + 1) % 12288 ∧ wholeRead.tag ≠ (45 + 1) % 12288 :=
  ⟨whole_read, fun _ => ⟨rfl, rfl, rfl, rfl, rfl, rfl⟩, by decide +kernel⟩

/-- A stage whose port A has seen tags 45 and 46, in a link state, a bridge entered from CONNECTING or LINKED. -/
def almostLocked (l r : LinkState) (active : Option PortId) : State :=
  (((linkTo l stage).setPortA { Port.initial false with huntRun := 2, lastGood := some 46 }).setSelector
    { active := active, cleanCount := 9 }).setLink
      { stage.link with state := l, bridging := 47, returnTo := some r }

theorem test_witness_PortLocks :
    (checkFrame .desk wholeFrame).map RxFrame.tag = some 47 ∧
      (∀ c : ClockState, (stage.setClock { stage.clock with state := c }).clock.state = c) ∧
      (let s := almostLocked .bridging .linked none;
        48 ≤ (s.setLink { s.link with bridging := 48 }).link.bridging) ∧
      ∀ l ∈ [LinkState.down, .connecting, .linked, .bridging, .lost], ∀ r ∈ [LinkState.connecting, .linked],
        ∀ active ∈ [none, some PortId.b],
        ((almostLocked l r active).port .a).state = .hunting ∧
        checkFrame (almostLocked l r active).role wholeFrame = some wholeRead ∧
        ((almostLocked l r active).port .a).lastGood = some 46 ∧ wholeRead.tag = (46 + 1) % 12288 ∧
        2 ≤ ((almostLocked l r active).port .a).huntRun ∧ (almostLocked l r active).selector.active ≠ some .a ∧
        (almostLocked l r active).link.bridging < 48 ∧ (almostLocked l r active).link.returnTo = some r := by
  refine ⟨by decide +kernel, fun _ => rfl, by decide +kernel, fun l hl r hr active ha => ?_⟩
  have h : ((almostLocked l r active).port .a).state = .hunting ∧ (almostLocked l r active).role = .stage ∧
      ((almostLocked l r active).port .a).lastGood = some 46 ∧ 2 ≤ ((almostLocked l r active).port .a).huntRun ∧
      (almostLocked l r active).selector.active ≠ some .a ∧ (almostLocked l r active).link.bridging < 48 := by
    revert l r active
    decide +kernel
  exact ⟨h.1, by rw [h.2.1]; exact whole_read, h.2.2.1, by decide, h.2.2.2.1, h.2.2.2.2.1, h.2.2.2.2.2, rfl⟩

/-- Port A LOCKED at its 16th failed frame time, with an active port and port B LOCKED or not. -/
def failingStage (active : Option PortId) (standby : PortState) (l : LinkState) : State :=
  (((linkTo l stage).setPortA { lockedPort with failRun := 15 }).setPortB { lockedPort with state := standby })
    |>.setSelector { active := active, cleanCount := 3 }
    |>.setDeliverer { stage.deliverer with switchover := some (.b, .a), run := 65536 }

theorem test_witness_SelectorMoves :
    ∀ active ∈ [none, some PortId.a, some PortId.b], ∀ standby ∈ [PortState.locked, .dark],
      ∀ l ∈ [LinkState.connecting, .linked, .lost],
        let s := failingStage active standby l
        (s.port .a).state = .locked ∧ (s.port .a).goodNow = false ∧ 15 ≤ (s.port .a).failRun ∧
          s.selector.active = active ∧ (s.port .b).state = standby ∧ s.link.state = l ∧
          s.deliverer.switchover = some (.b, .a) ∧ s.clock.measFrames < 4096 := by decide +kernel

theorem test_witness_BridgeLost :
    let s := (linkTo .bridging desk).setLink { desk.link with state := .bridging, bridging := 48, returnTo := some .linked }
    let u := busyDesk.setLink { desk.link with state := .bridging, bridging := 48, returnTo := some .linked }
    let v := s.setLink { s.link with bridging := 47 }
    let w := stage.setLink { s.link with bridging := 48 }
    (s.link.state = .bridging ∧ 48 ≤ s.link.bridging ∧ ListsOk s ∧ s.role = .desk) ∧
      (u.link.state = .bridging ∧ 48 ≤ u.link.bridging ∧ ListsOk u) ∧
      ¬ (v.link.state = .bridging ∧ 48 ≤ v.link.bridging) ∧
      (w.link.state = .bridging ∧ 48 ≤ w.link.bridging ∧ ListsOk w ∧ w.role = .stage) :=
  ⟨⟨rfl, by decide +kernel, lists_empty ⟨rfl, rfl, rfl⟩, rfl⟩, ⟨rfl, by decide +kernel,
    ⟨lists_busyDesk.1, lists_busyDesk.2, lists_busyDesk.3, lists_busyDesk.4, lists_busyDesk.5, lists_busyDesk.6,
      lists_busyDesk.7, fun h => absurd (Or.inr ⟨rfl, rfl⟩) h, fun h => absurd h (by decide +kernel)⟩⟩,
    by decide +kernel, rfl, by decide +kernel, lists_empty ⟨rfl, rfl, rfl⟩, rfl⟩

/-- A HELLO of each role at each end: with heard 0 and 1, in each link state, at a HELLO age of 2 and 3. -/
theorem test_witness_HelloTaken :
    let s := hears .hello [1, 1, 1] (linkTo .connecting desk)
    let u := hears .hello [0, 0, 0] ((linkTo .linked stage).setLink { stage.link with state := .linked, helloAge := 2 })
    s.receiver.inbox = { type := .hello, payload := [1, 1, 1] } :: [] ∧
      byteAt [1, 1, 1] 0 = 1 - (roleCode s.role).setWidth 8 ∧ byteAt [1, 1, 1] 1 ≠ 0 ∧ s.link.state = .connecting ∧
      s.role = .desk ∧ byteAt [0, 1, 1] 0 = (roleCode s.role).setWidth 8 ∧ s.link.roleFault = false ∧
      byteAt [2, 1, 1] 0 ≠ (roleCode s.role).setWidth 8 ∧ byteAt [2, 1, 1] 0 ≠ 1 - (roleCode s.role).setWidth 8 ∧
      u.receiver.inbox = { type := .hello, payload := [0, 0, 0] } :: [] ∧
      byteAt [0, 0, 0] 0 = 1 - (roleCode u.role).setWidth 8 ∧ u.link.state = .linked ∧ u.link.helloAge ≤ 2 ∧
      2 < (hears .hello [0, 1, 0] (linkTo .linked stage)).link.helloAge ∧ desk.link.state ≠ .connecting ∧
      desk.link.state ≠ .linked ∧
      (let v := hears .hello [0, 1, 0] ((linkTo .connecting stage).setLink
          { stage.link with state := .connecting, heard := true });
        v.link.state = .connecting ∧ v.link.heard = true ∧ v.role = .stage ∧
          byteAt [0, 1, 0] 0 = 1 - (roleCode v.role).setWidth 8) := by
  decide +kernel

/-- A LINKED desk, with its lists in use, that hears a stage with heard 0. -/
theorem test_witness_HelloTaken_linked :
    let w := hears .hello [1, 0, 0] busyDesk
    w.link.state = .linked ∧ w.role = .desk ∧ byteAt [1, 0, 0] 0 = 1 - (roleCode w.role).setWidth 8 ∧
      byteAt [1, 0, 0] 1 = 0 ∧ ListsOk w :=
  ⟨rfl, rfl, by decide +kernel, rfl, ⟨lists_busyDesk.1, lists_busyDesk.2, lists_busyDesk.3, lists_busyDesk.4,
    lists_busyDesk.5, lists_busyDesk.6, lists_busyDesk.7, lists_busyDesk.8, lists_busyDesk.9⟩⟩

/-- A CONNECTING desk that hears a stage: fresh, or not with each policy and binding. -/
def rejoining (fresh : Byte) (policy : Policy) (binding : Binding) : State :=
  ((hears .hello [1, 1, fresh] (linkTo .connecting desk)).setRegs
    { desk.regs with ctrl := { desk.regs.ctrl with policy := policy } }).setDesk { desk.desk with binding := binding }

theorem test_witness_RejoinDecided (fresh : Byte) (policy : Policy) (binding : Binding) :
    let s := rejoining fresh policy binding
    s.role = .desk ∧ s.link.state = .connecting ∧ ListsOk s ∧ Sized s ∧
      s.receiver.inbox = { type := .hello, payload := [1, 1, fresh] } :: [] ∧ byteAt [1, 1, fresh] 0 = 1 ∧
      byteAt [1, 1, fresh] 1 ≠ 0 ∧ byteAt [1, 1, fresh] 2 = fresh ∧ s.desk.binding = binding ∧
      s.regs.ctrl.policy = policy :=
  ⟨rfl, rfl, lists_empty ⟨rfl, rfl, rfl⟩, sized_of sizes_desk rfl, rfl, rfl,
    by decide +revert, rfl, rfl, rfl⟩

/-- A desk that has every record dirty, so that its adoption has no record to take: LINK_STATE, then ADOPT_DONE with
0. -/
theorem test_witness_RejoinDecided_empty :
    let s := (rejoining 0 .adopt .unbound).setDesk { desk.desk with dirty := List.range 226 }
    let t := consumeHead .hello s
    ListsOk s ∧ exec .helloReceived s = .next t ∧ t.desk.adoption = [] ∧
      (t.ring.records.take 2).map (fun e => (e.type, e.detail)) = [(3, 0x0201), (6, 0)] :=
  ⟨⟨List.nodup_range, fun _ h => List.mem_range.1 h, List.nodup_nil, nofun, by decide, nofun, nofun, fun _ => rfl,
    fun _ => rfl⟩, rfl, by decide +kernel, by decide +kernel⟩

/-! ## Timers of the stage -/

/-- A stage at a frame with its clock in a state, run position 0. -/
def clockedStage (c : ClockState) (trim : Int) (cut : FrameCut) : State :=
  stage.setClock { stage.clock with state := c, trim := trim, cut := cut }

/-- Each clause: the hold reached at this boundary and one before it, with no port LOCKED; the 20th sample and the
19th; a trim period of 4,096 frames and of 4,095; each clock state at a frame, a pending realignment, a cut frame, and
a frame at which the link bridges. -/
theorem test_witness_StageTimers :
    stage.role = .stage ∧
      (atFrame 47 stage).frameIndex < 48 ∧ 48 ≤ (atFrame 48 (dueIsland 0)).frameIndex ∧
      (∀ count ∈ [254998, 254999], let u := endSuperframe (atFrame 48 (dueIsland count));
        u.link.state = .lost ∧ u.island.engaged = false ∧ (liveByte u 225 0).toNat = 255 ∧ u.island.count = count ∧
          u.portA.state ≠ .locked ∧ u.portB.state ≠ .locked) ∧
      (∀ counter ∈ [18, 19], (sampledStage counter).button.pressed = false ∧
        (sampledStage counter).button.counter = counter) ∧
      4096 ≤ (stage.setClock { stage.clock with measFrames := 4096 }).clock.measFrames ∧
      (stage.setClock { stage.clock with measFrames := 4095 }).clock.measFrames < 4096 ∧
      (∀ c ∈ [ClockState.free, .locked, .holdover], ∀ trim ∈ [(63 : Int), -64, 0],
        ∀ cut ∈ [FrameCut.whole, .repeated 1, .skipped 256],
          let u := beforeFrame (clockedStage c trim cut);
          u.clock.state = c ∧ u.clock.trim = trim ∧ u.clock.cut = cut ∧ u.clock.realignPending = false) ∧
      (beforeFrame (followingStage 46)).clock.realignPending = true ∧
      (frameStep [] (beforeFrame stage)).link.state = (beforeFrame stage).link.state ∧
      (frameStep [] (beforeFrame (atFrame 47 (delivering 15 1 stage)))).link.state ≠
        (beforeFrame (atFrame 47 (delivering 15 1 stage))).link.state := by decide +kernel

/-! ## Messages begun and received -/

theorem test_witness_DeskMessagesBegin :
    let h := (linkTo .connecting desk).setSched { desk.sched with helloDue := true }
    let p := (linkTo .linked desk).setDesk { desk.desk with
      adoption := [{ record := 225, pulled := none }, { record := 3, pulled := none }] }
    let q := (linkTo .linked desk).setDesk { desk.desk with
      dirty := [225, 3, 9], inFlight := [{ record := 225, version := 1, stamp := 0 }] }
    (h.sched.sending = [] ∧ h.sched.helloDue = true) ∧
      (p.sched.sending = [] ∧ p.role = .desk ∧ p.sched.helloDue = false ∧ p.link.state = .linked ∧
        (⟨3, none⟩ : Adoptee) ∈ p.desk.adoption ∧ p.desk.adoption.countP (fun e => e.pulled.isSome) < 8 ∧
        ∀ x ∈ p.desk.adoption, x.pulled = none → 3 ≤ x.record) ∧
      (q.sched.sending = [] ∧ q.role = .desk ∧ q.sched.helloDue = false ∧ q.link.state = .linked ∧
        q.desk.dirty = [225] ++ 3 :: [9] ∧ (∀ x ∈ [225], ∃ e ∈ q.desk.inFlight, e.record = x) ∧
        (∀ e ∈ q.desk.inFlight, e.record ≠ 3) ∧ q.desk.inFlight.length < 8 ∧
        ∀ e ∈ q.desk.adoption, e.pulled ≠ none) := by decide +kernel

theorem test_witness_StageMessagesBegin :
    let r := (linkTo .connecting stage).setSched { stage.sched with replies := [.ack 225 7] }
    let p := (linkTo .linked stage).setSched { stage.sched with replies := [.report 225] }
    let n := (linkTo .linked stage).setRing { stage.ring with written := 1 }
    let u := (linkTo .linked stage).setSched { stage.sched with statusDue := true }
    (r.role = .stage ∧ r.sched.sending = [] ∧ r.sched.helloDue = false ∧ r.sched.replies = .ack 225 7 :: [] ∧
        r.link.state = .connecting) ∧
      (p.sched.replies = .report 225 :: [] ∧ p.link.state = .linked ∧ p.stage.live[225]?.isSome = true) ∧
      (n.link.state = .linked ∧ n.sched.replies = [] ∧ n.sched.noteCursor.toNat < n.ring.written.toNat ∧
        n.ring.records.length = 64) ∧
      (u.link.state = .linked ∧ u.sched.replies = [] ∧ u.ring.written.toNat ≤ u.sched.noteCursor.toNat ∧
        u.sched.statusDue = true) := by decide +kernel

/-- A LINKED stage about to take the group at a cursor. -/
def meteringStage (cursor : Nat) : State :=
  ((linkTo .linked stage).setMeters { stage.meters with cursor := cursor, mark := 127 }).setSched
    { stage.sched with meterCount := 1 }

theorem test_witness_MeterTaken :
    ∀ cursor ∈ [0, 96], let s := meteringStage cursor
      s.role = .stage ∧ s.sched.sending = [] ∧ s.sched.helloDue = false ∧ s.link.state = .linked ∧
        s.sched.replies = [] ∧ s.ring.written.toNat ≤ s.sched.noteCursor.toNat ∧ s.sched.statusDue = false ∧
        s.sched.meterCount < 2 ∧ Sized s ∧ s.meters.cursor < 112 ∧ s.mixes[15]?.isSome = true := by
  intro cursor h
  have hc : (meteringStage cursor).ring.written.toNat ≤ (meteringStage cursor).sched.noteCursor.toNat ∧
      (meteringStage cursor).sched.meterCount < 2 ∧ (meteringStage cursor).meters.cursor < 112 := by
    revert cursor
    decide +kernel
  exact ⟨rfl, rfl, rfl, rfl, rfl, hc.1, rfl, hc.2.1,
    sized_of sizes_stage rfl, hc.2.2, rfl⟩

/-- The payload of a PUSH or REPORT of a record, with a version and one content byte in place `k`. -/
def pushOf (record k : Nat) (b : Byte) : List Byte :=
  be16 (BitVec.ofNat 16 record) ++ be32 7 ++ (List.replicate 16 0).set k b

theorem test_witness_PushPullTaken :
    (hears .push (pushOf 225 0 1) (linkTo .linked stage)).receiver.inbox =
        { type := .push, payload := pushOf 225 0 1 } :: [] ∧
      (hears .pull [0, 225] (linkTo .linked stage)).receiver.inbox = { type := .pull, payload := [0, 225] } :: [] ∧
      stage.role = .stage ∧ (linkTo .linked stage).link.state = .linked ∧ stage.link.state ≠ .linked ∧
      (half16At (pushOf 225 0 1) 0).toNat = 225 ∧ (half16At (pushOf 95 0 1) 0).toNat = 95 ∧
      (half16At (pushOf 226 0 1) 0).toNat = 226 := by decide +kernel

/-- Channel 95 in each sequencer state, with its live phantom field 0 or 1, about to take a PUSH that changes it. -/
theorem test_witness_ChannelRecordApplied :
    let s := hears .push (pushOf 95 2 1) (linkTo .linked (shutChannel .discharging))
    let u := hears .push (pushOf 95 1 1) (linkTo .linked
      (withLive 95 (0 :: 0 :: 1 :: List.replicate 13 0) (onChannel 95 { Channel.initial with phantom := .on } stage)))
    (s.role = .stage ∧ s.link.state = .linked ∧ (half16At (pushOf 95 2 1) 0).toNat = 95 ∧
        byteAt (clampContents 95 ((List.range 16).map fun j => byteAt (pushOf 95 2 1) (6 + j))) 2 = 1 ∧
        liveByte s 95 2 = 0 ∧ (channelAt s 95).gate.current = 0) ∧
      (u.role = .stage ∧ u.link.state = .linked ∧
        byteAt (clampContents 95 ((List.range 16).map fun j => byteAt (pushOf 95 1 1) (6 + j))) 2 = 0 ∧
        liveByte u 95 2 = 1 ∧ (channelAt u 95).gate.current ≠ 0 ∧ liveByte u 95 1 = 0) ∧
      (95 ∈ s.preamp.queue ∧ 95 ∉ (s.setPreamp { s.preamp with queue := [3] }).preamp.queue) ∧
      Sized s :=
  ⟨by decide +kernel, by decide +kernel, by decide +kernel, sized_of_check (by decide +kernel)⟩

/-- A matching ACK of record 225, a stale one, a late one of record 3, and entry 31 ACCEPTED against 225. -/
theorem test_witness_AckTaken :
    let a : Accepted := { record := 225, kind := 1, tag := 0, clamped := true, expiry := 1000 }
    let s := hears .ack [0, 225, 0, 0, 0, 1] (setAccepted 31 (some a) busyDesk)
    let d := hears .ack [0, 225, 0, 0, 0, 1]
      (busyDesk.setDesk { busyDesk.desk with dirty := [] })
    s.role = .desk ∧ BoardOk s ∧ ListsOk s ∧ Sized s ∧
      s.receiver.inbox = { type := .ack, payload := [0, 225, 0, 0, 0, 1] } :: [] ∧
      (half16At [0, 225, 0, 0, 0, 1] 0).toNat = 225 ∧ (⟨225, 1, 0⟩ : InFlight) ∈ s.desk.inFlight ∧
      word32At [0, 225, 0, 0, 0, 1] 2 = 1 ∧ word32At [0, 225, 0, 0, 0, 9] 2 ≠ 1 ∧
      (∀ e ∈ s.desk.inFlight, e.record ≠ 3) ∧ acceptedAt s 31 = some a ∧
      (half16At [0, 226, 0, 0, 0, 1] 0).toNat = 226 ∧ d.desk.inFlight ≠ [] :=
  ⟨rfl, board_ok (by decide +kernel), ⟨lists_busyDesk.1, lists_busyDesk.2, lists_busyDesk.3, lists_busyDesk.4,
    lists_busyDesk.5, lists_busyDesk.6, lists_busyDesk.7, lists_busyDesk.8, lists_busyDesk.9⟩,
    sized_of sizes_desk rfl, by decide +kernel⟩

/-- The single member 7 of an adoption set, and a set with a second member. -/
theorem test_witness_ReportTaken :
    let s := hears .report (pushOf 7 0 1) busyDesk
    let u := hears .report (pushOf 7 0 1) (busyDesk.setDesk { busyDesk.desk with
      adoption := [{ record := 7, pulled := some 0 }, { record := 225, pulled := none }] })
    s.role = .desk ∧ Sized s ∧ s.receiver.inbox = { type := .report, payload := pushOf 7 0 1 } :: [] ∧
      (half16At (pushOf 7 0 1) 0).toNat = 7 ∧ (⟨7, none⟩ : Adoptee) ∈ s.desk.adoption ∧ ListsOk s ∧
      (s.desk.adoption.filter fun e => e.record != 7) = [] ∧ (u.desk.adoption.filter fun e => e.record != 7) ≠ [] ∧
      ∀ e ∈ s.desk.adoption, e.record ≠ 225 :=
  ⟨rfl, sized_of sizes_desk rfl, by decide +kernel, by decide +kernel,
    by decide +kernel, ⟨lists_busyDesk.1, lists_busyDesk.2, lists_busyDesk.3, lists_busyDesk.4, lists_busyDesk.5,
    lists_busyDesk.6, lists_busyDesk.7, lists_busyDesk.8, lists_busyDesk.9⟩, by decide +kernel, by decide +kernel,
    by decide +kernel⟩

theorem test_witness_NoteStatusTaken :
    desk.role = .desk ∧
      (hears .note ((List.replicate 16 0).set 9 1) desk).receiver.inbox =
        { type := .note, payload := (List.replicate 16 0).set 9 1 } :: [] ∧
      byteAt ((List.replicate 16 0).set 9 1) 9 = 1 ∧ byteAt (List.replicate 16 0) 9 ≠ 1 ∧
      desk.ring.written ≠ 4294967295#32 ∧
      (hears .status (List.replicate 8 1) desk).receiver.inbox =
        { type := .status, payload := List.replicate 8 1 } :: [] := by decide +kernel

/-- The payload of the METER message that ends a sweep: first index 96, 16 words. -/
def lastGroup : List Byte := 12 :: 96 :: 16 :: List.replicate 64 1

theorem test_witness_MeterReceived :
    (hears .meter lastGroup desk).role = .desk ∧ Sized (hears .meter lastGroup desk) ∧
      (hears .meter lastGroup desk).receiver.inbox = { type := .meter, payload := lastGroup } :: [] ∧
      (3 ≤ lastGroup.length ∧ (byteAt lastGroup 1).toNat ≤ 111 ∧ 1 ≤ (byteAt lastGroup 2).toNat ∧
        (byteAt lastGroup 2).toNat ≤ 16 ∧ (byteAt lastGroup 1).toNat + (byteAt lastGroup 2).toNat = 112 ∧
        lastGroup.length = 3 + 4 * (byteAt lastGroup 2).toNat) ∧
      ¬ (([0, 111, 2] : List Byte).length = 3 + 4 * (byteAt [0, 111, 2] 2).toNat) ∧
      desk.regs.ctrl.hold = false ∧ (holdingDesk 0).regs.ctrl.hold = true ∧
      2 ^ desk.regs.ctrl.cadence.toNat ≤ min 255 (desk.meters.sweeps + 1) ∧
      (holdingDesk 0).meters.store.getD 111 none = none :=
  ⟨rfl, sized_of sizes_desk rfl, by decide +kernel⟩

theorem test_witness_OtherRoleIdle :
    desk.role = .desk ∧ stage.role = .stage ∧ desk.receiver.inbox = [] ∧
      (hears .push (pushOf 225 0 1) desk).receiver.inbox = { type := .push, payload := pushOf 225 0 1 } :: [] ∧
      (hears .meter lastGroup stage).receiver.inbox = { type := .meter, payload := lastGroup } :: [] :=
  ⟨rfl, rfl, rfl, rfl, rfl⟩

/-! ## One step of a small state -/

/-- The withdraw of a POSTED entry (section 9.3): a FREE before the scan's read, and one after it that leaves the
request taken, with DONE over the FREE. -/
theorem test_withdraw_raced :
    let s := scanningAt 31 (posted 31 0x07110501 0 0 desk)
    entryWord (finishScan (writeWindow 0x3E0 .word 0 false s)) 31 0 = 0 ∧
      entryWord (finishScan (writeWindow 0x3E0 .word 0 true s)) 31 0 = 0x07110503 := by decide +kernel

/-- A request posted into an ACCEPTED entry is passed over at the scan's read of it (section 9.3): its deadline right
after the read drops the accepted record, and the scan still does not take it. -/
theorem test_held_entry_passed_over :
    let s := setAccepted 31 (some heldEdit) (scanningAt 31 (posted 31 0x07110501 0 0 desk))
    let t := finishScan (deadlineExpiry 31 (writeWindow 0x3E0 .word 0x07110501 true s))
    acceptedAt t 31 = none ∧ entryWord t 31 0 = 0x00000104 ∧ t.desk.dirty = [] := by decide +kernel

/-- The 48th frame time of a superframe counts in it (section 6.2): a LOCKED port with 3 bad frames and no good frame in
the last frame time is MARGINAL at the boundary. Before the 48th frame no boundary comes. -/
theorem test_last_frame_time_counts :
    let v := { lockedPort with badNow := 3 }
    (superframeStep false (atFrame 48 (desk.setPortA v))).portA.marginal = true ∧
      (superframeStep false (atFrame 48 (desk.setPortA v))).portA.badLast = 4 ∧
      boundaryDue (atFrame 47 desk) = false := by decide +kernel

/-- The 20th low sample in a row presses the button and the 19th does not (section 4.5). -/
theorem test_debounce_twentieth :
    (sampleButton true (sampledStage 18)).button = ⟨true, false, 19⟩ ∧
      (sampleButton true (sampledStage 19)).button = ⟨true, true, 0⟩ := by decide +kernel

/-- The island engages in the boundary that brings the timer to the hold (section 3.6). -/
theorem test_island_engages_at_hold :
    (engageIsland (countIsland (dueIsland 254998))).island.engaged = false ∧
      (engageIsland (countIsland (dueIsland 254999))).island = ⟨255000, true, 0, false⟩ := by decide +kernel

/-- The ACK of section 8.6's sequence: the matching entry goes, and the record is CLEAN with its confirmed version. -/
theorem test_ack_cleans :
    let t := acknowledge 225 1 busyDesk
    t.desk.inFlight = [] ∧ replState t.desk 225 = .clean ∧ (shadowAt t 225).confirmed = 1 := by decide +kernel

/-- A REPORT of CHANNEL record 7 with 1 in every byte: the four fields of the layout are shown, pushed and edited, and
the bytes that section 11.6 marks as 0 are not. -/
theorem test_report_marked_bytes :
    let t := adoptReport 7 (List.replicate 16 1) busyDesk
    (List.range 4).map (recordWord t 7) = [0x01010101, 0, 0, 0] ∧
      (pushPayload t 7).drop 6 = List.replicate 4 1 ++ List.replicate 12 0 ∧
      isClamped 7 ((shadowContents t 7).set 0 30) = false := by decide +kernel

/-- The preemption of section 4.3's sequence: A pressed over B writes TALK_PREEMPTED with subject 1. -/
theorem test_preemption :
    let t := pressTalk .a false 3 0 carryingB
    t.arbiter.carried = some .a ∧ (t.ring.records.getD 0 .initial).type = 7 ∧
      (t.ring.records.getD 0 .initial).subject = 1 ∧ headerMask t = 3 := by decide +kernel

/-- The notices of section 9.6: BOARD read, LINK set after the read, a write of 0 clears BOARD alone. -/
theorem test_notice_survives :
    let t := writeNotice 0 (setNotice .link (readNotice (setNotice .board desk)))
    t.regs.notice = noticeBit .link ∧ t.regs.snapshot = 0 := by decide +kernel

/-- The hold of section 5.2's sequence: peak 2,500,000, clip 1 and mark 12 after three merged words of input 5. -/
theorem test_hold_merges :
    mergeWord (some (mergeWord (some (mergeWord none (meterWord 100000 false 10))) (meterWord 2500000 true 11)))
      (meterWord 40000 false 12) = 0x192625A0#32 := by decide +kernel

end Sys2Proof.Tests
end

section
/-! The input chain of one channel for one frame (section 1.1, R1 to R5): rounding under a gain of at most unity,
polarity, the clip test, and what `chainStep` makes of them. -/

namespace Sys2Proof.Machine

/-- Unity passes a value exactly (R4). -/
theorem gainRound_mul_unity (y : Int) : gainRound (y * unity) = y := by
  simp only [gainRound, unity]; omega

theorem gainRound_zero : gainRound 0 = 0 := by decide

/-- A gain of at most unity never moves a value up past itself (R34). -/
theorem gainRound_mul_of_nonneg {v g : Int} (hv : 0 ≤ v) (hg : inRange 0 unity g) :
    inRange 0 v (gainRound (v * g)) := by
  obtain ⟨hg0, hg1⟩ := hg
  have hlow : 0 ≤ v * g := mul_nonneg hv hg0
  have hhigh : v * g ≤ v * 1048576 := mul_le_mul_of_nonneg_left hg1 hv
  simp only [inRange, gainRound]
  omega

theorem gainRound_mul_of_nonpos {v g : Int} (hv : v ≤ 0) (hg : inRange 0 unity g) :
    inRange v 0 (gainRound (v * g)) := by
  obtain ⟨hg0, hg1⟩ := hg
  have hhigh : v * g ≤ 0 := mul_nonpos_of_nonpos_of_nonneg hv hg0
  have hlow : v * 1048576 ≤ v * g := mul_le_mul_of_nonpos_left hg1 hv
  simp only [inRange, gainRound]
  omega

/-- A gain of at most unity keeps a range that holds 0. -/
theorem gainRound_mul_inRange {lo hi v g : Int} (hlo : lo ≤ 0) (hhi : 0 ≤ hi) (hv : inRange lo hi v)
    (hg : inRange 0 unity g) : inRange lo hi (gainRound (v * g)) := by
  obtain ⟨hv0, hv1⟩ := hv
  rcases le_total 0 v with h | h
  · obtain ⟨h0, h1⟩ := gainRound_mul_of_nonneg h hg
    exact ⟨hlo.trans h0, h1.trans hv1⟩
  · obtain ⟨h0, h1⟩ := gainRound_mul_of_nonpos h hg
    exact ⟨hv0.trans h0, h1.trans hhi⟩

/-- Polarity on a sample: only −8,388,608 saturates (R3). -/
theorem applyPolarity_eq (polarity : Bool) {x : Int} (hx : inRange (-8388608) 8388607 x) :
    applyPolarity polarity x = if polarity then (if x = -8388608 then 8388607 else -x) else x := by
  obtain ⟨hlow, hhigh⟩ := hx
  cases polarity
  · rfl
  · simp only [applyPolarity, satSample, saturate, if_true]
    split_ifs <;> omega

theorem applyPolarity_inRange (polarity : Bool) {x : Int} (hx : inRange (-8388608) 8388607 x) :
    inRange (-8388608) 8388607 (applyPolarity polarity x) := by
  rw [applyPolarity_eq polarity hx]
  obtain ⟨hlow, hhigh⟩ := hx
  simp only [inRange]
  split_ifs <;> omega

theorem clips_iff (x : Int) : clips x = true ↔ 8355840 ≤ x ∨ x ≤ -8355840 := by simp [clips]

/-- The post-gate sample is a sample (R4). -/
theorem chainStep_sample_inRange {x : Int} {c : Channel} (hx : inRange (-8388608) 8388607 x)
    (hgate : RampOk 0 unity c.gate) : inRange (-8388608) 8388607 (chainStep x c).2 :=
  gainRound_mul_inRange (by decide) (by decide) (applyPolarity_inRange c.polarity hx) (rampAdvance_ok hgate).current

theorem natAbs_le_of_sample {p : Int} (hp : inRange (-8388608) 8388607 p) : p.natAbs ≤ 8388608 := by
  obtain ⟨hlow, hhigh⟩ := hp
  omega

/-- Settles O23: the post-gate sample is the rounded product of the sample after polarity and the advanced gate. -/
theorem channelChain : Obligations.ChannelChain := by
  unfold Obligations.ChannelChain
  intro x c hx hgate hpeak
  rw [← applyPolarity_eq c.polarity hx]
  intro y g r
  have hsample : inRange (-8388608) 8388607 r.2 := chainStep_sample_inRange hx hgate
  have hproduct : r.2 = gainRound (y * g.current) := rfl
  refine ⟨rfl, hsample, fun hopen => ?_, fun hshut => ?_, ?_, rfl,
    max_le hpeak (natAbs_le_of_sample hsample), rfl⟩
  · rw [hproduct, hopen, gainRound_mul_unity]
  · rw [hproduct, hshut, mul_zero, gainRound_zero]
  · have hclip : r.1.clip = (c.clip || clips x) := rfl
    rw [hclip, Bool.or_eq_true, clips_iff]

end Sys2Proof.Machine
end

section
/-! The rules of the shared operations: what an event, an entry in the preamp update queue and a replaced channel read
as, part by part (R17, R173). -/

namespace Sys2Proof.Machine

/-! ## The Event Writer -/

/-- The ring after an event of this end's own (R173). -/
@[simp] theorem writeEvent_ring (type : EventType) (subject : Nat) (detail : Word) (s : State) :
    (writeEvent type subject detail s).ring = ringWith type subject detail s := by
  unfold writeEvent appendEvent ringWith
  split <;> rfl

@[simp] theorem writeEvent_channels (type : EventType) (subject : Nat) (detail : Word) (s : State) :
    (writeEvent type subject detail s).channels = s.channels :=
  (writeEvent_keeps type subject detail s).part .channels

@[simp] theorem writeEvent_preamp (type : EventType) (subject : Nat) (detail : Word) (s : State) :
    (writeEvent type subject detail s).preamp = s.preamp :=
  (writeEvent_keeps type subject detail s).part .preamp

/-- The record an event leaves depends on the ring, the role and the superframe count alone (R173). -/
theorem ringWith_congr {type : EventType} {subject : Nat} {detail : Word} {s t : State} (hring : t.ring = s.ring)
    (hrole : t.role = s.role) (hcount : t.superframe = s.superframe) :
    ringWith type subject detail t = ringWith type subject detail s := by
  unfold ringWith
  rw [hring, hrole, hcount]

/-! ## Channels -/

theorem channelAt_of_channels {s t : State} {n : Nat} (h : t.channels = s.channels) :
    channelAt t n = channelAt s n := by
  rw [channelAt, channelAt, h]

@[simp] theorem setChannel_channels (n : Nat) (c : Channel) (s : State) :
    (setChannel n c s).channels = s.channels.set n c := rfl

@[simp] theorem setChannel_preamp (n : Nat) (c : Channel) (s : State) : (setChannel n c s).preamp = s.preamp := rfl

@[simp] theorem setChannel_ring (n : Nat) (c : Channel) (s : State) : (setChannel n c s).ring = s.ring := rfl

/-- Writing a channel back leaves the table as it is. -/
theorem set_channelAt (n : Nat) (s : State) : s.channels.set n (channelAt s n) = s.channels := by
  rcases lt_or_ge n s.channels.length with h | h
  · rw [channelAt, List.getD_eq_getElem _ _ h, List.set_getElem_self]
  · rw [List.set_eq_of_length_le h]

/-- A channel read back after a write of the table at its number; `channelAt_of_set_other` is any other number. -/
theorem channelAt_of_set_self {t : State} {n : Nat} {c : Channel} {cs : List Channel} (h : t.channels = cs.set n c)
    (hn : n < cs.length) : channelAt t n = c := by
  rw [channelAt, h, List.getD_eq_getElem?_getD, List.getElem?_set_self hn, Option.getD_some]

theorem channelAt_of_set_other {s t : State} {n m : Nat} {c : Channel} (h : t.channels = s.channels.set n c)
    (hm : m ≠ n) : channelAt t m = channelAt s m := by
  simp only [channelAt, h, List.getD_eq_getElem?_getD, List.getElem?_set_ne hm.symm]

/-! ## The preamp update queue -/

/-- A queue with a channel at the tail, unless it stands in it already (R17). -/
def queueWith (n : Nat) (q : List Nat) : List Nat := if n ∈ q then q else q ++ [n]

theorem mem_queueWith (n : Nat) (q : List Nat) : n ∈ queueWith n q := by
  unfold queueWith
  split
  case isTrue h => exact h
  case isFalse => simp

@[simp] theorem queueWith_of_mem {n : Nat} {q : List Nat} (h : n ∈ q) : queueWith n q = q := if_pos h

@[simp] theorem queueWith_of_not_mem {n : Nat} {q : List Nat} (h : n ∉ q) : queueWith n q = q ++ [n] := if_neg h

/-- A channel enqueued twice stands in the queue once. -/
@[simp] theorem queueWith_queueWith (n : Nat) (q : List Nat) : queueWith n (queueWith n q) = queueWith n q :=
  queueWith_of_mem (mem_queueWith n q)

theorem queueWith_ite (p : Prop) [Decidable p] (n : Nat) (q : List Nat) :
    queueWith n (if p then queueWith n q else q) = queueWith n q := by
  split
  case isTrue => exact queueWith_queueWith n q
  case isFalse => rfl

@[simp] theorem enqueue_preamp (n : Nat) (s : State) :
    (enqueue n s).preamp = { s.preamp with queue := queueWith n s.preamp.queue } := by
  unfold enqueue queueWith
  split <;> rfl

@[simp] theorem enqueue_channels (n : Nat) (s : State) : (enqueue n s).channels = s.channels :=
  (enqueue_keeps n s).part .channels

@[simp] theorem enqueue_ring (n : Nat) (s : State) : (enqueue n s).ring = s.ring := (enqueue_keeps n s).part .ring

end Sys2Proof.Machine
end

section
/-! A preamp transfer completes (section 1.5, R20 to R22): one equation for each of the three ways it can end, what each
check does to the channel, the port and the ring, and from them the whole of TRANSFER_COMPLETE. -/

namespace Sys2Proof.Machine

/-! ## The conditions of the checks -/

/-- The returned word echoes a sent record (R21, 11.2). -/
abbrev Echoes (prior : Sent) (w : Half) : Prop :=
  prior.gain = (w.extractLsb' 6 6).toNat ∧ prior.pad = w.getLsbD 5 ∧ prior.phantom = w.getLsbD 4

/-- The returned word differs from a record that was sent (R21). -/
abbrev Differs (prior : Sent) (w : Half) : Prop := prior.valid = true ∧ ¬ Echoes prior w

/-- The sequencer states in which an overcurrent report counts (R15). -/
abbrev Armed (p : PhantomState) : Prop := p = .mutingOn ∨ p = .charging ∨ p = .on ∨ p = .mutingOff

/-- The returned word reports an overcurrent that counts (R15, R22). -/
abbrev Faults (w : Half) (c : Channel) : Prop := w.getLsbD 3 = true ∧ Armed c.phantom

theorem echoMatches_iff (prior : Sent) (w : Half) : echoMatches prior w = true ↔ Echoes prior w := by
  simp only [echoMatches, returnedGain, returnedPad, returnedPhantom, Bool.and_eq_true, beq_iff_eq, and_assoc]

theorem returnedPresent_iff (w : Half) : returnedPresent w = true ↔ w.extractLsb' 12 4 = 0b1010#4 := by
  simp only [returnedPresent, beq_iff_eq]

/-- The detail of PREAMP_MISMATCH by the bits of the returned word (11.2, 11.8). -/
theorem mismatchDetail_eq (w : Half) :
    mismatchDetail w = 0#22 ++ w.extractLsb' 4 1 ++ w.extractLsb' 5 1 ++ (0#2 ++ w.extractLsb' 6 6) := by
  have hbit (i : Nat) : BitVec.ofBool (w.getLsbD i) = w.extractLsb' i 1 := by
    ext k hk
    obtain rfl : k = 0 := by omega
    simp
  have hgain (g : BitVec 6) : BitVec.ofNat 8 g.toNat = 0#2 ++ g := by
    rw [BitVec.ofNat_toNat, BitVec.setWidth_eq_append (by decide), BitVec.cast_eq]
  unfold mismatchDetail returnedPhantom returnedPad returnedGain
  rw [hbit, hbit, hgain]

/-! ## The echo check (R21) -/

/-- The mismatch count after the echo check. -/
def echoCount (prior : Sent) (w : Half) (count : Nat) : Nat :=
  if prior.valid = false then count else if Echoes prior w then 0 else min 255 (count + 1)

/-- The ring after the echo check of a channel. -/
def echoRing (n : Nat) (prior : Sent) (w : Half) (s : State) : Ring :=
  if Differs prior w ∧ (channelAt s n).mismatch = 0 then ringWith .preampMismatch n (mismatchDetail w) s else s.ring

theorem echoCheck_of_not_valid {n : Nat} {prior : Sent} {w : Half} {s : State} (h : prior.valid = false) :
    echoCheck n prior w s = s := by
  simp only [echoCheck, h, if_true]

theorem echoCheck_of_echoes {n : Nat} {prior : Sent} {w : Half} {s : State} (hvalid : prior.valid = true)
    (hecho : Echoes prior w) : echoCheck n prior w s = setChannel n { channelAt s n with mismatch := 0 } s := by
  have hmatch := (echoMatches_iff prior w).2 hecho
  simp only [echoCheck, hvalid, hmatch, if_true, Bool.true_eq_false, if_false]

theorem echoCheck_of_differs {n : Nat} {prior : Sent} {w : Half} {s : State} (h : Differs prior w) :
    echoCheck n prior w s =
      let counted := setChannel n { channelAt s n with mismatch := min 255 ((channelAt s n).mismatch + 1) } s
      enqueue n (if (channelAt s n).mismatch = 0 then writeEvent .preampMismatch n (mismatchDetail w) counted
        else counted) := by
  obtain ⟨hvalid, hecho⟩ := h
  have hmatch : echoMatches prior w = false := Bool.eq_false_iff.2 ((echoMatches_iff prior w).not.2 hecho)
  simp only [echoCheck, hvalid, hmatch, Bool.true_eq_false, Bool.false_eq_true, if_false]

/-- The echo check writes the channel's mismatch count, the queue and the ring, as the definitions above say. -/
theorem echoCheck_parts (n : Nat) (prior : Sent) (w : Half) (s : State) :
    (echoCheck n prior w s).channels =
        s.channels.set n { channelAt s n with mismatch := echoCount prior w (channelAt s n).mismatch } ∧
      (echoCheck n prior w s).preamp =
        { s.preamp with queue := if Differs prior w then queueWith n s.preamp.queue else s.preamp.queue } ∧
      (echoCheck n prior w s).ring = echoRing n prior w s := by
  unfold echoRing
  by_cases hvalid : prior.valid = true
  case neg =>
    have hdiffers : ¬ Differs prior w := fun h => hvalid h.1
    rw [Bool.not_eq_true] at hvalid
    rw [echoCheck_of_not_valid hvalid, echoCount, if_pos hvalid, if_neg hdiffers, if_neg fun h => hdiffers h.1]
    exact ⟨(set_channelAt n s).symm, rfl, rfl⟩
  by_cases hecho : Echoes prior w
  case pos =>
    have hdiffers : ¬ Differs prior w := fun h => h.2 hecho
    rw [echoCheck_of_echoes hvalid hecho, echoCount, if_neg (by simp [hvalid]), if_pos hecho, if_neg hdiffers,
      if_neg fun h => hdiffers h.1]
    exact ⟨rfl, rfl, rfl⟩
  case neg =>
    have hdiffers : Differs prior w := ⟨hvalid, hecho⟩
    rw [echoCheck_of_differs hdiffers, echoCount, if_neg (by simp [hvalid]), if_neg hecho, if_pos hdiffers]
    by_cases hfirst : (channelAt s n).mismatch = 0
    case pos =>
      rw [if_pos ⟨hdiffers, hfirst⟩]
      simp only [hfirst, if_true, enqueue_channels, enqueue_preamp, enqueue_ring, writeEvent_channels,
        writeEvent_preamp, writeEvent_ring, setChannel_channels, setChannel_preamp, true_and]
      exact ringWith_congr rfl rfl rfl
    case neg =>
      rw [if_neg fun h => hfirst h.2]
      simp only [hfirst, if_false, enqueue_channels, enqueue_preamp, enqueue_ring, setChannel_channels,
        setChannel_preamp, setChannel_ring, and_self]

/-! ## The overcurrent report (R15, R22) -/

/-- A channel that an overcurrent report has faulted (R15). -/
def faulted (c : Channel) : Channel :=
  { c with gate := rampForce 0, appliedPhantom := false, phantomTimer := none, phantom := .fault }

theorem phantomOvercurrent_of_armed {n : Nat} {s : State} (h : Armed (channelAt s n).phantom) :
    phantomOvercurrent n s =
      writeEvent .phantomFault n 0 (enqueue n (setChannel n (faulted (channelAt s n)) s)) := by
  unfold phantomOvercurrent
  rcases h with h | h | h | h <;> simp only [h] <;> rfl

theorem phantomOvercurrent_of_not_armed {n : Nat} {s : State} (h : ¬ Armed (channelAt s n).phantom) :
    phantomOvercurrent n s = s := by
  unfold phantomOvercurrent
  cases hp : (channelAt s n).phantom <;> simp_all only [Armed, reduceCtorEq, or_true, true_or, not_true]

/-! ## The whole completion -/

/-- The state in which the checks of a good marker begin: the port idle, the chip present (R20). -/
def chipPresent (tr : Transfer) (s : State) : State :=
  s.setPreamp { s.preamp with transfer := none, absent := s.preamp.absent.set (tr.channel / 8) false }

theorem completeTransfer_of_absent {s : State} {tr : Transfer} {w : Half} (hrole : s.role = .stage)
    (htr : s.preamp.transfer = some tr) (hmark : w.extractLsb' 12 4 ≠ 0b1010#4) :
    completeTransfer w s = chipMissing (tr.channel / 8) (s.setPreamp { s.preamp with transfer := none }) := by
  have habsent := (returnedPresent_iff w).not.2 hmark
  simp only [completeTransfer, hrole, htr, habsent]
  rfl

theorem completeTransfer_of_present {s : State} {tr : Transfer} {w : Half} (hrole : s.role = .stage)
    (htr : s.preamp.transfer = some tr) (hmark : w.extractLsb' 12 4 = 0b1010#4) :
    completeTransfer w s =
      let checked := echoCheck tr.channel tr.prior w (chipPresent tr s)
      if w.getLsbD 3 = true then phantomOvercurrent tr.channel checked else checked := by
  have hpresent := (returnedPresent_iff w).2 hmark
  simp only [completeTransfer, hrole, htr, hpresent]
  rfl

/-- A set absent flag is set already. -/
theorem set_chipAbsent {s : State} {chip : Nat} (h : chipAbsent s chip = true) :
    s.preamp.absent.set chip true = s.preamp.absent := by
  rcases lt_or_ge chip s.preamp.absent.length with hlt | hge
  · rw [chipAbsent, List.getD_eq_getElem _ _ hlt] at h
    rw [← h, List.set_getElem_self]
  · exact List.set_eq_of_length_le hge

/-- A wrong marker leaves the channels and the queue, and reports the chip the first time (R20). -/
theorem chipMissing_parts (chip : Nat) (s : State) :
    (chipMissing chip s).channels = s.channels ∧
      (chipMissing chip s).preamp = { s.preamp with absent := s.preamp.absent.set chip true } ∧
      (chipMissing chip s).ring = if chipAbsent s chip = true then s.ring else ringWith .preampAbsent chip 0 s := by
  unfold chipMissing
  split
  case isTrue habsent => exact ⟨rfl, by rw [set_chipAbsent habsent], rfl⟩
  case isFalse habsent =>
    simp only [writeEvent_channels, writeEvent_preamp, writeEvent_ring]
    exact ⟨rfl, rfl, ringWith_congr rfl rfl rfl⟩

/-- The channel of a transfer with a good marker after all its checks. -/
def completedChannel (prior : Sent) (w : Half) (c : Channel) : Channel :=
  let counted := { c with mismatch := echoCount prior w c.mismatch }
  if Faults w c then faulted counted else counted

/-- The ring after a transfer with a good marker: the echo check's event, then the overcurrent's. -/
def completedRing (n : Nat) (prior : Sent) (w : Half) (s : State) : Ring :=
  if Faults w (channelAt s n) then ringWith .phantomFault n 0 (s.setRing (echoRing n prior w s))
  else echoRing n prior w s

/-- A wrong marker: only the port, the absent flag and the ring change (R20). -/
theorem completeTransfer_absent_parts {s : State} {tr : Transfer} {w : Half} (hrole : s.role = .stage)
    (htr : s.preamp.transfer = some tr) (hmark : w.extractLsb' 12 4 ≠ 0b1010#4) :
    (completeTransfer w s).channels = s.channels ∧
      (completeTransfer w s).preamp =
        { s.preamp with transfer := none, absent := s.preamp.absent.set (tr.channel / 8) true } ∧
      (completeTransfer w s).ring =
        if chipAbsent s (tr.channel / 8) = true then s.ring else ringWith .preampAbsent (tr.channel / 8) 0 s := by
  rw [completeTransfer_of_absent hrole htr hmark]
  exact chipMissing_parts (tr.channel / 8) (s.setPreamp { s.preamp with transfer := none })

/-- A good marker: the overcurrent report acts on what the echo check leaves (R20 to R22). -/
theorem completeTransfer_present_parts {s : State} {tr : Transfer} {w : Half} (hrole : s.role = .stage)
    (htr : s.preamp.transfer = some tr) (hmark : w.extractLsb' 12 4 = 0b1010#4)
    (hn : tr.channel < s.channels.length) :
    (completeTransfer w s).channels =
        s.channels.set tr.channel (completedChannel tr.prior w (channelAt s tr.channel)) ∧
      (completeTransfer w s).preamp =
        { queue :=
            if Differs tr.prior w ∨ Faults w (channelAt s tr.channel) then queueWith tr.channel s.preamp.queue
            else s.preamp.queue
          transfer := none
          absent := s.preamp.absent.set (tr.channel / 8) false } ∧
      (completeTransfer w s).ring = completedRing tr.channel tr.prior w s := by
  obtain ⟨hchannels, hpreamp, hring⟩ := echoCheck_parts tr.channel tr.prior w (chipPresent tr s)
  have hkeeps := echoCheck_keeps tr.channel tr.prior w (chipPresent tr s)
  rw [completeTransfer_of_present hrole htr hmark]
  generalize echoCheck tr.channel tr.prior w (chipPresent tr s) = checked at *
  have hat : channelAt checked tr.channel =
      { channelAt s tr.channel with mismatch := echoCount tr.prior w (channelAt s tr.channel).mismatch } :=
    channelAt_of_set_self hchannels hn
  unfold completedChannel completedRing
  by_cases hfaults : Faults w (channelAt s tr.channel)
  case pos =>
    have harmed : Armed (channelAt checked tr.channel).phantom := hat ▸ hfaults.2
    simp only [hfaults.1, if_true, phantomOvercurrent_of_armed harmed, if_pos hfaults, if_pos (Or.inr hfaults)]
    refine ⟨?_, ?_, ?_⟩
    · rw [writeEvent_channels, enqueue_channels, setChannel_channels, hat, hchannels, List.set_set]
      rfl
    · rw [writeEvent_preamp, enqueue_preamp, setChannel_preamp, hpreamp, queueWith_ite]
      rfl
    · rw [writeEvent_ring]
      exact ringWith_congr ((enqueue_ring _ _).trans hring)
        (((enqueue_keeps _ _).part .role).trans (hkeeps.part .role))
        (((enqueue_keeps _ _).part .superframe).trans (hkeeps.part .superframe))
  case neg =>
    have hkept : (if w.getLsbD 3 = true then phantomOvercurrent tr.channel checked else checked) = checked := by
      split
      case isTrue hreport =>
        refine phantomOvercurrent_of_not_armed fun harmed => hfaults ⟨hreport, ?_⟩
        rwa [hat] at harmed
      case isFalse => rfl
    simp only [hkept, hfaults, if_false, or_false]
    exact ⟨hchannels, hpreamp, hring⟩

theorem completedChannel_mismatch (prior : Sent) (w : Half) (c : Channel) :
    (completedChannel prior w c).mismatch = echoCount prior w c.mismatch := by
  unfold completedChannel
  dsimp only
  split <;> rfl

theorem completedChannel_of_faults {prior : Sent} {w : Half} {c : Channel} (h : Faults w c) :
    completedChannel prior w c = faulted { c with mismatch := (completedChannel prior w c).mismatch } := by
  rw [completedChannel_mismatch, completedChannel, if_pos h]

theorem completedChannel_of_not_faults {prior : Sent} {w : Half} {c : Channel} (h : ¬ Faults w c) :
    completedChannel prior w c = { c with mismatch := (completedChannel prior w c).mismatch } := by
  rw [completedChannel_mismatch, completedChannel, if_neg h]

theorem echoRing_eq (n : Nat) (prior : Sent) (w : Half) (s : State) :
    echoRing n prior w s =
      if Differs prior w ∧ (channelAt s n).mismatch = 0 then
        ringWith .preampMismatch n (0#22 ++ w.extractLsb' 4 1 ++ w.extractLsb' 5 1 ++ (0#2 ++ w.extractLsb' 6 6)) s
      else s.ring := by
  rw [echoRing, mismatchDetail_eq]

/-- Settles O42: a wrong marker by `completeTransfer_absent_parts`, a good one by `completeTransfer_present_parts`. -/
theorem transferCompletes : Obligations.TransferCompletes := by
  unfold Obligations.TransferCompletes
  intro s tr w hrole hlength htr hchannel n c chip echoed differs faults
  have hn : n < s.channels.length := hlength ▸ hchannel
  refine ⟨completeTransfer w s, rfl, (completeTransfer_keeps w s).mono, ?_⟩
  by_cases hmark : w.extractLsb' 12 4 = 0b1010#4
  case neg =>
    obtain ⟨hchannels, hpreamp, hring⟩ := completeTransfer_absent_parts hrole htr hmark
    rw [hpreamp]
    exact ⟨rfl, fun m _ => channelAt_of_channels hchannels,
      fun _ => ⟨channelAt_of_channels hchannels, rfl, rfl, hring⟩, fun h => absurd h hmark⟩
  case pos =>
    obtain ⟨hchannels, hpreamp, hring⟩ := completeTransfer_present_parts hrole htr hmark hn
    have hat : channelAt (completeTransfer w s) n = completedChannel tr.prior w c := channelAt_of_set_self hchannels hn
    rw [hpreamp, hat]
    refine ⟨rfl, fun m hm => channelAt_of_set_other hchannels hm, fun h => absurd hmark h, fun _ => ⟨rfl,
      completedChannel_mismatch tr.prior w c, fun h hmem => ?_, fun h hmem => ?_, fun h => if_neg h,
      completedChannel_of_faults, completedChannel_of_not_faults, echoRing n tr.prior w s,
      echoRing_eq n tr.prior w s, hring⟩⟩
    · exact (if_pos h).trans (queueWith_of_mem hmem)
    · exact (if_pos h).trans (queueWith_of_not_mem hmem)

end Sys2Proof.Machine
end

section
/-! The level table (section 2.2, R26 and R27): each gain as a table entry scaled by its octave, so that a code
twelve lower has half the gain. Below code 231 the order is then that of the octave 231 to 242, where the table
decides. -/

namespace Sys2Proof.Machine

/-! ## A gain by its octave -/

/-- From code 231 up, each octave doubles the table (R26). -/
theorem levelGain_octave_up (n : Nat) {r : Nat} (hr : r < 12) :
    levelGain (231 + 12 * n + r) = levelTable.getD r 0 * 2 ^ n := by
  have hq : (((231 + 12 * n + r : Nat) : Int) - 231) / 12 = n := by omega
  have hr' : (((231 + 12 * n + r : Nat) : Int) - 231 - 12 * (n : Int)).toNat = r := by omega
  simp only [levelGain, hq, hr', Int.toNat_natCast]
  rw [if_neg (by omega), if_pos (Int.natCast_nonneg n)]

/-- Up to code 242, each octave down halves the table once more (R26). -/
theorem levelGain_octave_down {c n r : Nat} (hr : r < 12) (hc : 1 ≤ c) (h : c + 12 * n = 231 + r) :
    levelGain c = levelTable.getD r 0 / 2 ^ n := by
  have hq : ((c : Int) - 231) / 12 = -n := by omega
  have hr' : ((c : Int) - 231 - 12 * (-(n : Int))).toNat = r := by omega
  simp only [levelGain, hq, hr', neg_neg, Int.toNat_natCast]
  rw [if_neg (by omega)]
  split
  case isTrue hn =>
    obtain rfl : n = 0 := by omega
    simp
  case isFalse => rfl

/-! ## Twelve codes are one octave (R27) -/

theorem levelGain_add_twelve {c : Nat} (hc : 231 ≤ c) : levelGain (c + 12) = 2 * levelGain c := by
  have hr : (c - 231) % 12 < 12 := Nat.mod_lt _ (by decide)
  have hcode : c = 231 + 12 * ((c - 231) / 12) + (c - 231) % 12 := by omega
  have hnext : c + 12 = 231 + 12 * ((c - 231) / 12 + 1) + (c - 231) % 12 := by omega
  have hup := levelGain_octave_up ((c - 231) / 12 + 1) hr
  have hat := levelGain_octave_up ((c - 231) / 12) hr
  rw [← hnext] at hup
  rw [← hcode] at hat
  rw [hup, hat, pow_succ]
  ring

/-- A code has half the gain of the code twelve above it, rounded down, above unity and below. -/
theorem levelGain_eq_half {c : Nat} (hc : 1 ≤ c) : levelGain c = levelGain (c + 12) / 2 := by
  rcases Nat.lt_or_ge c 231 with hlow | hhigh
  · have hr : (c + 9) % 12 < 12 := Nat.mod_lt _ (by decide)
    have hat := levelGain_octave_down (n := (230 - c) / 12 + 1) hr hc (by omega)
    have hup := levelGain_octave_down (c := c + 12) (n := (230 - c) / 12) hr (by omega) (by omega)
    rw [hat, hup, pow_succ, Int.ediv_ediv_of_nonneg (by positivity)]
  · rw [levelGain_add_twelve hhigh]
    omega

theorem levelGain_eq_div_pow {c : Nat} (hc : 1 ≤ c) (n : Nat) : levelGain c = levelGain (c + 12 * n) / 2 ^ n := by
  induction n with
  | zero => simp
  | succ n ih =>
    have hhalf : levelGain (c + 12 * n) = levelGain (c + 12 * (n + 1)) / 2 := levelGain_eq_half (by omega)
    rw [ih, hhalf, pow_succ', Int.ediv_ediv_of_nonneg (by decide)]

/-! ## The order of the gains (R27) -/

/-- Two table gains next to each other, the doubled first one among them, lie further apart than 2^15. -/
theorem levelGain_gap_top : ∀ r < 12, levelGain (231 + r) + 2 ^ 15 ≤ levelGain (231 + r + 1) := by decide

theorem levelGain_lt_succ_of_ge {c : Nat} (hc : 231 ≤ c) : levelGain c < levelGain (c + 1) := by
  induction c using Nat.strong_induction_on with
  | _ c ih =>
    rcases Nat.lt_or_ge c 243 with htop | habove
    · have hgap := levelGain_gap_top (c - 231) (by omega)
      rw [Nat.add_sub_cancel' hc] at hgap
      omega
    · obtain ⟨b, rfl⟩ := Nat.exists_eq_add_of_le' (show 12 ≤ c by omega)
      have hbelow := ih b (by omega) (by omega)
      rw [show b + 12 + 1 = b + 1 + 12 by omega, levelGain_add_twelve (by omega), levelGain_add_twelve (by omega)]
      omega

/-- Codes 40 to 50 lie too deep for the gap of the top octave; their gains are read off. -/
theorem levelGain_lt_succ_of_deep : ∀ c < 51, 40 ≤ c → levelGain c < levelGain (c + 1) := by decide

/-- Up to fifteen octaves below the top one, its gap outlives the halvings. -/
theorem levelGain_lt_succ_of_octave {c n r : Nat} (hr : r < 12) (hn : n ≤ 15) (hc : 1 ≤ c)
    (h : c + 12 * n = 231 + r) : levelGain c < levelGain (c + 1) := by
  have hpos : (0 : Int) < 2 ^ n := by positivity
  have hgap : levelGain (231 + r) + 2 ^ n ≤ levelGain (231 + r + 1) :=
    (add_le_add_right (pow_le_pow_right₀ (by decide) hn) _).trans (levelGain_gap_top r hr)
  rw [levelGain_eq_div_pow hc n, levelGain_eq_div_pow (c := c + 1) (by omega) n, Nat.add_right_comm c, h]
  calc levelGain (231 + r) / 2 ^ n < levelGain (231 + r) / 2 ^ n + 1 := lt_add_one _
    _ = (levelGain (231 + r) + 2 ^ n) / 2 ^ n := by
        rw [Int.add_ediv_of_dvd_right dvd_rfl, Int.ediv_self hpos.ne']
    _ ≤ levelGain (231 + r + 1) / 2 ^ n := Int.ediv_le_ediv hpos hgap

theorem levelGain_lt_succ {c : Nat} (hc : 40 ≤ c) : levelGain c < levelGain (c + 1) := by
  rcases Nat.lt_or_ge c 51 with hdeep | hmid
  · exact levelGain_lt_succ_of_deep c hdeep hc
  · rcases Nat.lt_or_ge c 231 with hlow | hhigh
    · have hr : (c + 9) % 12 < 12 := Nat.mod_lt _ (by decide)
      exact levelGain_lt_succ_of_octave (n := (242 - c) / 12) hr (by omega) (by omega) (by omega)
    · exact levelGain_lt_succ_of_ge hhigh

/-- The gains never fall: below code 40 both sides halve a pair twelve codes up. -/
theorem levelGain_le_succ (c : Nat) : levelGain c ≤ levelGain (c + 1) := by
  rcases Nat.lt_or_ge c 40 with hlow | hhigh
  · rcases Nat.eq_zero_or_pos c with rfl | hpos
    · decide
    · have hstep := levelGain_le_succ (c + 12)
      rw [levelGain_eq_half hpos, levelGain_eq_half (c := c + 1) (by omega), Nat.add_right_comm]
      omega
  · exact (levelGain_lt_succ hhigh).le
termination_by 40 - c

theorem levelGain_mono : Monotone levelGain := monotone_nat_of_le_succ levelGain_le_succ

theorem levelGain_pos {c : Nat} (hc : 1 ≤ c) : 0 < levelGain c :=
  (show 0 < levelGain 1 by decide).trans_le (levelGain_mono hc)

/-- Settles O14: the order from the gaps of one octave, the doubling from the octaves, single gains by evaluation. -/
theorem levelTable_shape : Obligations.LevelTable := by
  unfold Obligations.LevelTable
  refine ⟨fun c _ => levelGain_le_succ c, fun c _ hc => levelGain_lt_succ hc, by decide, by decide, by decide,
    by decide, by decide, rfl, fun c _ hc => (levelGain_pos hc).ne', fun c _ hc => levelGain_add_twelve hc,
    fun c _ hc => ?_, by decide, by decide⟩
  have hhalf := levelGain_eq_half hc
  omega

end Sys2Proof.Machine
end

section
/-! The course of a ramp (section 2.3, R29 to R32): one equation per branch of the ramp law, what a number of advances
leaves of it, and the range a new ramp keeps. -/

namespace Sys2Proof.Machine

/-! ## The ramp law by its branches -/

theorem rampTarget_of_ne {g : Ramp} {t : Int} (h : t ≠ g.target) :
    rampTarget t g = { current := g.current, target := t, step := (t - g.current).tdiv 256, remaining := 256 } :=
  if_neg h

@[simp] theorem rampTarget_self (g : Ramp) : rampTarget g.target g = g := if_pos rfl

theorem rampAdvance_of_rest {g : Ramp} (h : g.remaining = 0) : rampAdvance g = g := if_pos h

theorem rampAdvance_of_last {g : Ramp} (h : g.remaining = 1) :
    rampAdvance g = { g with current := g.target, remaining := 0 } := by
  rw [rampAdvance, if_neg (by omega), if_pos h]

theorem rampAdvance_of_more {g : Ramp} (h : 2 ≤ g.remaining) :
    rampAdvance g = { g with current := g.current + g.step, remaining := g.remaining - 1 } := by
  rw [rampAdvance, if_neg (by omega), if_neg (by omega)]

@[simp] theorem rampAdvance_target (g : Ramp) : (rampAdvance g).target = g.target := by
  unfold rampAdvance
  split_ifs <;> rfl

@[simp] theorem rampAdvance_remaining (g : Ramp) : (rampAdvance g).remaining = g.remaining - 1 := by
  unfold rampAdvance
  split_ifs <;> simp [*]

/-! ## A number of advances -/

@[simp] theorem rampAdvance_iterate_target (k : Nat) (g : Ramp) : (rampAdvance^[k] g).target = g.target := by
  induction k with
  | zero => rfl
  | succ k ih => rw [Function.iterate_succ_apply', rampAdvance_target, ih]

@[simp] theorem rampAdvance_iterate_remaining (k : Nat) (g : Ramp) :
    (rampAdvance^[k] g).remaining = g.remaining - k := by
  induction k with
  | zero => rfl
  | succ k ih => rw [Function.iterate_succ_apply', rampAdvance_remaining, ih, Nat.sub_sub]

theorem rampAdvance_iterate_ok {lo hi : Int} {g : Ramp} (h : RampOk lo hi g) (k : Nat) :
    RampOk lo hi (rampAdvance^[k] g) :=
  Function.Iterate.rec (RampOk lo hi) h (fun _ => rampAdvance_ok) k

/-! ## A new ramp -/

/-- A new ramp stays between its start and its target, whatever the gain was before: the truncated step never
overshoots (R29, R32). -/
theorem rampTarget_ok_between {g : Ramp} {t : Int} (h : t ≠ g.target) :
    RampOk (min g.current t) (max g.current t) (rampTarget t g) := by
  obtain ⟨hup, hdown⟩ := step_bounds (t - g.current)
  rw [rampTarget_of_ne h]
  refine ⟨⟨min_le_left _ _, le_max_left _ _⟩, ⟨min_le_right _ _, le_max_right _ _⟩, le_rfl,
    fun hrest => absurd hrest (by simp), fun _ => ?_⟩
  simp only [inRange]
  rcases le_total 0 (t - g.current) with hd | hd
  · have := hup hd
    omega
  · have := hdown hd
    omega

theorem rampTarget_iterate_remaining {g : Ramp} {t : Int} (h : t ≠ g.target) (k : Nat) :
    (rampAdvance^[k] (rampTarget t g)).remaining = 256 - k := by
  rw [rampAdvance_iterate_remaining, rampTarget_of_ne h]

/-- The 256th advance reaches the target: none is left, and a gain at rest stands on its target. -/
theorem rampTarget_iterate_current {g : Ramp} {t : Int} (h : t ≠ g.target) :
    (rampAdvance^[256] (rampTarget t g)).current = t := by
  have hrest := (rampAdvance_iterate_ok (rampTarget_ok_between h) 256).rest (rampTarget_iterate_remaining h 256)
  rw [hrest, rampAdvance_iterate_target, rampTarget_of_ne h]

/-! ## The gain rounding -/

/-- The gain rounding is the floor of R34. -/
theorem gainRound_floor (v : Int) :
    1048576 * gainRound v ≤ v + 524288 ∧ v + 524288 < 1048576 * (gainRound v + 1) := by
  unfold gainRound
  omega

/-- Settles O15: the course from the range a new ramp keeps and the count of its advances, the rest branch by branch. -/
theorem levelArithmetic : Obligations.LevelArithmetic := by
  unfold Obligations.LevelArithmetic
  refine ⟨fun g t h => ⟨rampTarget_of_ne h, rampTarget_iterate_current h, rampTarget_iterate_remaining h 256,
      fun k _ => ⟨rampTarget_iterate_remaining h k, (rampAdvance_iterate_ok (rampTarget_ok_between h) k).current⟩⟩,
    fun g => ⟨rampTarget_self g, rampAdvance_of_rest, rampAdvance_of_last, rampAdvance_of_more⟩,
    gainRound_floor, fun v g hg => ⟨fun hv => gainRound_mul_of_nonneg hv hg, fun hv => gainRound_mul_of_nonpos hv hg⟩⟩

end Sys2Proof.Machine
end

section
/-! One mix for one frame (sections 3.2 to 3.4, R40 to R47): which code each send reads, the two talk targets, the
effective master by its four cases, and the clamp, the rounding and the saturation of the output. -/

namespace Sys2Proof.Machine

/-! ## The send codes of a mix (R39, section 3.2) -/

theorem length_defaultContents (record : Nat) : (defaultContents record).length = 16 := by
  unfold defaultContents
  split_ifs <;> rfl

theorem length_liveContents {s : State} (h : Sized s) (record : Nat) : (liveContents s record).length = 16 := by
  unfold liveContents
  cases hlive : s.stage.live[record]? with
  | none => exact length_defaultContents record
  | some e => exact h.liveBytes e (List.mem_of_getElem? hlive)

/-- Blocks of one width `w`, joined: place `n` is place `n % w` of block `n / w`. -/
theorem getElem?_flatMap_of_length {α β : Type} {f : α → List β} {w : Nat} (hw : 0 < w) (hf : ∀ a, (f a).length = w)
    (l : List α) (n : Nat) : (l.flatMap f)[n]? = (l[n / w]?).bind fun a => (f a)[n % w]? := by
  induction l generalizing n with
  | nil => rfl
  | cons a l ih =>
    rw [List.flatMap_cons]
    rcases Nat.lt_or_ge n w with hn | hn
    · rw [List.getElem?_append_left (by rwa [hf]), Nat.div_eq_of_lt hn, Nat.mod_eq_of_lt hn]
      rfl
    · rw [List.getElem?_append_right (by rwa [hf]), hf, ih, Nat.div_eq_sub_div hw hn, ← Nat.mod_eq_sub_mod hn]
      rfl

/-- The code of source `n` stands at place `n mod 16` of SEND block `n div 16`. -/
theorem byteAt_sendCodes {s : State} (h : Sized s) (m : Nat) {n : Nat} (hn : n < 112) :
    byteAt (sendCodes s m) n = liveByte s (112 + 7 * m + n / 16) (n % 16) := by
  have hblock : (List.range 7)[n / 16]? = some (n / 16) := List.getElem?_range (by omega)
  rw [byteAt, List.getD_eq_getElem?_getD, sendCodes,
    getElem?_flatMap_of_length (by decide) fun b => length_liveContents h (112 + 7 * m + b), hblock]
  exact (List.getD_eq_getElem?_getD ..).symm

/-! ## Target and advance of the sends (R40, R44) -/

theorem length_sendsFrame (gs : List Ramp) (cs : List Byte) : (sendsFrame gs cs).length = gs.length := by
  induction gs, cs using sendsFrame.induct with
  | case1 => rfl
  | case2 g gs ih => exact congrArg Nat.succ ih
  | case3 g gs c cs ih => exact congrArg Nat.succ ih

/-- Each send heads for the gain of its code; one that no code is left for heads for G(0). -/
theorem getElem?_sendsFrame (gs : List Ramp) (cs : List Byte) (n : Nat) :
    (sendsFrame gs cs)[n]? = (gs[n]?).map (rampFrame (levelGain (byteAt cs n).toNat)) := by
  induction gs, cs using sendsFrame.induct generalizing n with
  | case1 => rfl
  | case2 g gs ih =>
    cases n with
    | zero => rfl
    | succ n => exact ih n
  | case3 g gs c cs ih =>
    cases n with
    | zero => rfl
    | succ n => exact ih n

/-! ## The talk targets and the effective master (R41 to R43) -/

theorem talkRouteChannel_ne_none_iff (s : State) : talkRouteChannel s ≠ 255 ↔ liveByte s 224 0 ≠ 255 :=
  not_congr (BitVec.toNat_inj (y := 255#8))

theorem stageTalkTarget_eq (s : State) (m : Nat) :
    stageTalkTarget s m =
      if s.button.pressed = true ∧ liveByte s 224 0 ≠ 255 ∧
          (liveByte s 224 2 ++ liveByte s 224 1).getLsbD m = true then
        levelGain (liveByte s (96 + m) 3).toNat
      else 0 := by
  simp only [stageTalkTarget, talkRouteMask, talkRouteChannel_ne_none_iff]

theorem talkEngaged_iff (gd gt : Int) : talkEngaged gd gt = true ↔ gd ≠ 0 ∨ gt ≠ 0 := by simp [talkEngaged]

theorem effectiveMaster_of_off {code islandDim : Nat} {island : Bool} (dim : Nat) (engaged : Bool)
    (h : code = 0 ∨ (island = true ∧ islandDim = 255)) : effectiveMaster code dim engaged island islandDim = 0 := by
  rcases h with hcode | hisland
  · exact if_pos hcode
  · simp only [effectiveMaster, if_pos hisland, ite_self]

/-- The third row of R43, by engagement and island: each dim that counts comes off, and the result is at least 1. -/
theorem effectiveMaster_of_on {code islandDim : Nat} {island : Bool} (dim : Nat) (engaged : Bool) (hcode : code ≠ 0)
    (hisland : ¬ (island = true ∧ islandDim = 255)) :
    let e := effectiveMaster code dim engaged island islandDim
    (engaged = true → island = true → e = max 1 (code - dim - islandDim)) ∧
      (engaged = true → island = false → e = max 1 (code - dim)) ∧
      (¬ engaged = true → island = true → e = max 1 (code - islandDim)) ∧
      (¬ engaged = true → island = false → e = code) := by
  rw [effectiveMaster, if_neg hcode, if_neg hisland]
  refine ⟨?bothDims, ?talkAlone, ?islandAlone, ?undimmed⟩
  case bothDims => rintro rfl rfl; rfl
  case talkAlone => rintro rfl rfl; rfl
  case islandAlone => intro hoff hin; rw [if_neg hoff, if_pos hin, Nat.sub_zero]
  case undimmed =>
    rintro hoff rfl
    rw [if_neg hoff]
    exact max_eq_right (Nat.one_le_iff_ne_zero.2 hcode)

/-! ## Clamp and saturation (R35, R45 to R47) -/

theorem saturate_eq_max_min {lo hi : Int} (h : lo ≤ hi) (v : Int) : saturate lo hi v = max lo (min hi v) := by
  unfold saturate
  split_ifs <;> omega

theorem satSample_eq (v : Int) : satSample v = max (-8388608) (min 8388607 v) := saturate_eq_max_min (by decide) v

/-- A saturated sample is one that saturation changes (R46). -/
theorem satSample_ne_iff (v : Int) : satSample v ≠ v ↔ v < -8388608 ∨ 8388607 < v := by
  rw [satSample_eq]
  omega

/-- The clip latch after an output (R47). -/
theorem clip_or_saturated_iff (clip : Bool) (v : Int) :
    (clip || decide (satSample v ≠ v)) = true ↔ clip = true ∨ v < -8388608 ∨ 8388607 < v := by
  rw [Bool.or_eq_true, decide_eq_true_iff, satSample_ne_iff]

theorem busValue_eq (sources : List Int) (sends : List Ramp) :
    busValue sources sends =
      max (-2147483648) (min 2147483647
        ((((List.zip sources sends).map fun y => y.1 * y.2.current).sum + 524288) / 1048576)) := by
  rw [List.map_zip_eq_zipWith]
  exact saturate_eq_max_min (by decide) _

/-! ## The mix (R37) -/

/-- Settles O24: each gain by the target it is given, the master by the cases of the effective code, the output by the
clamp and the saturation. -/
theorem mixComputation : Obligations.MixComputation := by
  unfold Obligations.MixComputation
  intro s sources d t m x r ramped code dim islandDim deskTarget stageTarget engaged sum p v
  have hstage : stageTalkTarget s m = stageTarget := stageTalkTarget_eq s m
  have hout : mixRounded (busValue sources r.1.sends) d t r.1.master r.1.gd r.1.gt = v := by
    rw [mixRounded, busValue_eq, gainRound]
  have hengaged : talkEngaged (deskTalkTarget s m) (stageTalkTarget s m) = true ↔ engaged := by
    rw [talkEngaged_iff, hstage]
    exact Iff.rfl
  refine ⟨hout ▸ satSample_eq _, ?clip, rfl, length_sendsFrame .., ?sendTargets, rfl, ?stageTalk, mixMasterCode s m,
    rfl, effectiveMaster_of_off _ _, ?masterCode⟩
  case clip =>
    rw [← hout]
    exact clip_or_saturated_iff _ _
  case sendTargets =>
    intro hsized n hn
    rw [← byteAt_sendCodes hsized m hn]
    exact getElem?_sendsFrame ..
  case stageTalk =>
    rw [← hstage]
    rfl
  case masterCode =>
    intro hcode hisland
    rw [← hengaged]
    exact effectiveMaster_of_on _ _ hcode hisland

end Sys2Proof.Machine
end

section
/-! A METER message at the desk (section 5.2, R82 to R86): the fields of a merged word, the entries that a group of
words leaves in the table and in the pending store, the sweep that a group completes, and the message as a whole. -/

namespace Sys2Proof.Machine

/-! ## The fields of a meter word (11.7) -/

@[simp] theorem meterPeak_meterWord {peak : Nat} (h : peak < 2 ^ 24) (clip : Bool) (mark : Nat) :
    meterPeak (meterWord peak clip mark) = peak := by
  have hfield : (meterWord peak clip mark).extractLsb' 0 24 = BitVec.ofNat 24 peak :=
    BitVec.extractLsb'_append_eq_right
  rw [meterPeak, hfield, BitVec.toNat_ofNat, Nat.mod_eq_of_lt h]

@[simp] theorem meterClip_meterWord (peak : Nat) (clip : Bool) (mark : Nat) :
    meterClip (meterWord peak clip mark) = clip := by
  rw [meterClip, meterWord, BitVec.getLsbD_append, BitVec.getLsbD_append]
  simp

@[simp] theorem meterMark_meterWord (peak : Nat) (clip : Bool) {mark : Nat} (h : mark < 2 ^ 7) :
    meterMark (meterWord peak clip mark) = mark := by
  have hfield : (meterWord peak clip mark).extractLsb' 25 7 = BitVec.ofNat 7 mark := by
    rw [meterWord, BitVec.append_assoc, BitVec.cast_eq]
    exact BitVec.extractLsb'_append_eq_left
  rw [meterMark, hfield, BitVec.toNat_ofNat, Nat.mod_eq_of_lt h]

theorem meterPeak_lt (w : Word) : meterPeak w < 2 ^ 24 := BitVec.isLt _

theorem meterMark_lt (w : Word) : meterMark w < 2 ^ 7 := BitVec.isLt _

/-! ## One word into a pending entry (R84) -/

@[simp] theorem mergeWord_none (w : Word) : mergeWord none w = w := rfl

@[simp] theorem meterPeak_mergeWord (e w : Word) :
    meterPeak (mergeWord (some e) w) = max (meterPeak e) (meterPeak w) :=
  meterPeak_meterWord (max_lt (meterPeak_lt e) (meterPeak_lt w)) _ _

@[simp] theorem meterClip_mergeWord (e w : Word) :
    meterClip (mergeWord (some e) w) = (meterClip e || meterClip w) := meterClip_meterWord ..

@[simp] theorem meterMark_mergeWord (e w : Word) : meterMark (mergeWord (some e) w) = meterMark w :=
  meterMark_meterWord _ _ (meterMark_lt w)

/-! ## A group of words into the table and into the pending store (R83, R84) -/

theorem getElem?_writeWords_outside (table : List Word) (k : Nat) (ws : List Word) {i : Nat}
    (h : i < k ∨ k + ws.length ≤ i) : (writeWords table k ws)[i]? = table[i]? := by
  induction ws generalizing table k with
  | nil => rfl
  | cons w ws ih =>
    rw [List.length_cons] at h
    rw [writeWords, ih _ _ (by omega), List.getElem?_set_ne (by omega)]

theorem getElem?_writeWords_inside (table : List Word) (k : Nat) (ws : List Word) {j : Nat} (hj : j < ws.length)
    (hk : k + ws.length ≤ table.length) : (writeWords table k ws)[k + j]? = ws[j]? := by
  induction ws generalizing table k j with
  | nil => exact absurd hj (Nat.not_lt_zero j)
  | cons w ws ih =>
    rw [List.length_cons] at hj hk
    rw [writeWords]
    cases j with
    | zero =>
      rw [getElem?_writeWords_outside _ _ _ (by omega), Nat.add_zero, List.getElem?_set_self (by omega),
        List.getElem?_cons_zero]
    | succ j =>
      have hnext : k + (j + 1) = k + 1 + j := by omega
      rw [hnext, ih _ _ (by omega) (by rw [List.length_set]; omega), List.getElem?_cons_succ]

theorem getElem?_mergeWords_outside (store : List (Option Word)) (k : Nat) (ws : List Word) {i : Nat}
    (h : i < k ∨ k + ws.length ≤ i) : (mergeWords store k ws)[i]? = store[i]? := by
  induction ws generalizing store k with
  | nil => rfl
  | cons w ws ih =>
    rw [List.length_cons] at h
    rw [mergeWords, ih _ _ (by omega), List.getElem?_set_ne (by omega)]

/-- Each word meets the entry that stood before the group: no index comes twice. -/
theorem getElem?_mergeWords_inside (store : List (Option Word)) (k : Nat) (ws : List Word) {j : Nat}
    (hj : j < ws.length) (hk : k + ws.length ≤ store.length) :
    (mergeWords store k ws)[k + j]? = (ws[j]?).map fun w => some (mergeWord (store.getD (k + j) none) w) := by
  induction ws generalizing store k j with
  | nil => exact absurd hj (Nat.not_lt_zero j)
  | cons w ws ih =>
    rw [List.length_cons] at hj hk
    rw [mergeWords]
    cases j with
    | zero =>
      rw [getElem?_mergeWords_outside _ _ _ (by omega), Nat.add_zero, List.getElem?_set_self (by omega)]
      rfl
    | succ j =>
      have hnext : k + (j + 1) = k + 1 + j := by omega
      have hstood (e : Option Word) : (store.set k e).getD (k + 1 + j) none = store.getD (k + 1 + j) none := by
        rw [List.getD_eq_getElem?_getD, List.getElem?_set_ne (by omega), ← List.getD_eq_getElem?_getD]
      rw [hnext, ih _ _ (by omega) (by rw [List.length_set]; omega), hstood, List.getElem?_cons_succ]

/-! ## The payload (R82) -/

/-- A METER payload passes the consistency test: its first index and its count name meters, and its length fits. -/
abbrev MeterFits (p : List Byte) : Prop :=
  3 ≤ p.length ∧ (byteAt p 1).toNat ≤ 111 ∧ 1 ≤ (byteAt p 2).toNat ∧ (byteAt p 2).toNat ≤ 16 ∧
    (byteAt p 1).toNat + (byteAt p 2).toNat ≤ 112 ∧ p.length = 3 + 4 * (byteAt p 2).toNat

theorem meterConsistent_iff (p : List Byte) : meterConsistent p = true ↔ MeterFits p := by
  simp only [meterConsistent, Bool.and_eq_true, decide_eq_true_iff, and_assoc]

@[simp] theorem length_payloadWords (p : List Byte) : (payloadWords p).length = (byteAt p 2).toNat := by
  simp [payloadWords]

theorem getElem?_payloadWords {p : List Byte} {j : Nat} (hj : j < (byteAt p 2).toNat) :
    (payloadWords p)[j]? = some (word32At p (3 + 4 * j)) := by
  rw [payloadWords, List.getElem?_map, List.getElem?_range hj]
  rfl

/-! ## A completed sweep (R86) -/

theorem completeSweep_of_not_due {s : State}
    (h : s.regs.ctrl.hold = true ∨ min 255 (s.meters.sweeps + 1) < meterCadence s) :
    completeSweep s = s.setMeters { s.meters with sweeps := min 255 (s.meters.sweeps + 1) } := by
  unfold completeSweep
  dsimp only
  split
  case isTrue => rfl
  case isFalse hfree => exact if_neg (Nat.not_le.2 (h.resolve_left hfree))

theorem completeSweep_of_due {s : State} (hfree : s.regs.ctrl.hold = false)
    (hdue : meterCadence s ≤ min 255 (s.meters.sweeps + 1)) :
    completeSweep s = setNotice .meter (s.setMeters { s.meters with sweeps := 0 }) := by
  unfold completeSweep
  dsimp only
  rw [if_neg (by simp [hfree])]
  exact if_pos hdue

/-! ## The message at the Meter Writer (R82 to R86) -/

/-- The meters with a payload's words in their place: the pending store under the hold, else the table (R83, R84). -/
def metersTaking (p : List Byte) (s : State) : Meters :=
  if s.regs.ctrl.hold then
    { s.meters with store := mergeWords s.meters.store (byteAt p 1).toNat (payloadWords p) }
  else { s.meters with table := writeWords s.meters.table (byteAt p 1).toNat (payloadWords p) }

theorem metersTaking_of_free {s : State} (p : List Byte) (h : s.regs.ctrl.hold = false) :
    metersTaking p s = { s.meters with table := writeWords s.meters.table (byteAt p 1).toNat (payloadWords p) } :=
  if_neg (by simp [h])

theorem metersTaking_of_hold {s : State} (p : List Byte) (h : s.regs.ctrl.hold = true) :
    metersTaking p s = { s.meters with store := mergeWords s.meters.store (byteAt p 1).toNat (payloadWords p) } :=
  if_pos h

@[simp] theorem metersTaking_sweeps (p : List Byte) (s : State) : (metersTaking p s).sweeps = s.meters.sweeps := by
  unfold metersTaking
  split <;> rfl

@[simp] theorem metersTaking_cursor (p : List Byte) (s : State) : (metersTaking p s).cursor = s.meters.cursor := by
  unfold metersTaking
  split <;> rfl

@[simp] theorem metersTaking_mark (p : List Byte) (s : State) : (metersTaking p s).mark = s.meters.mark := by
  unfold metersTaking
  split <;> rfl

theorem writeMeters_of_not_fits {p : List Byte} (h : ¬ MeterFits p) (s : State) : writeMeters p s = s :=
  if_neg fun hwrites => h ((meterConsistent_iff p).1 hwrites.2)

section
variable {p : List Byte} {s : State} (hrole : s.role = .desk) (hfits : MeterFits p)
include hrole hfits

theorem writeMeters_of_fits :
    writeMeters p s =
      if (byteAt p 1).toNat + (byteAt p 2).toNat = 112 then completeSweep (s.setMeters (metersTaking p s))
      else s.setMeters (metersTaking p s) := by
  unfold writeMeters metersTaking
  dsimp only
  rw [if_pos ⟨hrole, (meterConsistent_iff p).2 hfits⟩, ← apply_ite s.setMeters]

theorem writeMeters_of_within (hends : (byteAt p 1).toNat + (byteAt p 2).toNat ≠ 112) :
    writeMeters p s = s.setMeters (metersTaking p s) := by
  rw [writeMeters_of_fits hrole hfits, if_neg hends]

theorem writeMeters_of_not_due (hends : (byteAt p 1).toNat + (byteAt p 2).toNat = 112)
    (h : s.regs.ctrl.hold = true ∨ min 255 (s.meters.sweeps + 1) < meterCadence s) :
    writeMeters p s = s.setMeters { metersTaking p s with sweeps := min 255 (s.meters.sweeps + 1) } := by
  rw [writeMeters_of_fits hrole hfits, if_pos hends, ← metersTaking_sweeps p]
  exact completeSweep_of_not_due ((metersTaking_sweeps p s).symm ▸ h)

theorem writeMeters_of_due (hends : (byteAt p 1).toNat + (byteAt p 2).toNat = 112)
    (hfree : s.regs.ctrl.hold = false) (hdue : meterCadence s ≤ min 255 (s.meters.sweeps + 1)) :
    writeMeters p s = setNotice .meter (s.setMeters { metersTaking p s with sweeps := 0 }) := by
  rw [writeMeters_of_fits hrole hfits, if_pos hends]
  exact completeSweep_of_due hfree ((metersTaking_sweeps p s).symm ▸ hdue)

/-- Whatever the sweep counter does, the words are in their place. -/
theorem writeMeters_meters : ∃ n, (writeMeters p s).meters = { metersTaking p s with sweeps := n } := by
  by_cases hends : (byteAt p 1).toNat + (byteAt p 2).toNat = 112
  case neg => exact ⟨_, by rw [writeMeters_of_within hrole hfits hends]; rfl⟩
  by_cases hdue : s.regs.ctrl.hold = true ∨ min 255 (s.meters.sweeps + 1) < meterCadence s
  case pos => exact ⟨_, by rw [writeMeters_of_not_due hrole hfits hends hdue]; rfl⟩
  case neg =>
    obtain ⟨hfree, hreached⟩ := not_or.1 hdue
    exact ⟨0, by
      rw [writeMeters_of_due hrole hfits hends (Bool.eq_false_iff.2 hfree) (Nat.not_lt.1 hreached)]; rfl⟩

end

/-! ## What the group leaves (R83, R84) -/

/-- A word stands in the pending store where nothing was pending, or merged with what was. -/
theorem getD_mergeWords_payload {p : List Byte} {store : List (Option Word)} (hfits : MeterFits p)
    (hstore : store.length = 112) {j : Nat} (hj : j < (byteAt p 2).toNat) :
    (mergeWords store (byteAt p 1).toNat (payloadWords p)).getD ((byteAt p 1).toNat + j) none =
      some (mergeWord (store.getD ((byteAt p 1).toNat + j) none) (word32At p (3 + 4 * j))) := by
  obtain ⟨-, -, -, -, hlast, -⟩ := hfits
  rw [List.getD_eq_getElem?_getD, getElem?_mergeWords_inside _ _ _ (by simpa using hj) (by simpa [hstore] using hlast),
    getElem?_payloadWords hj]
  rfl

theorem getElem?_writeWords_payload {p : List Byte} {table : List Word} (hfits : MeterFits p)
    (htable : table.length = 112) {j : Nat} (hj : j < (byteAt p 2).toNat) :
    (writeWords table (byteAt p 1).toNat (payloadWords p))[(byteAt p 1).toNat + j]? =
      some (word32At p (3 + 4 * j)) := by
  obtain ⟨-, -, -, -, hlast, -⟩ := hfits
  rw [getElem?_writeWords_inside _ _ _ (by simpa using hj) (by simpa [htable] using hlast), getElem?_payloadWords hj]

/-! ## The head of the inbox (R104) -/

theorem consumeHead_of_head {s : State} {m : Msg} {rest : List Msg} (h : s.receiver.inbox = m :: rest) :
    consumeHead m.type s = consume m (s.setReceiver { s.receiver with inbox := rest }) := by
  unfold consumeHead
  rw [h]
  exact if_pos rfl

/-- Settles O59: the writer acts on the state whose inbox has lost the message, and its equations say the rest. -/
theorem meterReceived : Obligations.MeterReceived := by
  unfold Obligations.MeterReceived
  intro s p rest hrole hsized hinbox first count consistent cadence counted
  let u := s.setReceiver { s.receiver with inbox := rest }
  have hexec : exec .meterReceived s = .next (writeMeters p u) :=
    congrArg Host.Outcome.next (consumeHead_of_head hinbox)
  have hu : Keeps [.receiver] s u := setReceiver_keeps s _
  have hwrite := writeMeters_keeps p u
  refine ⟨_, hexec, hwrite.part .receiver, fun hbad => ?dropped, fun hfits => ?taken⟩
  case dropped =>
    rw [writeMeters_of_not_fits hbad]
    exact hu
  case taken =>
    have hrole' : u.role = .desk := hrole
    obtain ⟨n, hmeters⟩ := writeMeters_meters hrole' hfits
    refine ⟨hu.mono.next hwrite, ?cursor, ?mark, fun hfree => ?free, fun hhold => ?hold, fun hends => ?within,
      fun hends hnot => ?counted, fun hends hfree hdue => ?due⟩
    case cursor => rw [hmeters]; exact metersTaking_cursor p u
    case mark => rw [hmeters]; exact metersTaking_mark p u
    case free =>
      rw [hmeters, metersTaking_of_free (s := u) p hfree]
      exact ⟨rfl, fun j => getElem?_writeWords_payload hfits hsized.meters,
        fun i hi => getElem?_writeWords_outside _ _ _ (by rwa [length_payloadWords])⟩
    case hold =>
      rw [hmeters, metersTaking_of_hold (s := u) p hhold]
      have hentry (j : Nat) (hj : j < count) := getD_mergeWords_payload hfits hsized.store hj
      refine ⟨rfl, fun j hj hnone => ?_, fun j hj e hsome => ?_,
        fun i hi => getElem?_mergeWords_outside _ _ _ (by rwa [length_payloadWords])⟩
      · exact (hentry j hj).trans (by rw [hnone, mergeWord_none])
      · refine ⟨_, (hentry j hj).trans (by rw [hsome]), meterPeak_mergeWord e _, ?_, meterMark_mergeWord e _⟩
        rw [meterClip_mergeWord, Bool.or_eq_true]
    case within =>
      rw [writeMeters_of_within hrole' hfits hends]
      exact ⟨metersTaking_sweeps p u, rfl⟩
    case counted =>
      rw [writeMeters_of_not_due hrole' hfits hends hnot]
      exact ⟨rfl, rfl⟩
    case due =>
      rw [writeMeters_of_due hrole' hfits hends hfree hdue]
      exact ⟨rfl, rfl⟩

end Sys2Proof.Machine
end

section
/-! An ACK at the desk (sections 8.6, 8.9 and 9.3, R141, R142, R153): what it makes of the two lists, one equation for
each kind of ACK, what the completion of the entries ACCEPTED against a record does to each board entry, and the state
after the whole event. -/

namespace Sys2Proof.Machine

/-! ## The flags of NOTICE (R178) -/

theorem noticed_setNotice (n : Notice) (s : State) : noticed n (setNotice n s) := by
  show (s.regs.notice ||| noticeBit n) &&& noticeBit n = noticeBit n
  grind

/-- Setting a flag clears no other. -/
theorem noticed_setNotice_of_noticed {n : Notice} {s : State} (m : Notice) (h : noticed n s) :
    noticed n (setNotice m s) := by
  show (s.regs.notice ||| noticeBit m) &&& noticeBit n = noticeBit n
  rw [noticed] at h
  rw [BitVec.and_or_distrib_right, h]
  grind

/-! ## The shadow table (R135) -/

theorem shadowAt_setShadow_self {r : Nat} (e : Shadow) {s : State} (hr : r < s.desk.shadow.length) :
    shadowAt (setShadow r e s) r = e := by
  simp [shadowAt, setShadow, hr]

theorem shadowAt_setShadow_other {r k : Nat} (e : Shadow) (s : State) (hk : k ≠ r) :
    shadowAt (setShadow r e s) k = shadowAt s k := by
  simp [shadowAt, setShadow, Ne.symm hk]

/-! ## The lists after an ACK (R141) -/

/-- The in-flight entry of a record is the only one it has (R140). -/
theorem inFlightEntry_of_mem {d : DeskRepl} {e : InFlight} (honce : (d.inFlight.map InFlight.record).Nodup)
    (he : e ∈ d.inFlight) : inFlightEntry d e.record = some e := by
  have hfound : (inFlightEntry d e.record).isSome := List.find?_isSome.2 ⟨e, he, beq_self_eq_true e.record⟩
  obtain ⟨x, hx⟩ := Option.isSome_iff_exists.1 hfound
  rw [inFlightEntry] at hx ⊢
  have hrecord : x.record = e.record := by simpa using List.find?_some hx
  exact hx.trans (congrArg some (List.inj_on_of_nodup_map honce (List.mem_of_find?_eq_some hx) he hrecord))

theorem inFlightEntry_eq_none {d : DeskRepl} {r : Nat} (h : ∀ e ∈ d.inFlight, e.record ≠ r) :
    inFlightEntry d r = none := by
  simpa [inFlightEntry] using h

/-- Removing an in-flight entry removes all that its record has in flight. -/
theorem erase_inFlight {l : List InFlight} {e : InFlight} (honce : (l.map InFlight.record).Nodup) (he : e ∈ l) :
    l.erase e = l.filter fun x => x.record != e.record := by
  rw [honce.of_map.erase_eq_filter]
  refine List.filter_congr fun x hx => ?_
  rw [Bool.eq_iff_iff, bne_iff_ne, bne_iff_ne]
  exact not_congr ⟨congrArg InFlight.record, List.inj_on_of_nodup_map honce hx he⟩

/-- An ACK writes the two lists alone. -/
theorem ackLists_eq (d : DeskRepl) (r : Nat) (v w : Word) :
    ackLists d r v w = { d with dirty := (ackLists d r v w).dirty, inFlight := (ackLists d r v w).inFlight } := by
  unfold ackLists
  split <;> split <;> rfl

theorem ackLists_of_matching {d : DeskRepl} {e : InFlight} (w : Word)
    (honce : (d.inFlight.map InFlight.record).Nodup) (he : e ∈ d.inFlight) :
    ackLists d e.record e.version w = { d with inFlight := d.inFlight.filter fun x => x.record != e.record } := by
  simp only [ackLists, inFlightEntry_of_mem honce he, if_true, erase_inFlight honce he]

theorem ackLists_of_stale {d : DeskRepl} {e : InFlight} {v : Word} (w : Word)
    (honce : (d.inFlight.map InFlight.record).Nodup) (he : e ∈ d.inFlight) (hv : e.version ≠ v) :
    ackLists d e.record v w = d := by
  simp only [ackLists, inFlightEntry_of_mem honce he, hv, if_false]

theorem ackLists_of_late {d : DeskRepl} {r : Nat} (v w : Word) (hdirty : d.dirty.Nodup)
    (h : ∀ e ∈ d.inFlight, e.record ≠ r) :
    ackLists d r v w =
      { d with dirty := if v ≠ 0 ∧ v = w then d.dirty.filter fun x => x != r else d.dirty } := by
  simp only [ackLists, inFlightEntry_eq_none h, hdirty.erase_eq_filter]
  split <;> rfl

theorem pushesIdle_iff (d : DeskRepl) : pushesIdle d = true ↔ d.dirty = [] ∧ d.inFlight = [] := by
  simp [pushesIdle]

/-- An event that empties both lists sets SYNC (R153). -/
theorem noticed_syncAfter {before : DeskRepl} {s : State} (hbefore : before.dirty ≠ [] ∨ before.inFlight ≠ [])
    (hdirty : s.desk.dirty = []) (hflight : s.desk.inFlight = []) : noticed .sync (syncAfter before s) := by
  have hidle : pushesIdle s.desk = true := (pushesIdle_iff _).2 ⟨hdirty, hflight⟩
  have hbusy : pushesIdle before = false := by
    rw [Bool.eq_false_iff, Ne, pushesIdle_iff]
    tauto
  simp only [syncAfter, noticeIf, hidle, hbusy, Bool.not_false, Bool.and_true, if_true]
  exact noticed_setNotice .sync s

theorem noticed_syncAfter_of_noticed {n : Notice} {before : DeskRepl} {s : State} (h : noticed n s) :
    noticed n (syncAfter before s) := by
  unfold syncAfter noticeIf
  split
  · exact noticed_setNotice_of_noticed .sync h
  · exact h

/-! ## One board entry across a step -/

/-- Entry `i` and its accepted record are as they were. -/
structure EntryKept (s t : State) (i : Nat) : Prop where
  accepted : acceptedAt t i = acceptedAt s i
  words : ∀ k < 8, entryWord t i k = entryWord s i k

/-- Entry `i`, ACCEPTED with the record `a`, is completed DONE (R142, R163, R169). -/
structure EntryDone (s t : State) (i : Nat) (a : Accepted) : Prop where
  dropped : acceptedAt t i = none
  notice : noticed .board t
  word0 : entryWord t i 0 = a.tag ++ a.kind ++ 3#8
  word6 : entryWord t i 6 = 0#23 ++ BitVec.ofBool a.clamped ++ 1#8
  word7 : entryWord t i 7 = s.superframe
  others : ∀ k, 1 ≤ k → k ≤ 5 → entryWord t i k = entryWord s i k

theorem EntryKept.refl (s : State) (i : Nat) : EntryKept s s i := ⟨rfl, fun _ _ => rfl⟩

theorem EntryKept.trans {s t u : State} {i : Nat} (h : EntryKept s t i) (g : EntryKept t u i) : EntryKept s u i :=
  ⟨g.accepted.trans h.accepted, fun k hk => (g.words k hk).trans (h.words k hk)⟩

theorem EntryKept.of_parts {s t : State} (hboard : t.board = s.board) (hscanner : t.scanner = s.scanner) (i : Nat) :
    EntryKept s t i :=
  ⟨by rw [acceptedAt, hscanner, acceptedAt], fun k _ => by rw [entryWord, hboard, entryWord]⟩

/-- What is DONE stays so while the entry is kept and the BOARD notice stands. -/
theorem EntryDone.kept {s t u : State} {i : Nat} {a : Accepted} (h : EntryDone s t i a) (g : EntryKept t u i)
    (hnotice : noticed .board t → noticed .board u) : EntryDone s u i a where
  dropped := g.accepted.trans h.dropped
  notice := hnotice h.notice
  word0 := (g.words 0 (by decide)).trans h.word0
  word6 := (g.words 6 (by decide)).trans h.word6
  word7 := (g.words 7 (by decide)).trans h.word7
  others := fun k hlo hhi => (g.words k (by omega)).trans (h.others k hlo hhi)

/-- An entry that is kept first and DONE then is DONE. -/
theorem EntryKept.done {s t u : State} {i : Nat} {a : Accepted} (h : EntryKept s t i)
    (hcount : t.superframe = s.superframe) (g : EntryDone t u i a) : EntryDone s u i a where
  dropped := g.dropped
  notice := g.notice
  word0 := g.word0
  word6 := g.word6
  word7 := g.word7.trans hcount
  others := fun k hlo hhi => (g.others k hlo hhi).trans (h.words k (by omega))

/-! ## The completion of one entry (R169) -/

theorem acceptedAt_setAccepted_none (i : Nat) (s : State) : acceptedAt (setAccepted i none s) i = none := by
  by_cases hi : i < s.scanner.accepted.length <;> simp [acceptedAt, setAccepted, hi]

theorem acceptedAt_setAccepted_other {i j : Nat} (a : Option Accepted) (s : State) (hj : j ≠ i) :
    acceptedAt (setAccepted i a s) j = acceptedAt s j := by
  simp [acceptedAt, setAccepted, Ne.symm hj]

theorem completeEntry_board (i : Nat) (a : Accepted) (state : EntryState) (result : EntryResult) (s : State) :
    (completeEntry i a state result s).board = (writeEntry i state result a.clamped a.kind a.tag s).board := rfl

theorem completeEntry_done (i : Nat) (a : Accepted) {s : State} (hwf : s.board.wf = true) :
    EntryDone s (completeEntry i a .done .done s) i a := by
  have hword (k : Nat) (hk : k < 8) := entryWord_writeEntry i k .done .done a.clamped a.kind a.tag s hwf hk
  simp only [entryWord, ← completeEntry_board] at hword
  exact
    { dropped := acceptedAt_setAccepted_none i _
      notice := noticed_setNotice .board _
      word0 := hword 0 (by decide)
      word6 := hword 6 (by decide)
      word7 := hword 7 (by decide)
      others := fun k hlo hhi => (hword k (by omega)).trans
        (by rw [if_neg (by omega), if_neg (by omega), if_neg (by omega), entryWord]) }

theorem completeEntry_other {i j : Nat} (a : Accepted) (state : EntryState) (result : EntryResult) (s : State)
    (hj : j ≠ i) : EntryKept s (completeEntry i a state result s) j := by
  refine ⟨acceptedAt_setAccepted_other none (writeEntry i state result a.clamped a.kind a.tag s) hj, fun k hk => ?_⟩
  rw [entryWord, completeEntry_board]
  exact entryWord_writeEntry_other i j k state result a.clamped a.kind a.tag s hj hk

theorem completeEntry_wf (i : Nat) (a : Accepted) (state : EntryState) (result : EntryResult) {s : State}
    (hwf : s.board.wf = true) : (completeEntry i a state result s).board.wf = true :=
  Memory.wf_writeWord _ _ _ (Memory.wf_writeWord _ _ _ (Memory.wf_writeWord _ _ _ hwf))

/-! ## The completion of every entry against a CLEAN record (R142) -/

theorem completeIfAgainst_of_against {r i : Nat} {a : Accepted} {s : State} (ha : acceptedAt s i = some a)
    (hr : a.record = r) : completeIfAgainst r i s = completeEntry i a .done .done s := by
  simp only [completeIfAgainst, ha, hr, if_true]

theorem completeIfAgainst_of_not_against {r i : Nat} {s : State} (h : ∀ a, acceptedAt s i = some a → a.record ≠ r) :
    completeIfAgainst r i s = s := by
  unfold completeIfAgainst
  split
  next a ha => exact if_neg (h a ha)
  next => rfl

/-- An entry is completed, or nothing happens. -/
theorem completeIfAgainst_cases (r i : Nat) (s : State) :
    (∃ a, completeIfAgainst r i s = completeEntry i a .done .done s) ∨ completeIfAgainst r i s = s := by
  by_cases h : ∃ a, acceptedAt s i = some a ∧ a.record = r
  · obtain ⟨a, ha, hr⟩ := h
    exact .inl ⟨a, completeIfAgainst_of_against ha hr⟩
  · exact .inr (completeIfAgainst_of_not_against fun a ha hr => h ⟨a, ha, hr⟩)

theorem completeIfAgainst_other (r : Nat) {i j : Nat} (s : State) (hj : j ≠ i) :
    EntryKept s (completeIfAgainst r i s) j := by
  obtain ⟨a, h⟩ | h := completeIfAgainst_cases r i s <;> rw [h]
  · exact completeEntry_other a .done .done s hj
  · exact EntryKept.refl s j

theorem completeIfAgainst_wf (r i : Nat) {s : State} (hwf : s.board.wf = true) :
    (completeIfAgainst r i s).board.wf = true := by
  obtain ⟨a, h⟩ | h := completeIfAgainst_cases r i s <;> rw [h]
  · exact completeEntry_wf i a .done .done hwf
  · exact hwf

theorem completeIfAgainst_noticed (r i : Nat) {s : State} (h : noticed .board s) :
    noticed .board (completeIfAgainst r i s) := by
  obtain ⟨a, heq⟩ | heq := completeIfAgainst_cases r i s <;> rw [heq]
  · exact noticed_setNotice .board _
  · exact h

/-- A property that every step of a list keeps holds after the whole of it. -/
theorem forEach_preserves {α : Type} {P : State → Prop} {f : α → State → State} (hf : ∀ a s, P s → P (f a s))
    (l : List α) {s : State} (h : P s) : P (forEach f l s) := by
  induction l generalizing s with
  | nil => exact h
  | cons a l ih => exact ih (hf a s h)

/-- An entry that the list leaves out, or that is not ACCEPTED against the record, is left alone. -/
theorem forEach_completeIfAgainst_kept {r i : Nat} {l : List Nat} {s : State}
    (h : i ∉ l ∨ ∀ a, acceptedAt s i = some a → a.record ≠ r) :
    EntryKept s (forEach (completeIfAgainst r) l s) i := by
  induction l generalizing s with
  | nil => exact EntryKept.refl s i
  | cons j l ih =>
    have hstep : EntryKept s (completeIfAgainst r j s) i := by
      by_cases hij : i = j
      · subst hij
        rw [completeIfAgainst_of_not_against (h.resolve_left (not_not.2 List.mem_cons_self))]
        exact EntryKept.refl s i
      · exact completeIfAgainst_other r s hij
    have hrest : i ∉ l ∨ ∀ a, acceptedAt (completeIfAgainst r j s) i = some a → a.record ≠ r := by
      rw [hstep.accepted]
      exact h.imp_left fun hi hl => hi (List.mem_cons_of_mem j hl)
    exact hstep.trans (ih hrest)

/-- The entry's own turn completes it; no turn before or after touches it. -/
theorem forEach_completeIfAgainst_done {r i : Nat} {l : List Nat} {a : Accepted} {s : State} (hl : l.Nodup)
    (hi : i ∈ l) (hwf : s.board.wf = true) (ha : acceptedAt s i = some a) (hr : a.record = r) :
    EntryDone s (forEach (completeIfAgainst r) l s) i a := by
  induction l generalizing s with
  | nil => exact absurd hi List.not_mem_nil
  | cons j l ih =>
    obtain ⟨hj, hl⟩ := List.nodup_cons.1 hl
    by_cases hij : i = j
    · subst hij
      have hdone : EntryDone s (completeIfAgainst r i s) i a := by
        rw [completeIfAgainst_of_against ha hr]
        exact completeEntry_done i a hwf
      exact hdone.kept (forEach_completeIfAgainst_kept (.inl hj))
        (forEach_preserves (fun j _ => completeIfAgainst_noticed r j) l)
    · have hkept := completeIfAgainst_other r s hij
      exact hkept.done ((completeIfAgainst_keeps r j s).part .superframe)
        (ih hl ((List.mem_cons.1 hi).resolve_left hij) (completeIfAgainst_wf r j hwf) (hkept.accepted.trans ha))

/-- Every entry ACCEPTED against the record is DONE (R142). -/
theorem completeAgainst_done {r i : Nat} {a : Accepted} {s : State} (hi : i < 32) (hwf : s.board.wf = true)
    (ha : acceptedAt s i = some a) (hr : a.record = r) : EntryDone s (completeAgainst r s) i a :=
  forEach_completeIfAgainst_done List.nodup_range (List.mem_range.2 hi) hwf ha hr

/-- Every other entry is left alone. -/
theorem completeAgainst_kept {r i : Nat} {s : State} (h : ∀ a, acceptedAt s i = some a → a.record ≠ r) :
    EntryKept s (completeAgainst r s) i :=
  forEach_completeIfAgainst_kept (.inr h)

/-! ## The whole event (R141, R142, R153) -/

/-- The desk's lists and the confirmed version after an ACK, before an entry completes. -/
def confirmAck (r : Nat) (v : Word) (s : State) : State :=
  setShadow r { shadowAt s r with confirmed := v } (s.setDesk (ackLists s.desk r v (shadowAt s r).version))

/-- Where the record is CLEAN after an ACK, its entries complete. -/
def completeAck (r : Nat) (t : State) : State :=
  if replState t.desk r = .clean then completeAgainst r t else t

/-- An ACK at the desk, by its three parts in order. -/
theorem acknowledge_of_desk {r : Nat} (v : Word) {s : State} (hrole : s.role = .desk) (hr : r < 226) :
    acknowledge r v s = syncAfter s.desk (completeAck r (confirmAck r v s)) :=
  if_pos ⟨hrole, hr⟩

theorem acknowledge_of_no_record {r : Nat} (v : Word) (s : State) (hr : 226 ≤ r) : acknowledge r v s = s :=
  if_neg fun h => Nat.not_lt.2 hr h.2

theorem confirmAck_desk (r : Nat) (v : Word) (s : State) :
    (confirmAck r v s).desk = { ackLists s.desk r v (shadowAt s r).version with
      shadow := s.desk.shadow.set r { shadowAt s r with confirmed := v } } := by
  have hshadow := congrArg DeskRepl.shadow (ackLists_eq s.desk r v (shadowAt s r).version)
  simp only [confirmAck, setShadow, State.setDesk_desk, hshadow]

theorem completeAck_keeps (r : Nat) (s : State) : Keeps [.board, .scanner, .regs] s (completeAck r s) := by
  unfold completeAck
  split
  · exact completeAgainst_keeps r s
  · exact Keeps.refl _ s

theorem completeAck_done {r i : Nat} {a : Accepted} {s : State} (hclean : replState s.desk r = .clean) (hi : i < 32)
    (hwf : s.board.wf = true) (ha : acceptedAt s i = some a) (hr : a.record = r) :
    EntryDone s (completeAck r s) i a := by
  rw [completeAck, if_pos hclean]
  exact completeAgainst_done hi hwf ha hr

theorem completeAck_kept {r i : Nat} {s : State}
    (h : replState s.desk r ≠ .clean ∨ ∀ a, acceptedAt s i = some a → a.record ≠ r) :
    EntryKept s (completeAck r s) i := by
  by_cases hclean : replState s.desk r = .clean
  · rw [completeAck, if_pos hclean]
    exact completeAgainst_kept (h.resolve_left (not_not.2 hclean))
  · rw [completeAck, if_neg hclean]
    exact EntryKept.refl s i

/-- The desk's part after the event is what the lists and the confirmed version make of it: no completion touches it. -/
theorem acknowledge_desk {r : Nat} (v : Word) {s : State} (hrole : s.role = .desk) (hr : r < 226) :
    (acknowledge r v s).desk = { ackLists s.desk r v (shadowAt s r).version with
      shadow := s.desk.shadow.set r { shadowAt s r with confirmed := v } } := by
  rw [acknowledge_of_desk v hrole hr, ← confirmAck_desk]
  exact ((syncAfter_keeps _ _).part .desk).trans ((completeAck_keeps r _).part .desk)

theorem shadowAt_acknowledge_self {r : Nat} (v : Word) {s : State} (hrole : s.role = .desk) (hr : r < 226)
    (hshadow : s.desk.shadow.length = 226) :
    shadowAt (acknowledge r v s) r = { shadowAt s r with confirmed := v } := by
  rw [shadowAt, acknowledge_desk v hrole hr]
  exact shadowAt_setShadow_self (s := s) _ (by omega)

theorem shadowAt_acknowledge_other {r k : Nat} (v : Word) {s : State} (hrole : s.role = .desk) (hr : r < 226)
    (hk : k ≠ r) : shadowAt (acknowledge r v s) k = shadowAt s k := by
  rw [shadowAt, acknowledge_desk v hrole hr]
  exact shadowAt_setShadow_other _ s hk

theorem acknowledge_sync {r : Nat} (v : Word) {s : State} (hrole : s.role = .desk) (hr : r < 226)
    (hbefore : s.desk.dirty ≠ [] ∨ s.desk.inFlight ≠ []) (hdirty : (acknowledge r v s).desk.dirty = [])
    (hflight : (acknowledge r v s).desk.inFlight = []) : noticed .sync (acknowledge r v s) := by
  rw [acknowledge_of_desk v hrole hr] at hdirty hflight ⊢
  rw [(syncAfter_keeps _ _).part .desk] at hdirty hflight
  exact noticed_syncAfter hbefore hdirty hflight

/-- An ACK writes the shadow table and the two lists of the desk's part. -/
theorem acknowledge_desk_others {r : Nat} (v : Word) {s : State} (hrole : s.role = .desk) (hr : r < 226) :
    (acknowledge r v s).desk = { s.desk with
      shadow := (acknowledge r v s).desk.shadow, dirty := (acknowledge r v s).desk.dirty,
      inFlight := (acknowledge r v s).desk.inFlight } := by
  rw [acknowledge_desk v hrole hr, ackLists_eq]

/-- The two lists after an ACK are those that `ackLists` leaves. -/
theorem acknowledge_lists {r : Nat} (v : Word) {s : State} (hrole : s.role = .desk) (hr : r < 226) :
    (acknowledge r v s).desk.inFlight = (ackLists s.desk r v (shadowAt s r).version).inFlight ∧
      (acknowledge r v s).desk.dirty = (ackLists s.desk r v (shadowAt s r).version).dirty := by
  rw [acknowledge_desk v hrole hr]
  exact ⟨rfl, rfl⟩

theorem replState_acknowledge {r : Nat} (v : Word) {s : State} (hrole : s.role = .desk) (hr : r < 226) :
    replState (acknowledge r v s).desk r = replState (confirmAck r v s).desk r := by
  rw [acknowledge_desk v hrole hr, confirmAck_desk]

/-- Writing the lists touches no entry. -/
theorem confirmAck_entry (r : Nat) (v : Word) (s : State) (i : Nat) : EntryKept s (confirmAck r v s) i :=
  EntryKept.of_parts (s := s) (t := confirmAck r v s) rfl rfl i

theorem syncAfter_entry (before : DeskRepl) (s : State) (i : Nat) : EntryKept s (syncAfter before s) i :=
  EntryKept.of_parts ((syncAfter_keeps before s).part .board) ((syncAfter_keeps before s).part .scanner) i

theorem acknowledge_done {r i : Nat} (v : Word) {a : Accepted} {s : State} (hrole : s.role = .desk) (hr : r < 226)
    (hwf : s.board.wf = true) (hi : i < 32) (ha : acceptedAt s i = some a) (hagainst : a.record = r)
    (hclean : replState (acknowledge r v s).desk r = .clean) : EntryDone s (acknowledge r v s) i a := by
  rw [replState_acknowledge v hrole hr] at hclean
  have hdone := completeAck_done (s := confirmAck r v s) hclean hi hwf ha hagainst
  rw [acknowledge_of_desk v hrole hr]
  exact (confirmAck_entry r v s i).done rfl (hdone.kept (syncAfter_entry _ _ i) noticed_syncAfter_of_noticed)

theorem acknowledge_kept {r i : Nat} (v : Word) {s : State} (hrole : s.role = .desk) (hr : r < 226)
    (h : replState (acknowledge r v s).desk r ≠ .clean ∨ ∀ a, acceptedAt s i = some a → a.record ≠ r) :
    EntryKept s (acknowledge r v s) i := by
  rw [replState_acknowledge v hrole hr] at h
  rw [acknowledge_of_desk v hrole hr]
  exact (confirmAck_entry r v s i).trans
    ((completeAck_kept (s := confirmAck r v s) h).trans (syncAfter_entry _ _ i))

/-- Settles O56: the desk acts on the state whose inbox has lost the ACK; the lists follow by the kind of the ACK, the
board by whether the record is CLEAN afterwards. -/
theorem ackTaken : Obligations.AckTaken := by
  unfold Obligations.AckTaken
  rintro s p rest hrole ⟨hwf, -⟩ hlists hsized hinbox r v
  let u := s.setReceiver { s.receiver with inbox := rest }
  have hexec : exec .ackReceived s = .next (acknowledge r v u) :=
    congrArg Host.Outcome.next (consumeHead_of_head hinbox)
  have hu : Keeps [.receiver] s u := setReceiver_keeps s _
  have hack := acknowledge_keeps r v u
  refine ⟨_, hexec, hack.part .receiver, fun hnone => ?dropped, fun hr => ?taken⟩
  case dropped =>
    rw [acknowledge_of_no_record v u hnone]
    exact hu
  case taken =>
    have hrole' : u.role = .desk := hrole
    have hdesk : u.desk = s.desk := hu.part .desk
    obtain ⟨hflight, hdirty⟩ := acknowledge_lists v hrole' hr
    rw [hdesk] at hflight hdirty
    refine ⟨hu.mono.next hack, shadowAt_acknowledge_self v hrole' hr hsized.shadow,
      fun k hk => shadowAt_acknowledge_other v hrole' hr hk, acknowledge_desk_others v hrole' hr,
      fun e he her hev => ?matching, fun e he her hev => ?stale, fun hnone => ?late,
      fun hbusy => acknowledge_sync v hrole' hr hbusy, fun i a hi ha hagainst hclean => ?done, fun i _ h => ?kept⟩
    case matching =>
      rw [hflight, hdirty, ← her, ← hev, ackLists_of_matching _ hlists.flightOnce he]
      exact ⟨rfl, rfl⟩
    case stale =>
      rw [hflight, hdirty, ← her, ackLists_of_stale _ hlists.flightOnce he hev]
      exact ⟨rfl, rfl⟩
    case late =>
      rw [hflight, hdirty, ackLists_of_late v _ hlists.dirtyOnce hnone]
      exact ⟨rfl, rfl⟩
    case done =>
      obtain ⟨hdropped, hnotice, hword0, hword6, hword7, hothers⟩ :=
        acknowledge_done v hrole' hr hwf hi ha hagainst hclean
      exact ⟨hdropped, hnotice, hword0, hword6, hword7, hothers⟩
    case kept =>
      obtain ⟨haccepted, hwords⟩ := acknowledge_kept v hrole' hr h
      exact ⟨haccepted, hwords⟩

end Sys2Proof.Machine
end


section
/-! What the part's own operations can do to its state. `Act` lists the operations of the blocks, each with the
condition under which the model takes it; every command but a host access and a reset is a run of them (`exec_acts` in
the next part). An invariant is then shown once for each operation, and not again for each command that reaches it. -/

namespace Sys2Proof.Machine

/-! ## The registers and the ring under the part's own notices -/

theorem RegsKept.refl (s : State) : RegsKept s s :=
  ⟨rfl, by rw [noticesKept, BitVec.and_self], BitVec.and_self⟩

theorem RegsKept.of_regs {s t : State} (h : t.regs = s.regs) : RegsKept s t := by
  unfold RegsKept noticesKept
  rw [h]
  exact ⟨rfl, BitVec.and_self, BitVec.and_self⟩

/-- A flag kept over two steps is kept over both. -/
theorem and_kept {w : Nat} {a b c : BitVec w} (hab : a &&& b = a) (hbc : b &&& c = b) : a &&& c = a := by
  rw [← hab, BitVec.and_assoc, hbc]

theorem RegsKept.trans {s t u : State} (h : RegsKept s t) (g : RegsKept t u) : RegsKept s u := by
  obtain ⟨hregs, hnotice, hchange⟩ := h
  obtain ⟨gregs, gnotice, gchange⟩ := g
  refine ⟨?_, and_kept hnotice gnotice, and_kept hchange gchange⟩
  rw [gregs, hregs]

theorem and_or_kept {w : Nat} (a b : BitVec w) : a &&& (a ||| b) = a := by
  ext i hi
  simp
  tauto

theorem setNotice_regsKept (n : Notice) (s : State) : RegsKept s (setNotice n s) :=
  ⟨rfl, and_or_kept _ _, BitVec.and_self⟩

theorem setChange_regsKept (c : Change) (s : State) : RegsKept s (setChange c s) :=
  ⟨rfl, and_or_kept _ _, and_or_kept _ _⟩

/-! ## Steps beside the invariants -/

/-- The parts that no invariant speaks of. -/
abbrev asideParts : List Part :=
  [.superframe, .stepperDue, .button, .talkSeen, .selector, .sched, .receiver, .ring, .status, .regs, .output]

/-- A step that touches the parts `T` and, of the others, only those beside the invariants: no register but NOTICE and
the change bits, where nothing is cleared, and no size of the ring. -/
structure Beside (T : List Part) (s t : State) : Prop where
  keeps : Keeps (T ++ asideParts) s t
  regs : RegsKept s t
  ring : t.ring.records.length = s.ring.records.length

theorem Beside.refl (T : List Part) (s : State) : Beside T s s :=
  ⟨Keeps.refl _ s, RegsKept.refl s, rfl⟩

theorem Beside.trans {T : List Part} {s t u : State} (h : Beside T s t) (g : Beside T t u) : Beside T s u :=
  ⟨h.keeps.next g.keeps fun _ hp => hp, h.regs.trans g.regs, g.ring.trans h.ring⟩

theorem Beside.mono {T U : List Part} {s t : State} (h : Beside U s t) (hU : U ⊆ T) : Beside T s t :=
  ⟨h.keeps.mono (List.append_subset.2
    ⟨List.subset_append_of_subset_left asideParts hU, List.subset_append_right T asideParts⟩), h.regs, h.ring⟩

/-- A step that leaves the registers and the ring alone. -/
theorem Beside.of_keeps {T U : List Part} {s t : State} (h : Keeps U s t)
    (hU : U ⊆ T ++ asideParts ∧ .regs ∉ U ∧ .ring ∉ U) : Beside T s t := by
  obtain ⟨hU, hregs, hring⟩ := hU
  exact ⟨h.mono hU, RegsKept.of_regs (h .regs hregs), by rw [h .ring hring]⟩

theorem Beside.setNotice (n : Notice) (s : State) : Beside [] s (setNotice n s) :=
  ⟨(setNotice_keeps n s).mono (by decide), setNotice_regsKept n s, rfl⟩

theorem Beside.noticeIf (c : Bool) (n : Notice) (s : State) : Beside [] s (noticeIf c n s) := by
  cases c
  · exact Beside.refl [] s
  · exact Beside.setNotice n s

theorem Beside.setChange (c : Change) (s : State) : Beside [] s (setChange c s) :=
  ⟨(setChange_keeps c s).mono (by decide), setChange_regsKept c s, rfl⟩

theorem Beside.appendEvent (stamp : Word) (type origin : Byte) (subject : Half) (detail : Word) (s : State) :
    Beside [] s (appendEvent stamp type origin subject detail s) := by
  refine ⟨(appendEvent_keeps stamp type origin subject detail s).mono (by decide), ?_, ?_⟩ <;> unfold Machine.appendEvent <;> split
  · exact RegsKept.refl s
  · exact setNotice_regsKept .event _
  · rfl
  · exact List.length_set

theorem Beside.writeEvent (type : EventType) (subject : Nat) (detail : Word) (s : State) :
    Beside [] s (writeEvent type subject detail s) :=
  Beside.appendEvent ..

theorem Beside.portChanged (p : PortId) (s : State) : Beside [] s (portChanged p s) :=
  (Beside.setChange _ s).trans (Beside.writeEvent ..)

theorem Beside.adoptDone (s : State) : Beside [] s (adoptDone s) :=
  (Beside.writeEvent ..).trans (Beside.setNotice ..)

theorem Beside.dropStageTalk (s : State) : Beside [] s (dropStageTalk s) := by
  unfold Machine.dropStageTalk
  split
  · exact (Beside.of_keeps (setTalkSeen_keeps s false) (by decide)).trans ((Beside.setChange ..).trans (Beside.setNotice ..))
  · exact Beside.refl [] s

theorem Beside.compareStageTalk (talk : Bool) (s : State) : Beside [] s (compareStageTalk talk s) := by
  unfold Machine.compareStageTalk
  split
  · exact (Beside.of_keeps (setTalkSeen_keeps s talk) (by decide)).trans
      ((Beside.setChange ..).trans ((Beside.setNotice ..).trans (Beside.writeEvent ..)))
  · exact Beside.refl [] s

theorem Beside.sampleButton (pinLow : Bool) (s : State) : Beside [] s (sampleButton pinLow s) := by
  unfold Machine.sampleButton
  split_ifs
  · exact Beside.of_keeps (setButton_keeps s _) (by decide)
  · exact Beside.of_keeps (setButton_keeps s _) (by decide)
  · exact (Beside.of_keeps (setButton_keeps s _) (by decide)).trans (Beside.setChange ..)
  · exact Beside.refl [] s

theorem Beside.decideCarried (s : State) : Beside [.arbiter] s (decideCarried s) := by
  have hset : ∀ a, Beside [.arbiter] s (s.setArbiter a) := fun a =>
    Beside.of_keeps (setArbiter_keeps s a) (by decide)
  unfold Machine.decideCarried
  dsimp only
  split
  · exact (hset _).trans (((Beside.writeEvent ..).trans (Beside.setNotice ..)).mono (by decide))
  · exact (hset _).trans (((Beside.writeEvent ..).trans (Beside.setNotice ..)).mono (by decide))
  · exact hset _

theorem Beside.setTalkRecord (src : TalkSource) (r : TalkRecord) (s : State) :
    Beside [.arbiter] s (setTalkRecord src r s) :=
  Beside.of_keeps (setTalkRecord_keeps src r s) (by decide)

/-! ## The operations -/

/-- The link changes the model makes (R122 to R127), by the state left and the state entered. -/
inductive LinkStep (l : Link) : LinkState → Prop where
  | expire (h : l.state = .bridging) : LinkStep l .lost
  | connect (h : l.state = .down ∨ l.state = .lost) : LinkStep l .connecting
  | resume (h : l.state = .bridging) : LinkStep l (l.returnTo.getD .connecting)
  | bridge (h : l.state = .connecting ∨ l.state = .linked) : LinkStep l .bridging
  | complete (h : l.state = .connecting) : LinkStep l .linked
  | reconnect (h : l.state = .linked) : LinkStep l .connecting

/-- What a port's buffer may become: it is kept or emptied, or a good frame is filed in it. -/
inductive BufferStep (role : Role) (old : List (Option RxFrame)) : List (Option RxFrame) → Prop where
  | same : BufferStep role old old
  | empty : BufferStep role old (List.replicate 8 none)
  | file (k : Nat) (bytes : List Byte) (f : RxFrame) (h : checkFrame role bytes = some f) :
      BufferStep role old (old.set k (some f))

/-- One operation of the part's blocks, with the parts it touches beside those that no invariant speaks of. -/
inductive Act : List Part → State → State → Prop where
  | aside {s t : State} (h : Beside [] s t) : Act [] s t
  | indexZero (s : State) : Act [.frameIndex] s (s.setFrameIndex 0)
  | indexNext (s : State) (h : s.frameIndex < 48) : Act [.frameIndex] s (s.setFrameIndex (s.frameIndex + 1))
  | gateClosed (s : State) (n : Nat) (hn : n < 96) : Act [.channels, .preamp] s (phantomClosed n s)
  | phantomTimeout (s : State) (n : Nat) : Act [.channels] s (phantomTimeout n s)
  | stepChannel (s : State) (n : Nat) (hn : n < 96) : Act [.channels, .preamp] s (stepChannel n s)
  | startTransfer (s : State) : Act [.channels, .preamp] s (startTransfer s)
  | completeTransfer (s : State) (w : Half) : Act [.channels, .preamp] s (completeTransfer w s)
  | takeMeters (s : State) : Act [.channels, .mixes, .meters] s (takeMeters s)
  | writeMeters (s : State) (p : List Byte) : Act [.meters] s (writeMeters p s)
  | engageIsland (s : State) : Act [.island] s (engageIsland s)
  | countIsland (s : State) : Act [.island] s (countIsland s)
  | arbiter {s t : State} (h : Beside [.arbiter] s t) (hcarried : CarriedOk t) : Act [.arbiter] s t
  | port (s : State) (p : PortId) (v : Port) (h : BufferStep s.role (s.port p).buffer v.buffer) :
      Act [.portA, .portB] s (s.setPort p v)
  | cue (s : State) (d : Deliverer) (hgate : d.gate = s.deliverer.gate) (hout : d.lastOut = s.deliverer.lastOut)
      (hmask : d.maskInUse = s.deliverer.maskInUse) : Act [.deliverer] s (s.setDeliverer d)
  | silent (s : State) : Act [.deliverer] s (silentFrame s)
  | conceal (s : State) (d : Deliverer) (h : isSilent s.link.state = false)
      (hgate : d.gate = rampAdvance s.deliverer.gate) (hout : d.lastOut.length = s.deliverer.lastOut.length)
      (hmask : d.maskInUse = s.deliverer.maskInUse) : Act [.deliverer] s (s.setDeliverer d)
  | deliver (s : State) (d : Deliverer) (p : PortId) (tag : Nat) (f : RxFrame) (h : isSilent s.link.state = false)
      (hf : presentFrame (s.port p) tag = some f) (hgate : d.gate = rampAdvance (startRejoin s.deliverer).gate)
      (hout : d.lastOut.length = f.slots.length) (hmask : d.maskInUse = s.deliverer.maskInUse) :
      Act [.deliverer] s (s.setDeliverer d)
  | mask (s : State) (m : Half) (hrole : s.role = .stage) (h : s.link.state = .linked) :
      Act [.deliverer] s (s.setDeliverer { s.deliverer with maskInUse := m })
  | link (s : State) (l : Link) (hstate : l.state = s.link.state) (hreturn : l.returnTo = s.link.returnTo) :
      Act [.link] s (s.setLink l)
  | changeLink (s : State) (new : LinkState) (h : LinkStep s.link new) :
      Act [.island, .deliverer, .link, .clock, .desk] s (changeLink new s)
  | clock (s : State) (c : Clock) (h : c.trim = s.clock.trim) : Act [.clock] s (s.setClock c)
  | endTrimPeriod (s : State) : Act [.clock] s (endTrimPeriod s)
  | push (s : State) (r : Nat) (hrole : s.role = .desk) (hlink : s.link.state = .linked)
      (hcount : s.desk.inFlight.length < 8) (hr : pushCandidate s.desk = some r) : Act [.desk] s (beginPush r s)
  | pull (s : State) (r : Nat) (stamp : Option Word) :
      Act [.desk] s (s.setDesk { s.desk with adoption := setPulled r stamp s.desk.adoption })
  | inFlightTimeout (s : State) : Act [.desk] s (inFlightTimeout s)
  | edit (s : State) (r : Nat) (requested : List Byte) (hr : r < recordCount) : Act [.desk] s (editRecord r requested s)
  | replay (s : State) : Act [.desk] s (markReplay s)
  | acknowledge (s : State) (r : Nat) (v : Word) : Act [.desk, .board, .scanner] s (acknowledge r v s)
  | adopt (s : State) (r : Nat) (contents : List Byte) (h : contents.length = 16) :
      Act [.desk] s (adoptReport r contents s)
  | writeEntry (s : State) (i : Nat) (hi : i < 32) (state : EntryState) (result : EntryResult) (clamped : Bool)
      (kind : Byte) (tag : Half) : Act [.board] s (writeEntry i state result clamped kind tag s)
  | accept (s : State) (i : Nat) (a : Accepted) (hr : a.record < recordCount)
      (h : isDirty s.desk a.record = true) : Act [.scanner] s (setAccepted i (some a) s)
  | drop (s : State) (i : Nat) : Act [.scanner] s (setAccepted i none s)
  | receivePush (s : State) (r : Nat) (v : Word) (contents : List Byte) :
      Act [.channels, .preamp, .stage] s (receivePush r v contents s)
  | scanner (s : State) (c : Scanner) (h : c.accepted = s.scanner.accepted) : Act [.scanner] s (s.setScanner c)

theorem Act.keeps {T : List Part} {s t : State} (h : Act T s t) : Keeps (T ++ asideParts) s t := by
  cases h with
  | aside h => exact h.keeps
  | indexZero => exact (setFrameIndex_keeps _ _).mono (by decide)
  | indexNext => exact (setFrameIndex_keeps _ _).mono (by decide)
  | gateClosed _ n => exact (phantomClosed_keeps n _).mono (by decide)
  | phantomTimeout _ n => exact (phantomTimeout_keeps n _).mono (by decide)
  | stepChannel _ n => exact (stepChannel_keeps n _).mono (by decide)
  | startTransfer => exact (startTransfer_keeps _).mono (by decide)
  | completeTransfer _ w => exact (completeTransfer_keeps w _).mono (by decide)
  | takeMeters => exact (takeMeters_keeps _).mono (by decide)
  | writeMeters _ p => exact (writeMeters_keeps p _).mono (by decide)
  | engageIsland => exact (engageIsland_keeps _).mono (by decide)
  | countIsland => exact (countIsland_keeps _).mono (by decide)
  | arbiter h => exact h.keeps
  | port _ p v => exact (setPort_keeps _ p v).mono (by decide)
  | cue _ d => exact (setDeliverer_keeps _ d).mono (by decide)
  | silent => exact (silentFrame_keeps _).mono (by decide)
  | conceal _ d => exact (setDeliverer_keeps _ d).mono (by decide)
  | deliver _ d => exact (setDeliverer_keeps _ d).mono (by decide)
  | mask _ m => exact (setDeliverer_keeps _ _).mono (by decide)
  | link _ l => exact (setLink_keeps _ l).mono (by decide)
  | changeLink _ new => exact (changeLink_keeps new _).mono (by decide)
  | clock _ c => exact (setClock_keeps _ c).mono (by decide)
  | endTrimPeriod => exact (endTrimPeriod_keeps _).mono (by decide)
  | push _ r => exact (beginPush_keeps r _).mono (by decide)
  | pull _ r stamp => exact (setDesk_keeps _ _).mono (by decide)
  | inFlightTimeout => exact (inFlightTimeout_keeps _).mono (by decide)
  | edit _ r requested => exact (editRecord_keeps r requested _).mono (by decide)
  | replay => exact (markReplay_keeps _).mono (by decide)
  | acknowledge _ r v => exact (acknowledge_keeps r v _).mono (by decide)
  | adopt _ r contents => exact (adoptReport_keeps r contents _).mono (by decide)
  | writeEntry _ i _ state result clamped kind tag => exact (writeEntry_keeps i state result clamped kind tag _).mono (by decide)
  | accept _ i a => exact (setAccepted_keeps i _ _).mono (by decide)
  | drop _ i => exact (setAccepted_keeps i none _).mono (by decide)
  | receivePush _ r v contents => exact (receivePush_keeps r v contents _).mono (by decide)
  | scanner _ c => exact (setScanner_keeps _ c).mono (by decide)

/-- A run of operations. -/
def Acts (s t : State) : Prop := Relation.ReflTransGen (fun x y => ∃ T, Act T x y) s t

theorem Acts.refl (s : State) : Acts s s := Relation.ReflTransGen.refl

theorem Acts.one {T : List Part} {s t : State} (h : Act T s t) : Acts s t := Relation.ReflTransGen.single ⟨T, h⟩

theorem Acts.trans {s t u : State} (h : Acts s t) (g : Acts t u) : Acts s u := Relation.ReflTransGen.trans h g

/-- Runs compose, the later one first. -/
theorem Acts.after {s t u : State} (g : Acts t u) (h : Acts s t) : Acts s u := h.trans g

theorem Acts.aside {s t : State} (h : Beside [] s t) : Acts s t := .one (.aside h)

theorem Acts.of_keeps {U : List Part} {s t : State} (h : Keeps U s t)
    (hU : U ⊆ [] ++ asideParts ∧ .regs ∉ U ∧ .ring ∉ U) : Acts s t :=
  .aside (Beside.of_keeps h hU)

/-- A preorder that every operation moves along is followed by a run of them. -/
theorem Acts.relates {R : State → State → Prop} (hrefl : ∀ s, R s s)
    (htrans : ∀ s t u, R s t → R t u → R s u) (hR : ∀ T s t, Act T s t → R s t) {s t : State} (h : Acts s t) :
    R s t := by
  induction h with
  | refl => exact hrefl s
  | tail _ hact ih =>
    obtain ⟨T, hact⟩ := hact
    exact htrans _ _ _ ih (hR _ _ _ hact)

/-- A list of steps, each a run of operations, is one. -/
theorem Acts.forEach {α : Type} {f : α → State → State} {l : List α} (h : ∀ a ∈ l, ∀ s, Acts s (f a s)) (s : State) :
    Acts s (forEach f l s) := by
  induction l generalizing s with
  | nil => exact .refl s
  | cons a l ih =>
    exact (h a List.mem_cons_self s).trans (ih (fun b hb => h b (List.mem_cons_of_mem a hb)) (f a s))

end Sys2Proof.Machine
end


section
/-! Every command as a run of operations: block by block, in the order of the model's files, up to `step_invariant`,
by which an invariant of the operations is one of every step. -/

namespace Sys2Proof.Machine

/-! ## Channels, talk, meters and the lists -/

theorem gateClosedReaction_acts {n : Nat} (hn : n < 96) (s : State) : Acts s (gateClosedReaction n s) := by
  unfold gateClosedReaction
  split
  · exact .one (.gateClosed s n hn)
  · exact .refl _

theorem phantomExpiry_acts (n : Nat) (s : State) : Acts s (phantomExpiry n s) := by
  unfold phantomExpiry
  split
  · exact .one (.phantomTimeout s n)
  · exact .refl _

theorem stepperExpiry_acts (s : State) : Acts s (stepperExpiry s) := by
  unfold stepperExpiry
  split
  · exact (Acts.of_keeps (setStepperDue_keeps s false) (by decide)).trans
      (Acts.forEach (fun n hn t => .one (.stepChannel t n (List.mem_range.1 hn))) _)
  · exact .refl _

theorem carriedOk_of_same {s t : State} (h : t.arbiter = s.arbiter) (hs : CarriedOk s) : CarriedOk t := by
  unfold CarriedOk at *
  rw [h]
  exact hs

theorem decideCarried_carriedOk (s : State) : CarriedOk (decideCarried s) := by
  have hset : CarriedOk (s.setArbiter { s.arbiter with carried := carriedOf s.arbiter.a s.arbiter.b }) := rfl
  have htold : ∀ (type : EventType) (t : State), CarriedOk t → CarriedOk (setNotice .talk (writeEvent type 1 0 t)) :=
    fun type t ht => carriedOk_of_same
      (((setNotice_keeps _ _).part .arbiter (by decide)).trans ((writeEvent_keeps type 1 0 t).part .arbiter (by decide))) ht
  unfold decideCarried
  dsimp only
  split
  · exact htold _ _ hset
  · exact htold _ _ hset
  · exact hset

/-- A decision of the carried source after a step of the arbiter. -/
theorem decideCarried_acts {s t : State} (h : Beside [.arbiter] s t) : Acts s (decideCarried t) :=
  .one (.arbiter (h.trans (Beside.decideCarried t)) (decideCarried_carriedOk t))

theorem timeoutTalk_acts (src : TalkSource) (cause : Word) (s : State) : Acts s (timeoutTalk src cause s) :=
  decideCarried_acts ((Beside.setTalkRecord ..).trans
    (((Beside.writeEvent ..).trans (Beside.setNotice ..)).mono (by decide)))

theorem pressTalk_acts (src : TalkSource) (latched : Bool) (mask : Half) (limit : Byte) (s : State) :
    Acts s (pressTalk src latched mask limit s) :=
  decideCarried_acts (Beside.setTalkRecord ..)

theorem releaseTalk_acts (src : TalkSource) (s : State) : Acts s (releaseTalk src s) := by
  unfold releaseTalk
  split
  · exact decideCarried_acts (Beside.setTalkRecord ..)
  · exact decideCarried_acts (Beside.refl _ s)

theorem renewExpiry_acts (src : TalkSource) (s : State) : Acts s (renewExpiry src s) := by
  unfold renewExpiry
  split
  · exact timeoutTalk_acts src 1 s
  · exact .refl _

theorem limitExpiry_acts (src : TalkSource) (s : State) : Acts s (limitExpiry src s) := by
  unfold limitExpiry
  split
  · exact timeoutTalk_acts src 2 s
  · exact .refl _

theorem completeEntry_acts {i : Nat} (hi : i < 32) (a : Accepted) (state : EntryState) (result : EntryResult)
    (s : State) : Acts s (completeEntry i a state result s) :=
  (Acts.one (.writeEntry s i hi state result a.clamped a.kind a.tag)).trans
    ((Acts.one (.drop _ i)).trans (.aside (Beside.setNotice ..)))

theorem deadlineExpiry_acts {i : Nat} (hi : i < 32) (s : State) : Acts s (deadlineExpiry i s) := by
  unfold deadlineExpiry
  split
  · split
    · exact completeEntry_acts hi _ .held .held s
    · exact .refl _
  · exact .refl _

theorem pullTimeout_acts (r : Nat) (s : State) : Acts s (pullTimeout r s) := by
  unfold pullTimeout
  split
  · exact .one (.pull s r none)
  · exact .refl _

/-! ## The board -/

theorem finishEntry_acts {i : Nat} (hi : i < 32) (state : EntryState) (result : EntryResult) (w0 : Word) (s : State) :
    Acts s (finishEntry i state result w0 s) :=
  (Acts.one (.writeEntry s i hi state result false _ _)).trans (.aside (Beside.setNotice ..))

/-- The shadow table after an edit; the rest of the state is the lists'. -/
theorem editRecord_dirty (r : Nat) (requested : List Byte) (s : State) :
    isDirty (editRecord r requested s).desk r = true := by
  simp only [editRecord, isDirty, appendDirty, State.setDesk_desk, List.contains_iff_mem]
  split
  case isTrue h => exact h
  case isFalse => simp

theorem acceptEdit_acts {i r : Nat} (hi : i < 32) (hr : r < recordCount) (requested : List Byte) (s : State) :
    Acts s (acceptEdit i r requested s) :=
  (Acts.one (.edit s r requested hr)).trans
    ((Acts.one (.writeEntry _ i hi .accepted .none _ _ _)).trans
      (.one (.accept _ i _ hr (by
        rw [(writeEntry_keeps _ _ _ _ _ _ _).part .desk (by decide)]
        exact editRecord_dirty r requested s))))

/-- A valid request for a record names one that exists (R166). -/
theorem record_lt_of_judgeEntry {s : State} {i : Nat} :
    (∀ r contents, judgeEntry s i = .valid (.setRecord r contents) → r < recordCount) ∧
      ∀ r index value, judgeEntry s i = .valid (.setField r index value) → r < recordCount := by
  unfold judgeEntry
  dsimp only
  constructor <;> intros <;> (repeat' split at *) <;> simp_all

theorem carryOut_acts {i : Nat} (hi : i < 32) {r : Request} {s : State} (h : judgeEntry s i = .valid r) :
    Acts s (carryOut i r s) := by
  cases r with
  | setRecord record contents => exact acceptEdit_acts hi (record_lt_of_judgeEntry.1 _ _ h) contents s
  | setField record index value => exact acceptEdit_acts hi (record_lt_of_judgeEntry.2 _ _ _ h) _ s
  | talkPress src latched mask limit => exact (pressTalk_acts src latched mask limit s).trans (finishEntry_acts hi ..)
  | talkRelease src => exact (releaseTalk_acts src s).trans (finishEntry_acts hi ..)
  | replayAll => exact (Acts.one (.replay s)).trans (finishEntry_acts hi ..)

theorem takeEntry_acts {i : Nat} (hi : i < 32) (s : State) : Acts s (takeEntry i s) := by
  unfold takeEntry
  split
  · split
    · exact finishEntry_acts hi ..
    · rename_i hr
      exact carryOut_acts hi hr
  · exact .refl _

theorem countScan_acts (s : State) : Acts s (countScan s) := by
  unfold countScan
  split_ifs
  · exact .one (.scanner s _ rfl)
  · exact .one (.scanner s _ rfl)
  · exact .refl _

theorem lt_of_mem_entriesTo {s : State} {stop i : Nat} (h : i ∈ entriesTo s stop) : i < stop := by
  unfold entriesTo at h
  split at h
  · have := List.mem_range'_1.1 h
    omega
  · exact absurd h List.not_mem_nil

theorem scanTo_acts {stop : Nat} (hstop : stop ≤ 32) (next : Option Nat) (s : State) : Acts s (scanTo stop next s) :=
  (Acts.forEach (fun _ hi t => takeEntry_acts (Nat.lt_of_lt_of_le (lt_of_mem_entriesTo hi) hstop) t) s).trans
    (.one (.scanner _ _ rfl))

theorem finishScan_acts (s : State) : Acts s (finishScan s) := by
  unfold finishScan
  split
  · exact scanTo_acts le_rfl none s
  · exact .refl _

theorem scanStep_acts {i : Nat} (hi : i < 32) (kind : RequestKind) (s : State) : Acts s (scanStep i kind s) := by
  unfold scanStep
  split
  · exact scanTo_acts hi (afterEntry i) s
  · exact .refl _

theorem readAt_acts (i k : Nat) (s : State) : Acts s (readAt i k s) := by
  unfold readAt
  split
  · exact .one (.scanner s _ rfl)
  · exact .one (.scanner s _ rfl)

theorem readFirst_acts {i : Nat} (hi : i ≤ 32) (k : Nat) (s : State) : Acts s (readFirst i k s) := by
  unfold readFirst
  split
  · split_ifs
    · exact readAt_acts i k s
    · exact (scanTo_acts hi (some i) s).trans (readAt_acts ..)
    · exact .refl _
  · exact .refl _

/-! ## The link -/

theorem bridgingExpiry_acts (s : State) : Acts s (bridgingExpiry s) := by
  unfold bridgingExpiry
  split
  case isTrue h => exact .one (.changeLink s _ (.expire h.1))
  case isFalse => exact .refl _

theorem linkActivated_acts (s : State) : Acts s (linkActivated s) := by
  refine (bridgingExpiry_acts s).trans ?_
  unfold linkActivated
  dsimp only
  split
  case h_1 h => exact .one (.changeLink _ _ (.connect (.inl h)))
  case h_2 h => exact .one (.changeLink _ _ (.connect (.inr h)))
  case h_3 h => exact .one (.changeLink _ _ (.resume h))
  all_goals exact .refl _

theorem linkDeactivated_acts (s : State) : Acts s (linkDeactivated s) := by
  unfold linkDeactivated
  split
  case h_1 h => exact .one (.changeLink _ _ (.bridge (.inl h)))
  case h_2 h => exact .one (.changeLink _ _ (.bridge (.inr h)))
  all_goals exact .refl _

theorem setFarFresh_acts (fresh : Bool) (s : State) : Acts s (setFarFresh fresh s) := by
  unfold setFarFresh
  split
  · exact .one (.link s _ rfl rfl)
  · exact .refl _

@[simp] theorem setFarFresh_link_state (fresh : Bool) (s : State) :
    (setFarFresh fresh s).link.state = s.link.state := by
  unfold setFarFresh
  split <;> rfl

theorem sameRole_acts (s : State) : Acts s (sameRole s) := by
  unfold sameRole
  split
  · exact .refl _
  · exact (Acts.aside (Beside.writeEvent ..)).after (.one (.link s _ rfl rfl))

theorem helloConnecting_acts {s : State} (h : s.link.state = .connecting) (heard fresh : Bool) :
    Acts s (helloConnecting heard fresh s) := by
  have hfirst : Acts s (setFarFresh fresh (s.setLink { s.link with heard := true })) :=
    (setFarFresh_acts ..).after (.one (.link s _ rfl rfl))
  unfold helloConnecting
  dsimp only
  split
  · refine hfirst.trans ((Acts.one (.changeLink _ _ (.complete ?_))).trans (.of_keeps (setSched_keeps _ _) (by decide)))
    simpa using h
  · exact hfirst

theorem helloLinked_acts {s : State} (h : s.link.state = .linked) (heard fresh : Bool) :
    Acts s (helloLinked heard fresh s) := by
  have hback : Acts s (setFarFresh fresh (changeLink .connecting s)) :=
    (Acts.one (.changeLink s _ (.reconnect h))).trans (setFarFresh_acts ..)
  unfold helloLinked
  split
  · split
    · exact .refl s
    · exact hback
  · dsimp only
    split
    · exact hback.trans (.aside (Beside.writeEvent ..))
    · exact hback

theorem receiveHello_acts (p : List Byte) (s : State) : Acts s (receiveHello p s) := by
  unfold receiveHello
  split
  case h_1 h =>
    split
    · exact sameRole_acts s
    · exact helloConnecting_acts h _ _
  case h_2 h =>
    split
    · exact sameRole_acts s
    · exact helloLinked_acts h _ _
  all_goals exact .refl _

/-! ## Messages -/

theorem receiveNote_acts (p : List Byte) (s : State) : Acts s (receiveNote p s) := by
  unfold receiveNote
  split
  · exact .aside (Beside.appendEvent ..)
  · exact .refl _

theorem receiveStatus_acts (p : List Byte) (s : State) : Acts s (receiveStatus p s) :=
  .of_keeps (receiveStatus_keeps p s) (by decide)

theorem receivePull_acts (r : Nat) (s : State) : Acts s (receivePull r s) := .of_keeps (receivePull_keeps r s) (by decide)

@[simp] theorem length_payloadContents (p : List Byte) : (payloadContents p).length = 16 := by simp [payloadContents]

theorem consume_acts (m : Msg) (s : State) : Acts s (consume m s) := by
  unfold consume
  cases m.type with
  | hello => exact receiveHello_acts ..
  | push => exact .one (.receivePush ..)
  | pull => exact receivePull_acts ..
  | ack => exact .one (.acknowledge ..)
  | report => exact .one (.adopt _ _ _ (length_payloadContents _))
  | note => exact receiveNote_acts ..
  | status => exact receiveStatus_acts ..
  | meter => exact .one (.writeMeters ..)

theorem consumeHead_acts (t : MsgType) (s : State) : Acts s (consumeHead t s) := by
  unfold consumeHead
  split
  · split
    · exact (Acts.of_keeps (setReceiver_keeps _ _) (by decide)).trans (consume_acts ..)
    · exact .refl _
  · exact .refl _

theorem consumeAll_acts (s : State) : Acts s (consumeAll s) :=
  (Acts.of_keeps (setReceiver_keeps _ _) (by decide)).trans (Acts.forEach (fun m _ t => consume_acts m t) _)

/-! ## Ports and path -/

theorem anchorCursor_acts (newest : Nat) (s : State) : Acts s (anchorCursor newest s) := .one (.cue s _ rfl rfl rfl)

theorem flushSwitchover_acts (s : State) : Acts s (flushSwitchover s) := by
  unfold flushSwitchover
  split
  · exact (Acts.aside (Beside.writeEvent ..)).after (.one (.cue s _ rfl rfl rfl))
  · exact .refl _

theorem setActive_acts (new : Option PortId) (s : State) : Acts s (setActive new s) := by
  have hfirst : Acts s (setChange .active (s.setSelector { active := new, cleanCount := 0 })) :=
    (Acts.of_keeps (setSelector_keeps _ _) (by decide)).trans (.aside (Beside.setChange ..))
  refine hfirst.trans ?_
  unfold setActive
  dsimp only
  split
  · exact (anchorCursor_acts ..).trans (linkActivated_acts _)
  · exact (flushSwitchover_acts _).trans
      ((Acts.of_keeps (setStatus_keeps _ _) (by decide)).after (.one (.cue _ _ rfl rfl rfl)))
  · exact (flushSwitchover_acts _).trans (linkDeactivated_acts _)
  · exact .refl _

theorem clearClean_acts (s : State) : Acts s (clearClean s) := .of_keeps (clearClean_keeps s) (by decide)

theorem selectorLeft_acts (p : PortId) (s : State) : Acts s (selectorLeft p s) := by
  unfold selectorLeft
  split
  · split_ifs
    · exact setActive_acts ..
    · exact setActive_acts ..
    · exact clearClean_acts s
  · exact .refl _

theorem selectorEntered_acts (p : PortId) (s : State) : Acts s (selectorEntered p s) := by
  unfold selectorEntered
  split
  · exact clearClean_acts s
  · exact setActive_acts ..

theorem portChanged_acts (p : PortId) (s : State) : Acts s (portChanged p s) := .aside (Beside.portChanged p s)

/-- A port is replaced by one with the same buffer. -/
theorem setPort_acts (s : State) (p : PortId) {v : Port} (h : v.buffer = (s.port p).buffer) :
    Acts s (s.setPort p v) := .one (.port s p v (h ▸ .same))

theorem losAsserted_acts (p : PortId) (s : State) : Acts s (losAsserted p s) := by
  unfold losAsserted
  dsimp only
  split
  · exact .one (.port s p _ .empty)
  · exact (Acts.one (.port s p _ .empty)).trans (portChanged_acts ..)
  · exact (Acts.one (.port s p _ .empty)).trans ((portChanged_acts ..).trans (selectorLeft_acts ..))

theorem losDeasserted_acts (p : PortId) (s : State) : Acts s (losDeasserted p s) := by
  unfold losDeasserted
  dsimp only
  split
  · exact (portChanged_acts ..).after (setPort_acts s p rfl)
  all_goals exact setPort_acts s p rfl

theorem lockPort_acts (p : PortId) (s : State) : Acts s (lockPort p s) :=
  (selectorEntered_acts ..).after ((portChanged_acts ..).after (setPort_acts s p rfl))

theorem unlockPort_acts (p : PortId) (s : State) : Acts s (unlockPort p s) :=
  (selectorLeft_acts ..).after ((portChanged_acts ..).after (setPort_acts s p rfl))

theorem fileFrame_buffer (f : RxFrame) (v : Port) : (fileFrame f v).buffer = v.buffer.set (f.tag % 8) (some f) := by
  unfold fileFrame
  dsimp only
  split <;> rfl

theorem adjustCursor_acts (newest : Nat) (s : State) : Acts s (adjustCursor newest s) := by
  unfold adjustCursor
  dsimp only
  split_ifs
  · exact .refl _
  · exact anchorCursor_acts newest s
  · exact .one (.cue s _ rfl rfl rfl)
  · exact anchorCursor_acts newest s

@[simp] theorem realign_trim (phase : Nat) (c : Clock) : (realign phase c).trim = c.trim := by
  unfold realign
  split_ifs <;> rfl

@[simp] theorem measurePeriod_trim (p : PortId) (tag phase : Nat) (c : Clock) :
    (measurePeriod p tag phase c).trim = c.trim := by
  unfold measurePeriod
  split
  · split <;> rfl
  · rfl

theorem clockArrival_acts (p : PortId) (tag phase : Nat) (s : State) : Acts s (clockArrival p tag phase s) := by
  unfold clockArrival
  split
  · refine .one (.clock s _ ?_)
    dsimp only
    split_ifs
    · exact realign_trim phase s.clock
    · exact measurePeriod_trim p tag phase s.clock
  · exact .refl _

theorem receiveFrame_acts (p : PortId) (bytes : List Byte) (phase : Nat) (s : State) :
    Acts s (receiveFrame p bytes phase s) := by
  unfold receiveFrame
  split
  · exact .refl _
  split
  · exact .refl _
  rename_i f hf
  dsimp only
  have hfile : Acts s (s.setPort p (fileFrame f (s.port p))) :=
    .one (.port s p _ (by rw [fileFrame_buffer]; exact .file _ bytes f hf))
  split
  · have htaken := hfile.trans ((adjustCursor_acts f.tag _).trans (clockArrival_acts p f.tag phase _))
    split
    · exact htaken.trans (lockPort_acts p _)
    · exact htaken
  · split
    · exact hfile.trans (lockPort_acts p _)
    · exact hfile

theorem failFrameTime_acts (p : PortId) (s : State) : Acts s (failFrameTime p s) := by
  unfold failFrameTime
  dsimp only
  split
  · exact (unlockPort_acts ..).after (setPort_acts s p rfl)
  · exact setPort_acts s p rfl

theorem judgePort_acts (p : PortId) (s : State) : Acts s (judgePort p s) := by
  unfold judgePort
  dsimp only
  split
  · exact setPort_acts s p rfl
  · exact setPort_acts s p rfl
  · split
    · exact setPort_acts s p rfl
    · exact failFrameTime_acts p s

theorem judgePorts_acts (s : State) : Acts s (judgePorts s) := (judgePort_acts .a s).trans (judgePort_acts .b _)

theorem judgeUnlock_acts (p : PortId) (s : State) : Acts s (judgeUnlock p s) := by
  unfold judgeUnlock
  dsimp only
  split
  · exact failFrameTime_acts p s
  · exact .refl _

theorem closeSuperframe_acts (p : PortId) (s : State) : Acts s (closeSuperframe p s) := by
  unfold closeSuperframe
  dsimp only
  split
  · split
    · exact setPort_acts s p rfl
    · exact (portChanged_acts ..).after (setPort_acts s p rfl)
  all_goals exact .refl _

theorem markLocked_acts (p : PortId) (s : State) : Acts s (markLocked p s) := setPort_acts s p rfl

theorem marginalSwitch_acts (s : State) : Acts s (marginalSwitch s) := by
  unfold marginalSwitch
  split
  · split
    · exact setActive_acts ..
    · exact .refl _
  · exact .refl _

theorem closePorts_acts (s : State) : Acts s (closePorts s) :=
  (closeSuperframe_acts .a s).trans ((closeSuperframe_acts .b _).trans
    ((Acts.of_keeps (updateClean_keeps _) (by decide)).trans ((markLocked_acts .a _).trans
      ((markLocked_acts .b _).trans (marginalSwitch_acts _)))))

/-! ## What the far end brings, and the control bytes -/

theorem deliverHeader_acts (header : Half) (s : State) : Acts s (deliverHeader header s) := by
  unfold deliverHeader
  split
  case h_1 hrole =>
    split
    case isTrue h => exact .one (.mask s header hrole h)
    case isFalse => exact .refl _
  case h_2 => exact (Acts.of_keeps (setStatus_keeps _ _) (by decide)).trans (.aside (Beside.compareStageTalk ..))

theorem flushSwitchover_deliverer (s : State) :
    (flushSwitchover s).deliverer = { s.deliverer with switchover := none } := by
  unfold flushSwitchover
  split
  case h_1 => exact (writeEvent_keeps _ _ _ _).part .deliverer (by decide)
  case h_2 h => rw [← h]

/-- A frame present at a port's cursor is delivered where the link is not silent. -/
theorem deliverFrame_acts {p : PortId} {tag : Nat} {f : RxFrame} {s : State} (h : isSilent s.link.state = false)
    (hf : presentFrame (s.port p) tag = some f) : Acts s (deliverFrame f s) := by
  have hlink : (flushSwitchover s).link = s.link := (flushSwitchover_keeps s).part .link (by decide)
  have hport : (flushSwitchover s).port p = s.port p := by
    cases p
    · exact (flushSwitchover_keeps s).part .portA (by decide)
    · exact (flushSwitchover_keeps s).part .portB (by decide)
  refine (Acts.of_keeps (receiveBytes_keeps _ _) (by decide)).after ((deliverHeader_acts ..).after
    ((Acts.one (.deliver _ _ p tag f ?_ ?_ ?_ ?_ ?_)).after (flushSwitchover_acts s)))
  · rw [hlink, h]
  · rw [hport, hf]
  · rfl
  · simp
  · simp only [startRejoin]
    split <;> rfl

theorem concealFrame_acts {s : State} (h : isSilent s.link.state = false) : Acts s (concealFrame s) := by
  refine (Acts.of_keeps (dropHeld_keeps _) (by decide)).after ((Acts.of_keeps (setStatus_keeps _ _) (by decide)).after
    (.one (.conceal s _ h rfl ?_ rfl)))
  dsimp only
  split <;> simp

theorem passCursor_acts (s : State) : Acts s (passCursor s) := by
  unfold passCursor
  dsimp only
  split <;> exact .one (.cue s _ rfl rfl rfl)

theorem farFrame_acts (s : State) : Acts s (farFrame s) := by
  unfold farFrame
  split
  · exact .one (.silent s)
  rename_i h
  rw [Bool.not_eq_true] at h
  split
  · split
    · rename_i p _ f hf
      split at hf
      · exact deliverFrame_acts h hf
      · exact absurd hf (by simp)
    · refine (passCursor_acts s).trans (concealFrame_acts ?_)
      rw [(passCursor_keeps s).part .link (by decide)]
      exact h
  · exact concealFrame_acts h

theorem beginHello_acts (s : State) : Acts s (beginHello s) := by
  let sent := send .hello (helloPayload s) s
  have hsent : Acts s sent := .of_keeps (send_keeps _ _ _) (by decide)
  refine hsent.trans ((Acts.of_keeps (setSched_keeps sent { sent.sched with helloDue := false }) (by decide)).trans ?_)
  exact .one (.link _ { s.link with helloAge := 0 } rfl rfl)

theorem beginMeter_acts (s : State) : Acts s (beginMeter s) :=
  (Acts.of_keeps (setSched_keeps _ _) (by decide)).after (.one (.takeMeters s))

theorem beginPullMessage_acts (r : Nat) (s : State) : Acts s (beginPullMessage r s) :=
  (Acts.one (.pull ..)).after (.of_keeps (send_keeps _ _ _) (by decide))

/-- What the desk's scheduler needs for a PUSH (R109, R140). -/
theorem pickDesk_push {s : State} {r : Nat} (h : pickDesk s = some (.push r)) :
    s.link.state = .linked ∧ s.desk.inFlight.length < 8 ∧ pushCandidate s.desk = some r := by
  unfold pickDesk at h
  split at h
  · exact absurd h (by simp)
  split at h
  case isFalse => exact absurd h (by simp)
  case isTrue hlink =>
    split at h
    · exact absurd h (by simp)
    · obtain ⟨r', hr', heq⟩ := Option.map_eq_some_iff.1 h
      cases heq
      split at hr'
      case isTrue hcount => exact ⟨hlink, hcount, hr'⟩
      case isFalse => exact absurd hr' (by simp)

theorem pickStage_ne_push {s : State} {r : Nat} : pickStage s ≠ some (.push r) := by
  unfold pickStage
  split_ifs <;> simp

theorem beginPushMessage_acts {s : State} {r : Nat} (h : pick s = some (.push r)) :
    Acts s (beginPushMessage r s) := by
  have hdesk : s.role = .desk ∧ pickDesk s = some (.push r) := by
    unfold pick at h
    cases hrole : s.role <;> rw [hrole] at h
    · exact ⟨rfl, h⟩
    · exact absurd h pickStage_ne_push
  obtain ⟨hlink, hcount, hr⟩ := pickDesk_push hdesk.2
  have hsent : Acts s (send .push (pushPayload s r) s) := .of_keeps (send_keeps _ _ _) (by decide)
  exact (Acts.one (.push (send .push (pushPayload s r) s) r hdesk.1 hlink hcount hr)).after hsent

theorem beginPick_acts {s : State} {k : Pick} (h : pick s = some k) : Acts s (beginPick k s) := by
  cases k with
  | hello => exact beginHello_acts s
  | reply => exact .of_keeps (beginReply_keeps s) (by decide)
  | note => exact .of_keeps (beginNote_keeps s) (by decide)
  | status => exact .of_keeps (beginStatus_keeps s) (by decide)
  | meter => exact beginMeter_acts s
  | pull r => exact beginPullMessage_acts r s
  | push r => exact beginPushMessage_acts h

theorem pickNow_acts (s : State) : Acts s (pickNow s) := by
  unfold pickNow
  split
  case h_1 h => exact beginPick_acts h
  case h_2 => exact .refl _

theorem handByte_acts (s : State) : Acts s (handByte s).1 := by
  refine (pickNow_acts s).trans ?_
  unfold handByte
  dsimp only
  split
  · exact .of_keeps (setSched_keeps _ _) (by decide)
  · exact .refl _

theorem handBytes_acts (n : Nat) (s : State) : Acts s (handBytes n s).1 := by
  induction n generalizing s with
  | zero => exact .refl _
  | succ n ih => exact (handByte_acts s).trans (ih _)

/-! ## What is due, and the boundary -/

theorem settleStage_acts (s : State) : Acts s (settleStage s) := by
  unfold settleStage
  dsimp only
  refine (Acts.forEach (fun n hn t => gateClosedReaction_acts (List.mem_range.1 hn) t) s).trans ?_
  refine (Acts.one (.endTrimPeriod _)).trans ((stepperExpiry_acts _).trans ?_)
  exact (Acts.forEach (fun n _ t => phantomExpiry_acts n t) _).trans (.one (.startTransfer _))

theorem settleDesk_acts (s : State) : Acts s (settleDesk s) :=
  (renewExpiry_acts .a s).trans ((renewExpiry_acts .b _).trans ((limitExpiry_acts .a _).trans
    ((limitExpiry_acts .b _).trans ((Acts.forEach (fun _ _ t => .one (.inFlightTimeout t)) _).trans
      ((Acts.forEach (fun r _ t => pullTimeout_acts r t) _).trans
        (Acts.forEach (fun _ hi t => deadlineExpiry_acts (List.mem_range.1 hi) t) _))))))

theorem settle_acts (s : State) : Acts s (settle s) := by
  refine (consumeAll_acts s).trans ((bridgingExpiry_acts _).trans ?_)
  unfold settle
  dsimp only
  split
  · exact settleDesk_acts _
  · exact settleStage_acts _

theorem advanceSuperframe_acts (s : State) : Acts s (advanceSuperframe s) :=
  (Acts.of_keeps (setSuperframe_keeps _ _) (by decide)).trans (.one (.indexZero _))

theorem boundaryHello_acts (s : State) : Acts s (boundaryHello s) := by
  unfold boundaryHello
  dsimp only
  split
  · exact (Acts.of_keeps (setSched_keeps _ _) (by decide)).after (.one (.link s _ rfl rfl))
  · exact .one (.link s _ rfl rfl)

theorem boundaryStage_acts (pinLow : Bool) (s : State) : Acts s (boundaryStage pinLow s) :=
  (Acts.of_keeps (boundaryScheduler_keeps s) (by decide)).trans ((Acts.one (.countIsland _)).trans
    ((Acts.one (.engageIsland _)).trans ((Acts.aside (Beside.sampleButton ..)).trans
      ((Acts.of_keeps (boundaryStepper_keeps _) (by decide)).trans (.of_keeps (refreshStatus_keeps _) (by decide))))))

theorem boundary_acts (pinLow : Bool) (s : State) : Acts s (boundary pinLow s) := by
  refine (advanceSuperframe_acts s).trans ((closePorts_acts _).trans ((boundaryHello_acts _).trans ?_))
  unfold boundary
  dsimp only
  split
  · exact countScan_acts _
  · exact boundaryStage_acts pinLow _

theorem endSuperframe_acts (s : State) : Acts s (endSuperframe s) :=
  (settle_acts s).trans ((finishScan_acts _).trans (judgePorts_acts _))

theorem superframeStep_acts (pinLow : Bool) (s : State) : Acts s (superframeStep pinLow s) :=
  (endSuperframe_acts s).trans (boundary_acts pinLow _)

theorem beforeFrame_acts (s : State) : Acts s (beforeFrame s) := by
  unfold beforeFrame
  split
  · exact (superframeStep_acts _ s).trans (settle_acts _)
  · exact settle_acts s

theorem superframeStep_frameIndex (pinLow : Bool) (s : State) : (superframeStep pinLow s).frameIndex = 0 := by
  have hclose := (boundaryHello_keeps (closePorts (advanceSuperframe (endSuperframe s)))).part .frameIndex (by decide)
  have hadvance := (closePorts_keeps (advanceSuperframe (endSuperframe s))).part .frameIndex (by decide)
  unfold superframeStep boundary
  dsimp only
  split
  · exact ((countScan_keeps _).part .frameIndex (by decide)).trans (hclose.trans hadvance)
  · exact ((boundaryStage_keeps pinLow _).part .frameIndex (by decide)).trans (hclose.trans hadvance)

/-- What comes before a frame leaves its superframe open (R92). -/
theorem beforeFrame_frameIndex_lt (s : State) : (beforeFrame s).frameIndex < 48 := by
  unfold beforeFrame boundaryDue
  split
  case isTrue =>
    rw [(settle_keeps _).part .frameIndex (by decide), superframeStep_frameIndex]
    decide
  case isFalse h =>
    rw [(settle_keeps s).part .frameIndex (by decide)]
    simpa using h

/-! ## The frame -/

/-- The audio of a stage frame: the input chain on its channels, then the mixes. -/
def stageLanes (slots : List Sample) (s : State) : State :=
  mixFrame (postGateSamples slots s) (s.setChannels (chainedChannels slots s))

theorem stageLanes_keeps (slots : List Sample) (s : State) :
    Keeps [.channels, .mixes, .output] s (stageLanes slots s) :=
  ((setChannels_keeps s _).mono (by decide)).next (mixFrame_keeps _ _) (by decide)

/-- A step of the machine's state: an operation of the part's blocks, a host access, or
(where `audio` admits it) the audio of a stage frame. -/
inductive StateStep (audio : Bool) : List Part → State → State → Prop where
  | act {T : List Part} {s t : State} (h : Act T s t) : StateStep audio T s t
  | lanes (s : State) (slots : List Sample) (h : audio = true) :
      StateStep audio [.channels, .mixes] s (stageLanes slots s)
  | registers (s : State) (r : Regs) : StateStep audio [] s (s.setRegs r)
  | hold (s : State) : StateStep audio [.meters] s (releaseHold s)
  | board (s : State) (offset : Nat) (value : Word) (h : offset + 4 ≤ 0x400) :
      StateStep audio [.board] s (s.setBoard (s.board.writeWord offset value))

theorem StateStep.keeps {audio : Bool} {T : List Part} {s t : State} (h : StateStep audio T s t) : Keeps (T ++ asideParts) s t := by
  cases h with
  | act h => exact h.keeps
  | lanes _ slots _ => exact (stageLanes_keeps slots _).mono (by decide)
  | registers _ r => exact (setRegs_keeps _ r).mono (by decide)
  | hold => exact (releaseHold_keeps _).mono (by decide)
  | board => exact (setBoard_keeps _ _).mono (by decide)

/-- A run of them. -/
def StateSteps (audio : Bool) (s t : State) : Prop := Relation.ReflTransGen (fun x y => ∃ T, StateStep audio T x y) s t

theorem StateSteps.refl {audio : Bool} (s : State) : StateSteps audio s s := Relation.ReflTransGen.refl

theorem StateSteps.one {audio : Bool} {T : List Part} {s t : State} (h : StateStep audio T s t) : StateSteps audio s t :=
  Relation.ReflTransGen.single ⟨T, h⟩

theorem StateSteps.trans {audio : Bool} {s t u : State} (h : StateSteps audio s t) (g : StateSteps audio t u) :
    StateSteps audio s u :=
  Relation.ReflTransGen.trans h g

/-- A preorder that every step moves along is followed by a run of them. -/
theorem StateSteps.relates {audio : Bool} {R : State → State → Prop} (hrefl : ∀ s, R s s)
    (htrans : ∀ s t u, R s t → R t u → R s u) (hR : ∀ T s t, StateStep audio T s t → R s t) {s t : State}
    (h : StateSteps audio s t) : R s t := by
  induction h with
  | refl => exact hrefl s
  | tail _ hstep ih =>
    obtain ⟨T, hstep⟩ := hstep
    exact htrans _ _ _ ih (hR _ _ _ hstep)

theorem Acts.steps {audio : Bool} {s t : State} (h : Acts s t) : StateSteps audio s t := by
  exact h.relates .refl (fun _ _ _ => .trans) fun _ _ _ hact => .one (.act hact)

theorem clockFrame_trim (c : Clock) : (clockFrame c).trim = c.trim := by
  unfold clockFrame
  dsimp only
  cases c.state with
  | free => rfl
  | locked =>
    dsimp only
    split_ifs <;> rfl
  | holdover => rfl

theorem clockStep_acts (s : State) : Acts s (clockStep s) := by
  unfold clockStep
  split
  · exact .refl _
  · exact .one (.clock s _ (clockFrame_trim s.clock))

theorem stageAudio_steps (slots : List Sample) (s : State) : StateSteps true s (stageAudio slots s) :=
  (StateSteps.one (.lanes s slots rfl)).trans
    ((handBytes_acts 4 _).trans (.of_keeps (setOutput_keeps _ _) (by decide))).steps

theorem deskAudio_acts (slots : List Sample) (s : State) : Acts s (deskAudio slots s) :=
  (Acts.of_keeps (setOutput_keeps _ _) (by decide)).trans ((handBytes_acts 4 _).trans (.of_keeps (setOutput_keeps _ _) (by decide)))

theorem audioStep_steps (slots : List Sample) (s : State) : StateSteps true s (audioStep slots s) := by
  unfold audioStep
  split
  · exact (deskAudio_acts slots s).steps
  · exact stageAudio_steps slots s

theorem countBridging_acts (s : State) : Acts s (countBridging s) := by
  unfold countBridging
  split
  · exact .one (.link s _ rfl rfl)
  · exact .refl _

theorem frameBlocks_steps (slots : List Sample) {s : State} (h : s.frameIndex < 48) :
    StateSteps true s (frameBlocks slots s) := by
  refine ((clockStep_acts s).trans (farFrame_acts _)).steps.trans ((audioStep_steps slots _).trans
    ((countBridging_acts _).trans (.one (.indexNext _ ?_))).steps)
  rw [(countBridging_keeps _).part .frameIndex (by decide), (audioStep_keeps slots _).part .frameIndex (by decide),
    (farFrame_keeps _).part .frameIndex (by decide), (clockStep_keeps s).part .frameIndex (by decide)]
  exact h

theorem frameStep_steps (slots : List Sample) {s : State} (h : s.frameIndex < 48) :
    StateSteps true s (frameStep slots s) := by
  unfold frameStep
  split
  · exact frameBlocks_steps slots h
  · exact (frameBlocks_steps slots h).trans (judgePorts_acts _).steps

/-! ## The host -/

theorem registers_steps {audio : Bool} {s t : State} (h : t = s.setRegs t.regs) : StateSteps audio s t := h ▸ .one (.registers s _)

theorem refuseWrite_steps {audio : Bool} (s : State) : StateSteps audio s (refuseWrite s) := registers_steps rfl

theorem ctrlEffects_steps {audio : Bool} (old : Ctrl) (s : State) : StateSteps audio s (ctrlEffects old s) := by
  have hrun : StateSteps audio s (runChange old s) := by
    unfold runChange
    split
    · exact .one (.act (.scanner s _ rfl))
    · exact .refl _
  unfold ctrlEffects
  split
  · refine hrun.trans ?_
    unfold holdChange
    split
    · exact .one (.hold _)
    · exact .refl _
  · exact .refl _

/-- A reset leaves the state of a role; the commands that wait outside still wait (R177, R182). -/
def ResetTo (role : Role) (s t : State) : Prop := ∃ losA losB pinLow, t = .initial role losA losB pinLow s.pending

theorem writeCtrl_of_reset {w : Word} (h : ctrlReset w = true) (s : State) :
    writeCtrl .word w s = .initial s.role s.portA.los s.portB.los s.button.pinLow s.pending := by
  rw [writeCtrl, if_pos rfl, storeCtrl, if_pos h]
  rfl

theorem writeCtrl_of_not_reset {w : Word} (h : ctrlReset w = false) (s : State) :
    writeCtrl .word w s = ctrlEffects s.regs.ctrl (s.setRegs { s.regs with ctrl := ctrlOfWord w }) := by
  rw [writeCtrl, if_pos rfl, storeCtrl, if_neg (by simp [h])]

theorem writeCtrl_of_narrow {width : Width} (h : width ≠ .word) (w : Word) (s : State) :
    writeCtrl width w s = refuseWrite s := if_neg h

theorem writeCtrl_steps {audio : Bool} (width : Width) {w : Word} (h : ctrlReset w = false) (s : State) :
    StateSteps audio s (writeCtrl width w s) := by
  by_cases hwidth : width = .word
  · rw [hwidth, writeCtrl_of_not_reset h]
    exact (StateSteps.one (.registers s _)).trans (ctrlEffects_steps ..)
  · rw [writeCtrl_of_narrow hwidth]
    exact refuseWrite_steps s

/-- Bit `j` of a word with bit `k` forced. -/
theorem getLsbD_forceBit (k j : Nat) (b : Bool) (w : Word) (hk : k < 32) (hj : j < 32) :
    (forceBit k b w).getLsbD j = if j = k then b else w.getLsbD j := by
  unfold forceBit
  have hbit : (1#32 <<< k).getLsbD j = decide (j = k) := by
    rw [Bool.eq_iff_iff]
    simp only [BitVec.getLsbD_shiftLeft, BitVec.getLsbD_one, Bool.and_eq_true, Bool.not_eq_true', decide_eq_true_eq,
      decide_eq_false_iff_not]
    omega
  cases b with
  | true => rw [if_pos rfl, BitVec.getLsbD_or, hbit]; by_cases hjk : j = k <;> simp [hjk]
  | false =>
    rw [if_neg Bool.false_ne_true, BitVec.getLsbD_and, BitVec.getLsbD_not, hbit]
    by_cases hjk : j = k <;> simp [hjk, hj]

theorem ctrlReset_forceBit_ne {k : Nat} (hk : k < 32) (hne : k ≠ 7) (b : Bool) (w : Word) :
    ctrlReset (forceBit k b w) = ctrlReset w := by
  rw [ctrlReset, getLsbD_forceBit k 7 b w hk (by decide), if_neg hne.symm]
  rfl

@[simp] theorem ctrlReset_noReset (w : Word) : ctrlReset (noReset w) = false :=
  getLsbD_forceBit 7 7 false w (by decide) (by decide)

theorem writeWindow_steps {audio : Bool} (offset : Nat) (width : Width) (value : Word) (afterRead : Bool) (s : State) :
    StateSteps audio s (writeWindow offset width value afterRead s) := by
  unfold writeWindow
  split
  case isFalse => exact refuseWrite_steps s
  case isTrue h =>
    simp only [boardWritable, Bool.and_eq_true, decide_eq_true_eq] at h
    obtain ⟨⟨⟨-, haligned⟩, hregion⟩, -⟩ := h
    have hboard : offset + 4 ≤ 0x400 := by omega
    have hentry : offset / 32 ≤ 32 := by omega
    unfold storeBoard
    dsimp only
    split
    · exact (readFirst_acts hentry _ s).steps.trans (.one (.board _ offset value hboard))
    · exact .one (.board _ offset value hboard)

/-! ## Every command -/

/-- A command that runs the audio of a frame. -/
def runsAudio : Instr → Bool
  | .frame _ _ => true
  | _ => false

/-- A command resets the part, where POWER_ON alone samples the role, or runs operations of its blocks and host
accesses. -/
theorem exec_steps {c : Instr} {s t : State} (h : exec c s = .next t) :
    (∃ role, ResetTo role s t ∧
      ((∃ strap losA losB, c = .powerOn strap losA losB) ∨ role = s.role ∧ ∃ w, c = .softReset .word w)) ∨
      StateSteps (runsAudio c) s t := by
  cases c <;>
    first
    | obtain rfl := Host.Outcome.next.inj h
    | skip
  case powerOn strap losA losB => exact .inl ⟨_, ⟨_, _, _, rfl⟩, .inl ⟨_, _, _, rfl⟩⟩
  case softReset width w =>
    by_cases hwidth : width = .word
    case pos =>
      subst hwidth
      refine .inl ⟨s.role, ⟨_, _, _, writeCtrl_of_reset ?_ s⟩, .inr ⟨rfl, w, rfl⟩⟩
      exact getLsbD_forceBit 7 7 true w (by decide) (by decide)
    case neg => exact .inr (writeCtrl_of_narrow hwidth _ s ▸ refuseWrite_steps s)
  case runStart width w | runStop width w | meterHoldSet width w | meterHoldRelease width w =>
    exact .inr (writeCtrl_steps width
      ((ctrlReset_forceBit_ne (by decide) (by decide) _ _).trans (ctrlReset_noReset w)) s)
  case scanPeriod width w | meterCadence width w | policy width w =>
    exact .inr (writeCtrl_steps width (ctrlReset_noReset w) s)
  case noticeRead | linkstatRead => exact .inr (registers_steps rfl)
  case noticeWrite | noticeEnWrite =>
    right
    split
    · exact registers_steps rfl
    · exact refuseWrite_steps s
  case linkstatWrite => exact .inr (refuseWrite_steps s)
  case windowWrite => exact .inr (writeWindow_steps ..)
  case frame slots _ =>
    exact .inr ((beforeFrame_acts s).steps.trans (frameStep_steps slots (beforeFrame_frameIndex_lt s)))
  case superframeBoundary | islandEngage | debounceChange =>
    right
    split
    · exact (superframeStep_acts ..).steps
    · exact .refl _
  case boardScan => exact .inr (finishScan_acts s).steps
  case setRecord i | setField i | talkPress i | talkRelease i | replayAll i =>
    exact .inr (scanStep_acts i.isLt _ s).steps
  case talkRenewExpiry src => exact .inr (renewExpiry_acts src s).steps
  case talkLimitExpiry src => exact .inr (limitExpiry_acts src s).steps
  case deadlineExpiry i => exact .inr (deadlineExpiry_acts i.isLt s).steps
  case inFlightTimeout => exact .inr (Acts.one (.inFlightTimeout s)).steps
  case pullTimeout r => exact .inr (pullTimeout_acts r.val s).steps
  case gainStepperExpiry => exact .inr (stepperExpiry_acts s).steps
  case gateClosed n => exact .inr (gateClosedReaction_acts n.isLt s).steps
  case phantomTimerExpiry n => exact .inr (phantomExpiry_acts n.val s).steps
  case transferStart => exact .inr (Acts.one (.startTransfer s)).steps
  case transferComplete w => exact .inr (Acts.one (.completeTransfer s w)).steps
  case losAssert p => exact .inr (losAsserted_acts p s).steps
  case losDeassert p => exact .inr (losDeasserted_acts p s).steps
  case frameReceived p bytes phase => exact .inr (receiveFrame_acts p bytes phase s).steps
  case portLock p bytes phase =>
    right
    split
    · exact (receiveFrame_acts p bytes phase s).steps
    · exact .refl _
  case portUnlock p => exact .inr (judgeUnlock_acts p s).steps
  case bridgingExpiry => exact .inr (bridgingExpiry_acts s).steps
  case trimPeriodEnd => exact .inr (Acts.one (.endTrimPeriod s)).steps
  case helloBegin | replyBegin | noteBegin | statusBegin | meterTake =>
    right
    split
    case isTrue h =>
      simp only [mayBegin, Bool.and_eq_true, beq_iff_eq] at h
      exact (beginPick_acts h.2).steps
    case isFalse => exact .refl _
  case pushBegin | pullBegin =>
    right
    simp only [exec, execPushBegin, execPullBegin] at h
    split at h
    case h_1 hpick =>
      obtain rfl := Host.Outcome.next.inj h
      split
      · exact (beginPick_acts hpick).steps
      · exact .refl _
    case h_2 =>
      obtain rfl := Host.Outcome.next.inj h
      exact .refl _
  case helloReceived | pushReceived | pullReceived | ackReceived | reportReceived | noteReceived | statusReceived
      | meterReceived =>
    exact .inr (consumeHead_acts _ s).steps

/-- What a reset establishes, every operation keeps and the queue does not touch holds after every step. -/
theorem step_invariant {P : State → Prop}
    (hreset : ∀ role losA losB pinLow pending, P (.initial role losA losB pinLow pending))
    (hqueue : ∀ s rest, P s → P (s.setPending rest)) (hstep : ∀ audio T s t, StateStep audio T s t → P s → P t)
    {s t : State}
    (hs : P s) (h : step s = .next t) : P t := by
  unfold step at h
  split at h
  · obtain rfl := Host.Outcome.next.inj h
    exact hs
  next _ c rest hqueued =>
    rcases exec_steps h with ⟨role, ⟨losA, losB, pinLow, rfl⟩, -⟩ | hsteps
    · exact hreset ..
    · have hfirst := hqueue s rest hs
      clear h hs
      induction hsteps with
      | refl => exact hfirst
      | tail _ hone ih =>
        obtain ⟨T, hone⟩ := hone
        exact hstep _ _ _ _ hone ih

/-! ## The queue and the role -/

/-- Every part but the role and the queue of waiting commands. -/
abbrev runParts : List Part :=
  [.superframe, .frameIndex, .channels, .stepperDue, .preamp, .mixes, .island, .arbiter, .button, .talkSeen, .meters,
    .portA, .portB, .selector, .deliverer, .link, .clock, .sched, .receiver, .desk, .stage, .board, .scanner, .ring,
    .status, .regs, .output]

/-- No operation touches the role or the queue. -/
theorem Act.parts_subset {T : List Part} {s t : State} (h : Act T s t) : T ++ asideParts ⊆ runParts := by
  cases h <;> decide

theorem StateStep.parts_subset {audio : Bool} {T : List Part} {s t : State} (h : StateStep audio T s t) : T ++ asideParts ⊆ runParts := by
  cases h with
  | act h => exact h.parts_subset
  | _ => decide

theorem StateSteps.keeps {audio : Bool} {s t : State} (h : StateSteps audio s t) : Keeps runParts s t := by
  induction h with
  | refl => exact Keeps.refl _ s
  | tail _ hone ih =>
    obtain ⟨T, hone⟩ := hone
    exact ih.next hone.keeps hone.parts_subset

/-- Settles O2: a reset keeps the queue and, unless it is POWER_ON, the role; no operation touches either. -/
theorem queueAndRoleKept : Obligations.QueueAndRoleKept := by
  unfold Obligations.QueueAndRoleKept
  intro c s t h
  rcases exec_steps h with ⟨role, ⟨losA, losB, pinLow, rfl⟩, hreset⟩ | hsteps
  · exact ⟨rfl, fun hpower => hreset.elim (fun ⟨h, a, b, hc⟩ => absurd hc (hpower h a b)) And.left⟩
  · exact ⟨hsteps.keeps.part .pending (by decide), fun _ => hsteps.keeps.part .role (by decide)⟩

end Sys2Proof.Machine
end


section
/-! The invariants of the board's RAM, of the arbiter and of the input blocks (R17, R63, R160): each is shown for the
operations that touch its parts, and `step_invariant` carries it over every step. -/

namespace Sys2Proof.Machine

/-- An operation leaves every part that is neither among those it names nor beside the invariants. -/
theorem Act.part {T : List Part} {s t : State} (h : Act T s t) (p : Part) (hT : p ∉ T)
    (haside : p ∉ asideParts) : p.same s t :=
  h.keeps p fun hp => (List.mem_append.1 hp).elim hT haside

theorem StateStep.part {audio : Bool} {T : List Part} {s t : State} (h : StateStep audio T s t) (p : Part) (hT : p ∉ T)
    (haside : p ∉ asideParts) : p.same s t :=
  h.keeps p fun hp => (List.mem_append.1 hp).elim hT haside

/-! ## The board's RAM (R160, R161) -/

theorem boardOk_of_board {s t : State} (h : t.board = s.board) (hs : BoardOk s) : BoardOk t := by
  unfold BoardOk at *
  rwa [h]

theorem boardOk_writeEntry {i : Nat} (hi : i < 32) (state : EntryState) (result : EntryResult) (clamped : Bool)
    (kind : Byte) (tag : Half) {s : State} (h : BoardOk s) :
    BoardOk (writeEntry i state result clamped kind tag s) := by
  have haddress : ∀ k ≤ 7, entryAddress i k + 4 ≤ 0x400 := fun k hk => by
    unfold entryAddress
    omega
  exact Memory.boardOk_writeWord _ _ _ (Memory.boardOk_writeWord _ _ _ (Memory.boardOk_writeWord _ _ _ h
    (haddress 6 (by decide))) (haddress 7 (by decide))) (haddress 0 (by decide))

theorem boardOk_completeIfAgainst (r : Nat) {i : Nat} (hi : i < 32) {s : State} (h : BoardOk s) :
    BoardOk (completeIfAgainst r i s) := by
  unfold completeIfAgainst
  split
  · split
    · exact boardOk_of_board (((setNotice_keeps _ _).part .board (by decide)).trans ((setAccepted_keeps _ _ _).part .board (by decide)))
        (boardOk_writeEntry hi _ _ _ _ _ h)
    · exact h
  · exact h

/-- A list of steps keeps what each of its members keeps. -/
theorem forEach_preserves_of_mem {α : Type} {P : State → Prop} {f : α → State → State} {l : List α}
    (hf : ∀ a ∈ l, ∀ s, P s → P (f a s)) {s : State} (h : P s) : P (forEach f l s) := by
  induction l generalizing s with
  | nil => exact h
  | cons a l ih => exact ih (fun b hb => hf b (List.mem_cons_of_mem a hb)) (hf a List.mem_cons_self s h)

theorem boardOk_acknowledge (r : Nat) (v : Word) {s : State} (h : BoardOk s) : BoardOk (acknowledge r v s) := by
  unfold acknowledge
  split
  · dsimp only
    refine boardOk_of_board ((syncAfter_keeps _ _).part .board (by decide)) ?_
    split
    · exact forEach_preserves_of_mem (fun i hi t => boardOk_completeIfAgainst r (List.mem_range.1 hi)) h
    · exact h
  · exact h

theorem boardOk_step {audio : Bool} {T : List Part} {s t : State} (h : StateStep audio T s t) (hs : BoardOk s) : BoardOk t := by
  by_cases hT : Part.board ∈ T
  case neg => exact boardOk_of_board (h.part .board hT (by decide)) hs
  cases h with
  | act h =>
    cases h with
    | acknowledge _ r v => exact boardOk_acknowledge r v hs
    | writeEntry _ _ hi => exact boardOk_writeEntry hi _ _ _ _ _ hs
    | _ => exact absurd hT (by decide)
  | board _ offset value hoffset => exact Memory.boardOk_writeWord _ _ _ hs hoffset
  | _ => exact absurd hT (by decide)

theorem boardOk_initial (role : Role) (losA losB pinLow : Bool) (pending : List Instr) :
    BoardOk (.initial role losA losB pinLow pending) := ⟨rfl, fun _ hc => absurd hc List.not_mem_nil⟩

/-- Settles O4: the part writes whole words of entries, the host whole words of the board (`boardOk_step`). -/
theorem boardMemoryInvariant : Obligations.BoardMemoryInvariant := fun _ _ hs h =>
  step_invariant boardOk_initial (fun _ _ => id) (fun _ _ _ _ => boardOk_step) hs h

/-! ## The carried source (R63) -/

theorem carriedOk_step {audio : Bool} {T : List Part} {s t : State} (h : StateStep audio T s t) (hs : CarriedOk s) : CarriedOk t := by
  by_cases hT : Part.arbiter ∈ T
  case neg => exact carriedOk_of_same (h.part .arbiter hT (by decide)) hs
  cases h with
  | act h =>
    cases h with
    | arbiter _ hcarried => exact hcarried
    | _ => exact absurd hT (by decide)
  | _ => exact absurd hT (by decide)

/-- Settles O6: only the talk operations reach the arbiter, and each ends in a new decision. -/
theorem carriedSourceInvariant : Obligations.CarriedSourceInvariant := fun _ _ hs h =>
  step_invariant (fun _ _ _ _ _ => rfl) (fun _ _ => id) (fun _ _ _ _ => carriedOk_step) hs h

/-! ## The input blocks, one field at a time -/

/-- What the input blocks make of a gate: they keep it, give it one of the two targets, or shut it at once. -/
inductive GateStep (g : Ramp) : Ramp → Prop where
  | same : GateStep g g
  | target (v : Int) (h : v = 0 ∨ v = unity) : GateStep g (rampTarget v g)
  | shut : GateStep g (rampForce 0)

/-- One write of the input blocks. `ok` says which channels it may enqueue. -/
inductive ChannelStep (ok : Nat → Prop) : State → State → Prop where
  | same {s t : State} (hchannels : t.channels = s.channels) (hpreamp : t.preamp = s.preamp) : ChannelStep ok s t
  | channel (n : Nat) (c : Channel) (s : State) (hgate : GateStep (channelAt s n).gate c.gate)
      (hphantom : c.appliedPhantom = (channelAt s n).appliedPhantom ∨ c.gate.current = 0) :
      ChannelStep ok s (setChannel n c s)
  | enqueue (n : Nat) (s : State) (h : ok n) : ChannelStep ok s (enqueue n s)
  | start (n : Nat) (rest : List Nat) (word : Half) (prior : Sent) (s : State) (h : s.preamp.queue = n :: rest) :
      ChannelStep ok s (s.setPreamp { s.preamp with
        queue := rest, transfer := some { channel := n, word := word, prior := prior } })
  | idle (absent : List Bool) (s : State) (h : absent.length = s.preamp.absent.length) :
      ChannelStep ok s (s.setPreamp { s.preamp with transfer := none, absent := absent })
  | absent (absent : List Bool) (s : State) (h : absent.length = s.preamp.absent.length) :
      ChannelStep ok s (s.setPreamp { s.preamp with absent := absent })

/-- A run of such writes. -/
def ChannelSteps (ok : Nat → Prop) (s t : State) : Prop := Relation.ReflTransGen (ChannelStep ok) s t

variable {ok : Nat → Prop} {s t u : State}

theorem ChannelSteps.refl (s : State) : ChannelSteps ok s s := Relation.ReflTransGen.refl

theorem ChannelSteps.one (h : ChannelStep ok s t) : ChannelSteps ok s t := Relation.ReflTransGen.single h

theorem ChannelSteps.trans (h : ChannelSteps ok s t) (g : ChannelSteps ok t u) : ChannelSteps ok s u :=
  Relation.ReflTransGen.trans h g

/-- Runs compose, the later one first. -/
theorem ChannelSteps.after (g : ChannelSteps ok t u) (h : ChannelSteps ok s t) : ChannelSteps ok s u := h.trans g

/-- A step that leaves the input blocks alone. -/
theorem ChannelSteps.of_keeps {U : List Part} (h : Keeps U s t) (hU : .channels ∉ U ∧ .preamp ∉ U) :
    ChannelSteps ok s t :=
  .one (.same (h .channels hU.1) (h .preamp hU.2))

/-- What a write of the input blocks keeps, a run of them keeps. -/
theorem ChannelSteps.preserves {P : State → Prop} (hP : ∀ x y, ChannelStep ok x y → P x → P y)
    (h : ChannelSteps ok s t) (hs : P s) : P t := by
  induction h with
  | refl => exact hs
  | tail _ hstep ih => exact hP _ _ hstep ih

theorem ChannelSteps.mono {ok' : Nat → Prop} (hok : ∀ n, ok n → ok' n) (h : ChannelSteps ok s t) :
    ChannelSteps ok' s t := by
  refine h.preserves (fun x y hstep hx => hx.trans (.one ?_)) (.refl s)
  cases hstep with
  | same hchannels hpreamp => exact .same hchannels hpreamp
  | channel n c _ hgate hphantom => exact .channel n c _ hgate hphantom
  | enqueue n _ hn => exact .enqueue n _ (hok n hn)
  | start n rest word prior _ hqueue => exact .start n rest word prior _ hqueue
  | idle absent _ hlength => exact .idle absent _ hlength
  | absent absent _ hlength => exact .absent absent _ hlength

theorem enqueue_channelSteps {n : Nat} (hn : ok n) (s : State) : ChannelSteps ok s (enqueue n s) :=
  .one (.enqueue n s hn)

/-- A channel's write that keeps its applied phantom. -/
theorem setChannel_channelSteps {n : Nat} {c : Channel} {s : State} (hgate : GateStep (channelAt s n).gate c.gate)
    (hphantom : c.appliedPhantom = (channelAt s n).appliedPhantom) : ChannelSteps ok s (setChannel n c s) :=
  .one (.channel n c s hgate (.inl hphantom))

theorem phantomClosed_channelSteps {n : Nat} (hn : ok n) (s : State) : ChannelSteps ok s (phantomClosed n s) := by
  unfold phantomClosed
  dsimp only
  split
  case isFalse => exact .refl s
  case isTrue hclosed =>
    simp only [gateIsClosed, Bool.and_eq_true, beq_iff_eq] at hclosed
    split
    · exact (enqueue_channelSteps hn _).after (.one (.channel n _ s .same (.inr hclosed.1)))
    · exact (enqueue_channelSteps hn _).after (.one (.channel n _ s .same (.inr hclosed.1)))
    · exact .refl s

theorem phantomFieldOn_channelSteps {n : Nat} (hn : ok n) (s : State) :
    ChannelSteps ok s (phantomFieldOn n s) := by
  unfold phantomFieldOn
  dsimp only
  split
  · exact (phantomClosed_channelSteps hn _).after (setChannel_channelSteps (.target 0 (.inl rfl)) rfl)
  · exact (phantomClosed_channelSteps hn _).after (setChannel_channelSteps (.target 0 (.inl rfl)) rfl)
  · exact (phantomClosed_channelSteps hn _).after (setChannel_channelSteps (.target 0 (.inl rfl)) rfl)
  all_goals exact .refl s

theorem phantomFieldOff_channelSteps {n : Nat} (hn : ok n) (s : State) :
    ChannelSteps ok s (phantomFieldOff n s) := by
  unfold phantomFieldOff
  dsimp only
  split
  · exact setChannel_channelSteps (.target unity (.inr rfl)) rfl
  · exact (phantomClosed_channelSteps hn _).after (setChannel_channelSteps (.target 0 (.inl rfl)) rfl)
  · exact (phantomClosed_channelSteps hn _).after (setChannel_channelSteps (.target 0 (.inl rfl)) rfl)
  · exact setChannel_channelSteps .same rfl
  all_goals exact .refl s

theorem phantomTimeout_channelSteps (n : Nat) (s : State) : ChannelSteps ok s (phantomTimeout n s) := by
  unfold phantomTimeout
  dsimp only
  split
  · exact setChannel_channelSteps (.target unity (.inr rfl)) rfl
  · exact setChannel_channelSteps (.target unity (.inr rfl)) rfl
  all_goals exact .refl s

theorem phantomOvercurrent_channelSteps {n : Nat} (hn : ok n) (s : State) :
    ChannelSteps ok s (phantomOvercurrent n s) := by
  have hshut : ChannelSteps ok s (writeEvent .phantomFault n 0
      (enqueue n (setChannel n (faulted (channelAt s n)) s))) :=
    (ChannelSteps.one (.channel n _ s .shut (.inr rfl))).trans
      ((ChannelSteps.one (.enqueue n _ hn)).trans (.of_keeps (writeEvent_keeps _ _ _ _) (by decide)))
  by_cases harmed : Armed (channelAt s n).phantom
  · rw [phantomOvercurrent_of_armed harmed]
    exact hshut
  · rw [phantomOvercurrent_of_not_armed harmed]
    exact .refl s

theorem applyChannelRecord_channelSteps {n : Nat} (hn : ok n) (old new : List Byte) (s : State) :
    ChannelSteps ok s (applyChannelRecord n old new s) := by
  have hpad : ∀ b t, ChannelSteps ok t (applyPad n b t) := fun b t =>
    (enqueue_channelSteps hn _).after (setChannel_channelSteps .same rfl)
  have hpolarity : ∀ b t, ChannelSteps ok t (applyPolarityField n b t) := fun b t =>
    setChannel_channelSteps .same rfl
  have hkept : ∀ (p : Prop) [Decidable p] (t u : State), ChannelSteps ok t u → ChannelSteps ok t (if p then t else u) := by
    intro p _ t u h
    split
    · exact .refl t
    · exact h
  have hphantom : ∀ t, ChannelSteps ok t
      (if bitOf (byteAt new 2) then phantomFieldOn n t else phantomFieldOff n t) := by
    intro t
    split
    · exact phantomFieldOn_channelSteps hn t
    · exact phantomFieldOff_channelSteps hn t
  exact (hkept _ _ _ (hpad _ _)).trans ((hkept _ _ _ (hphantom _)).trans (hkept _ _ _ (hpolarity _ _)))

theorem stepChannel_channelSteps {n : Nat} (hn : ok n) (s : State) : ChannelSteps ok s (stepChannel n s) := by
  unfold stepChannel
  dsimp only
  split
  · exact (enqueue_channelSteps hn _).after (setChannel_channelSteps .same rfl)
  · exact .refl s

theorem startTransfer_channelSteps (s : State) : ChannelSteps ok s (startTransfer s) := by
  unfold startTransfer
  split
  case h_1 n rest _ _ hqueue =>
    exact (ChannelSteps.one (.start n rest _ _ s hqueue)).trans (setChannel_channelSteps .same rfl)
  case h_2 => exact .refl s

theorem echoCheck_channelSteps {n : Nat} (hn : ok n) (prior : Sent) (w : Half) (s : State) :
    ChannelSteps ok s (echoCheck n prior w s) := by
  unfold echoCheck
  dsimp only
  split
  · exact .refl s
  · split
    · exact setChannel_channelSteps .same rfl
    · refine (enqueue_channelSteps hn _).after ?_
      split
      · exact ChannelSteps.after (.of_keeps (writeEvent_keeps _ _ _ _) (by decide)) (setChannel_channelSteps .same rfl)
      · exact setChannel_channelSteps .same rfl

theorem chipMissing_channelSteps (chip : Nat) (s : State) : ChannelSteps ok s (chipMissing chip s) := by
  unfold chipMissing
  split
  · exact .refl s
  · exact (ChannelSteps.one (.absent _ s List.length_set)).trans (.of_keeps (writeEvent_keeps _ _ _ _) (by decide))

/-- The channels a step from `s` may enqueue: those that exist, and the one in transfer. -/
def Enqueueable (s : State) (n : Nat) : Prop := n < 96 ∨ ∃ t ∈ s.preamp.transfer, t.channel = n

theorem completeTransfer_channelSteps (w : Half) (s : State) :
    ChannelSteps (Enqueueable s) s (completeTransfer w s) := by
  unfold completeTransfer
  split
  case h_2 => exact .refl s
  case h_1 tr _ htransfer =>
    have hn : Enqueueable s tr.channel := .inr ⟨tr, htransfer, rfl⟩
    have hidle : ChannelSteps (Enqueueable s) s (s.setPreamp { s.preamp with transfer := none }) :=
      .one (.idle s.preamp.absent s rfl)
    dsimp only
    split
    · have hcheck : ChannelSteps (Enqueueable s) s (echoCheck tr.channel tr.prior w
          (setAbsent (tr.channel / 8) false (s.setPreamp { s.preamp with transfer := none }))) :=
        (echoCheck_channelSteps hn tr.prior w _).after
          (ChannelSteps.after (.one (.absent _ _ List.length_set)) hidle)
      split
      · exact (phantomOvercurrent_channelSteps hn _).after hcheck
      · exact hcheck
    · exact hidle.trans (chipMissing_channelSteps ..)

theorem recordKind_channel_iff {r : Nat} : recordKind r = .channel ↔ r < 96 := by
  unfold recordKind
  split_ifs <;> simp_all

theorem receivePush_channelSteps (r : Nat) (v : Word) (contents : List Byte) (s : State) :
    ChannelSteps (· < 96) s (receivePush r v contents s) := by
  unfold receivePush
  split
  case isFalse => exact .refl s
  unfold applyPush
  dsimp only
  refine ChannelSteps.after (.of_keeps (enqueueReply_keeps _ _) (by decide)) ?_
  split
  case isFalse => exact .of_keeps (setStage_keeps s _) (by decide)
  case isTrue hkind =>
    have hr : r < 96 := recordKind_channel_iff.1 hkind
    exact (applyChannelRecord_channelSteps (ok := (· < 96)) hr _ _ _).after (.of_keeps (setStage_keeps s _) (by decide))

theorem takeMeters_channelSteps (s : State) : ChannelSteps ok s (takeMeters s) := by
  have hclear : ∀ i t, ChannelSteps ok t (clearMeter i t) := by
    intro i t
    unfold clearMeter
    split_ifs
    · exact setChannel_channelSteps .same rfl
    · split
      · exact .of_keeps (setMixes_keeps t _) (by decide)
      · exact .refl t
  have hgroup : ∀ l t, ChannelSteps ok t (forEach clearMeter l t) := fun l t =>
    forEach_preserves (P := ChannelSteps ok t) (fun i x hx => hx.trans (hclear i x)) l (.refl t)
  exact (hgroup _ s).trans (ChannelSteps.trans (.of_keeps (setMeters_keeps _ _) (by decide)) (.of_keeps (noticeIf_keeps _ _ _) (by decide)))

/-- Every operation is a run of writes of the input blocks, most of them of none. -/
theorem Act.channelSteps {T : List Part} (h : Act T s t) : ChannelSteps (Enqueueable s) s t := by
  by_cases hT : Part.channels ∈ T ∨ Part.preamp ∈ T
  case neg =>
    obtain ⟨hchannels, hpreamp⟩ := not_or.1 hT
    exact .one (.same (h.part .channels hchannels (by decide)) (h.part .preamp hpreamp (by decide)))
  cases h with
  | gateClosed _ n hn => exact phantomClosed_channelSteps (.inl hn) s
  | phantomTimeout _ n => exact phantomTimeout_channelSteps n s
  | stepChannel _ n hn => exact stepChannel_channelSteps (.inl hn) s
  | startTransfer => exact startTransfer_channelSteps s
  | completeTransfer _ w => exact completeTransfer_channelSteps w s
  | takeMeters => exact takeMeters_channelSteps s
  | receivePush _ r v contents => exact (receivePush_channelSteps r v contents s).mono fun _ => .inl
  | _ => exact absurd hT (by decide)

/-! ## The preamp update queue (R17) -/

theorem queueOk_of_preamp (h : t.preamp = s.preamp) (hs : QueueOk s) : QueueOk t := by
  unfold QueueOk at *
  rwa [h]

theorem queueOk_channelStep (hok : ∀ n, ok n → n < 96) (h : ChannelStep ok s t) (hs : QueueOk s) : QueueOk t := by
  obtain ⟨hnodup, hmem, htransfer⟩ := hs
  cases h with
  | same _ hpreamp => exact queueOk_of_preamp hpreamp ⟨hnodup, hmem, htransfer⟩
  | channel => exact ⟨hnodup, hmem, htransfer⟩
  | idle => exact ⟨hnodup, hmem, fun _ ht => absurd ht (by simp)⟩
  | absent => exact ⟨hnodup, hmem, htransfer⟩
  | start n rest word prior _ hqueue =>
    rw [hqueue] at hnodup hmem
    refine ⟨(List.nodup_cons.1 hnodup).2, fun m hm => hmem m (List.mem_cons_of_mem n hm), ?_⟩
    rintro _ ⟨⟩
    exact hmem n List.mem_cons_self
  | enqueue n _ hn =>
    unfold QueueOk
    rw [enqueue_preamp]
    by_cases hqueued : n ∈ s.preamp.queue
    case pos =>
      rw [queueWith_of_mem hqueued]
      exact ⟨hnodup, hmem, htransfer⟩
    case neg =>
      rw [queueWith_of_not_mem hqueued]
      refine ⟨List.nodup_append.2 ⟨hnodup, List.nodup_singleton n, ?_⟩, ?_, htransfer⟩
      · rintro m hm _ hsame rfl
        exact hqueued (List.mem_singleton.1 hsame ▸ hm)
      · intro m hm
        rcases List.mem_append.1 hm with hm | hm
        · exact hmem m hm
        · exact List.mem_singleton.1 hm ▸ hok n hn

theorem queueOk_step {audio : Bool} {T : List Part} (h : StateStep audio T s t) (hs : QueueOk s) : QueueOk t := by
  have hpreamp : Part.preamp ∉ T → QueueOk t := fun hT => queueOk_of_preamp (h.part .preamp hT (by decide)) hs
  cases h with
  | act h =>
    have hok : ∀ n, Enqueueable s n → n < 96 := by
      rintro n (hn | ⟨tr, htr, rfl⟩)
      · exact hn
      · exact hs.2.2 tr htr
    exact h.channelSteps.preserves (fun _ _ => queueOk_channelStep hok) hs
  | _ => exact hpreamp (by decide)

theorem queueOk_initial (role : Role) (losA losB pinLow : Bool) (pending : List Instr) :
    QueueOk (.initial role losA losB pinLow pending) :=
  ⟨List.nodup_range, fun _ hn => List.mem_range.1 hn, fun _ ht => absurd ht (by simp [State.initial])⟩

/-- Settles O5: a channel is enqueued only where it does not stand in the queue, and a transfer takes the head out. -/
theorem updateQueueInvariant : Obligations.UpdateQueueInvariant := fun _ _ hs h =>
  step_invariant queueOk_initial (fun _ _ => id) (fun _ _ _ _ => queueOk_step) hs h

/-! ## Phantom under a shut gate (R11 to R15) -/

/-- A channel keeps its applied phantom or ends with a shut gate, and a shut gate stays shut. -/
def PhantomShut (s t : State) : Prop :=
  ∀ n, ((channelAt t n).appliedPhantom ≠ (channelAt s n).appliedPhantom → (channelAt t n).gate.current = 0) ∧
    ((channelAt s n).gate.current = 0 → (channelAt t n).gate.current = 0)

theorem PhantomShut.of_channels (h : t.channels = s.channels) : PhantomShut s t := fun n => by
  rw [channelAt_of_channels h]
  exact ⟨fun hne => absurd rfl hne, id⟩

theorem PhantomShut.trans (h : PhantomShut s t) (g : PhantomShut t u) : PhantomShut s u := fun n => by
  obtain ⟨hphantom, hgate⟩ := h n
  obtain ⟨gphantom, ggate⟩ := g n
  refine ⟨fun hne => ?_, fun hcurrent => ggate (hgate hcurrent)⟩
  by_cases hlast : (channelAt u n).appliedPhantom = (channelAt t n).appliedPhantom
  · exact ggate (hphantom (hlast ▸ hne))
  · exact gphantom hlast

theorem GateStep.current {g g' : Ramp} (h : GateStep g g') : g'.current = g.current ∨ g'.current = 0 := by
  cases h with
  | same => exact .inl rfl
  | target v =>
    left
    unfold rampTarget
    split <;> rfl
  | shut => exact .inr rfl

theorem ChannelStep.phantomShut (h : ChannelStep ok s t) : PhantomShut s t := by
  cases h with
  | same hchannels => exact .of_channels hchannels
  | channel n c _ hgate hphantom =>
    intro m
    by_cases hm : m = n
    case neg =>
      rw [channelAt_of_set_other (setChannel_channels n c s) hm]
      exact ⟨fun hne => absurd rfl hne, id⟩
    subst hm
    rcases lt_or_ge m s.channels.length with hlt | hge
    case inr =>
      rw [channelAt_of_channels (List.set_eq_of_length_le hge)]
      exact ⟨fun hne => absurd rfl hne, id⟩
    rw [channelAt_of_set_self (setChannel_channels m c s) hlt]
    refine ⟨fun hne => hphantom.resolve_left hne, fun hcurrent => ?_⟩
    rcases hgate.current with hsame | hzero
    · rw [hsame, hcurrent]
    · exact hzero
  | enqueue n => exact .of_channels (enqueue_channels n s)
  | start | idle | absent => exact .of_channels rfl

theorem Act.phantomShut {T : List Part} (h : Act T s t) : PhantomShut s t :=
  h.channelSteps.preserves (P := PhantomShut s) (fun _ _ hstep hs => hs.trans hstep.phantomShut) (.of_channels rfl)

theorem Acts.phantomShut (h : Acts s t) : PhantomShut s t :=
  h.relates (fun _ => .of_channels rfl) (fun _ _ _ => .trans) fun _ _ _ => Act.phantomShut

theorem StateStep.phantomShut {T : List Part} (h : StateStep false T s t) : PhantomShut s t := by
  have hchannels : Part.channels ∉ T → PhantomShut s t := fun hT => .of_channels (h.part .channels hT (by decide))
  cases h with
  | act h => exact h.phantomShut
  | lanes _ _ h => exact absurd h Bool.false_ne_true
  | _ => exact hchannels (by decide)

/-! ## The input chain on the table (R1) -/

theorem getElem?_inputChain (xs : List Sample) (cs : List Channel) (n : Nat) :
    (inputChain xs cs)[n]? = (cs[n]?).map (chainStep (xs.getD n 0).toInt) := by
  induction xs, cs using inputChain.induct generalizing n with
  | case1 => simp [inputChain]
  | case2 c cs ih => cases n <;> simp [inputChain, ih]
  | case3 x xs c cs ih => cases n <;> simp [inputChain, ih]

theorem length_inputChain (xs : List Sample) (cs : List Channel) : (inputChain xs cs).length = cs.length := by
  induction xs, cs using inputChain.induct with
  | case1 => rfl
  | case2 c cs ih => simp [inputChain, ih]
  | case3 x xs c cs ih => simp [inputChain, ih]

/-- A channel's chain keeps its applied phantom, and leaves its gate one advance further. -/
theorem mem_chainedChannels {slots : List Sample} {c : Channel} (h : c ∈ chainedChannels slots s) :
    ∃ c' ∈ s.channels, c.gate = rampAdvance c'.gate ∧ c.appliedPhantom = c'.appliedPhantom := by
  obtain ⟨n, hn⟩ := List.mem_iff_getElem?.1 h
  rw [chainedChannels, List.getElem?_map, getElem?_inputChain, Option.map_map] at hn
  obtain ⟨c', hc', rfl⟩ := Option.map_eq_some_iff.1 hn
  exact ⟨c', List.mem_of_getElem? hc', rfl, rfl⟩

theorem channelAt_chained (slots : List Sample) {t : State} (h : t.channels = chainedChannels slots s) (n : Nat) :
    (channelAt t n).appliedPhantom = (channelAt s n).appliedPhantom := by
  simp only [channelAt, h, chainedChannels, List.getD_eq_getElem?_getD, List.getElem?_map, getElem?_inputChain,
    Option.map_map]
  cases s.channels[n]? <;> rfl

end Sys2Proof.Machine
end


section
/-! Phantom under a shut gate (section 1.5): the operations between two frames by `PhantomShut`, and the frame's own
work, which touches no applied phantom at all. -/

namespace Sys2Proof.Machine

/-! ## The scheduler's turn leaves the phantoms -/

/-- A preorder that every begun message and every write of the scheduler moves along is followed by the handing over
of control bytes. -/
theorem handBytes_relates {R : State → State → Prop} (hrefl : ∀ s, R s s)
    (htrans : ∀ s t u, R s t → R t u → R s u) (hbegin : ∀ k s, pick s = some k → R s (beginPick k s))
    (hsched : ∀ s v, R s (s.setSched v)) (n : Nat) (s : State) : R s (handBytes n s).1 := by
  have hpick : ∀ s, R s (pickNow s) := by
    intro s
    unfold pickNow
    split
    case h_1 h => exact hbegin _ s h
    case h_2 => exact hrefl s
  have hbyte : ∀ s, R s (handByte s).1 := by
    intro s
    refine htrans _ _ _ (hpick s) ?_
    unfold handByte
    dsimp only
    split
    · exact hsched _ _
    · exact hrefl _
  induction n generalizing s with
  | zero => exact hrefl s
  | succ n ih => exact htrans _ _ _ (hbyte s) (ih _)

/-- The parts that the beginning of a message other than a METER touches. -/
theorem beginPick_keeps_of_ne_meter {k : Pick} (hk : k ≠ .meter) (s : State) :
    Keeps [.link, .sched, .desk, .status] s (beginPick k s) := by
  cases k with
  | meter => exact absurd rfl hk
  | hello => exact (beginHello_keeps s).mono (by decide)
  | reply => exact (beginReply_keeps s).mono (by decide)
  | note => exact (beginNote_keeps s).mono (by decide)
  | status => exact (beginStatus_keeps s).mono (by decide)
  | pull r => exact (beginPullMessage_keeps r s).mono (by decide)
  | push r => exact (beginPushMessage_keeps r s).mono (by decide)

/-- Every applied phantom stands as it was. -/
def PhantomsSame (s t : State) : Prop := ∀ n, (channelAt t n).appliedPhantom = (channelAt s n).appliedPhantom

theorem PhantomsSame.of_channels {s t : State} (h : t.channels = s.channels) : PhantomsSame s t := fun n => by
  rw [channelAt_of_channels h]

theorem PhantomsSame.trans {s t u : State} (h : PhantomsSame s t) (g : PhantomsSame t u) : PhantomsSame s u :=
  fun n => (g n).trans (h n)

theorem clearMeter_phantomsSame (i : Nat) (s : State) : PhantomsSame s (clearMeter i s) := by
  unfold clearMeter
  split
  case isTrue =>
    intro n
    by_cases hn : n = i
    case neg => rw [channelAt_of_set_other (setChannel_channels i _ s) hn]
    subst hn
    rcases lt_or_ge n s.channels.length with hlt | hge
    · rw [channelAt_of_set_self (setChannel_channels n _ s) hlt]
    · rw [channelAt_of_channels (List.set_eq_of_length_le hge)]
  case isFalse =>
    split
    · exact .of_channels rfl
    · exact .of_channels rfl

theorem takeMeters_phantomsSame (s : State) : PhantomsSame s (takeMeters s) :=
  (forEach_preserves (P := PhantomsSame s) (fun i _ ht => ht.trans (clearMeter_phantomsSame i _)) _
    (.of_channels rfl)).trans ((PhantomsSame.of_channels rfl).trans (.of_channels ((noticeIf_keeps _ _ _).part .channels (by decide))))

theorem handBytes_phantomsSame (n : Nat) (s : State) : PhantomsSame s (handBytes n s).1 := by
  refine handBytes_relates (R := PhantomsSame) (fun _ => .of_channels rfl) (fun _ _ _ => .trans) (fun k s _ => ?_)
    (fun _ _ => .of_channels rfl) n s
  by_cases hk : k = .meter
  · subst hk
    exact (takeMeters_phantomsSame s).trans (.of_channels rfl)
  · exact .of_channels ((beginPick_keeps_of_ne_meter hk s).part .channels (by decide))

/-! ## The frame -/

theorem stageAudio_phantomsSame (slots : List Sample) (s : State) : PhantomsSame s (stageAudio slots s) :=
  (show PhantomsSame s (stageLanes slots s) from
    channelAt_chained slots ((mixFrame_keeps _ _).part .channels (by decide))).trans
    ((handBytes_phantomsSame 4 _).trans (.of_channels rfl))

theorem frameStep_phantomsSame (slots : List Sample) (s : State) : PhantomsSame s (frameStep slots s) := by
  have haudio : ∀ s, PhantomsSame s (audioStep slots s) := by
    intro s
    unfold audioStep
    split
    · have hbytes := handBytes_phantomsSame 4 (s.setOutput { s.output with slots := s.deliverer.lastOut })
      exact (PhantomsSame.of_channels rfl).trans (hbytes.trans (.of_channels rfl))
    · exact stageAudio_phantomsSame slots s
  have hblocks : PhantomsSame s (frameBlocks slots s) :=
    (PhantomsSame.of_channels (((farFrame_keeps _).part .channels (by decide)).trans ((clockStep_keeps s).part .channels (by decide)))).trans
      ((haudio _).trans (.of_channels ((countBridging_keeps _).part .channels (by decide))))
  unfold frameStep
  split
  · exact hblocks
  · exact hblocks.trans (.of_channels ((judgePorts_keeps _).part .channels (by decide)))

/-- Settles O40: every write of the input blocks that switches phantom leaves a shut gate, and no later one opens it
before its first advance, which only a frame makes. -/
theorem phantomSwitchedShut : Obligations.PhantomSwitchedShut := by
  unfold Obligations.PhantomSwitchedShut
  refine ⟨fun c s t n hpower hreset hframe h hne => ?_, fun slots cycles s => ?_⟩
  · rcases exec_steps h with ⟨role, -, ⟨strap, losA, losB, hc⟩ | ⟨-, w, hc⟩⟩ | hsteps
    · exact absurd hc (hpower _ _ _)
    · exact absurd hc (hreset _ _)
    · have hquiet : runsAudio c = false := by
        cases c with
        | frame slots cycles => exact absurd rfl (hframe slots cycles)
        | _ => rfl
      rw [hquiet] at hsteps
      refine (hsteps.relates (R := PhantomShut) (fun _ => .of_channels rfl) (fun _ _ _ => .trans)
        (fun _ _ _ => StateStep.phantomShut) n).1 hne
  · exact ⟨_, rfl, fun n => ⟨frameStep_phantomsSame slots _ n, ((beforeFrame_acts s).phantomShut n).1⟩⟩

end Sys2Proof.Machine
end


section
/-! A change of link state part by part (R122 to R128), and what no operation does: clear a flag or a change bit, touch
CTRL, NOTICE_EN or the snapshot, or change the size of the event ring. -/

namespace Sys2Proof.Machine

/-! ## A change of link state -/

/-- What every role's block does at a change of link state, before the blocks of the role. -/
def linkBase (new : LinkState) (s : State) : State :=
  linkSupervise s.link.state new (linkAudio new (writeEvent .linkState 0 (linkDetail s.link.state new)
    (setChange .link (s.setLink { s.link with state := new }))))

theorem linkBase_keeps (new : LinkState) (s : State) :
    Keeps [.deliverer, .link, .sched, .ring, .regs, .output] s (linkBase new s) :=
  ((linkSupervise_keeps _ _ _).mono (T := [.deliverer, .link, .sched, .ring, .regs, .output]) (by decide)).after (by decide)
    (((linkAudio_keeps _ _).mono (T := [.deliverer, .link, .sched, .ring, .regs, .output]) (by decide)).after (by decide)
      (((writeEvent_keeps _ _ _ _).mono (T := [.deliverer, .link, .sched, .ring, .regs, .output]) (by decide)).after (by decide)
        (((setChange_keeps _ _).mono (T := [.deliverer, .link, .sched, .ring, .regs, .output]) (by decide)).after (by decide)
          ((setLink_keeps s _).mono (by decide)))))

theorem changeLink_of_desk {s : State} (h : s.role = .desk) (new : LinkState) :
    changeLink new s = linkDesk s.link.state new (linkBase new s) := by
  have hrole : (linkBase new s).role = .desk := ((linkBase_keeps new s).part .role (by decide)).trans h
  unfold linkBase at *
  unfold changeLink
  dsimp only
  rw [hrole]

theorem changeLink_of_stage {s : State} (h : s.role = .stage) (new : LinkState) :
    changeLink new s = linkStage s.link.state new (linkBase new s) := by
  have hrole : (linkBase new s).role = .stage := ((linkBase_keeps new s).part .role (by decide)).trans h
  unfold linkBase at *
  unfold changeLink
  dsimp only
  rw [hrole]

/-- The supervisor's fields after a change of link state (R123, R127). -/
def linkAfter (new : LinkState) (l : Link) : Link :=
  match new with
  | .connecting =>
    { l with
      state := .connecting, heard := l.heard && !isSilent l.state, roleFault := l.roleFault && !isSilent l.state,
      bridging := 0, returnTo := none }
  | .bridging => { l with state := .bridging, bridging := 0, returnTo := some l.state }
  | .linked => { l with state := .linked, bridging := 0, returnTo := none }
  | .lost => { l with state := .lost, bridging := 0, returnTo := none }
  | .down => { l with state := .down, bridging := 0, returnTo := none }

@[simp] theorem linkAfter_state (new : LinkState) (l : Link) : (linkAfter new l).state = new := by
  cases new <;> rfl

/-- The Deliverer after a change of link state, but for the mask in use (R120, R121). -/
def silenced (new : LinkState) (d : Deliverer) : Deliverer :=
  if isSilent new then
    { d with
      lastOut := List.replicate d.lastOut.length 0, run := 0, rejoinPending := d.rejoinPending || new == .lost }
  else d

theorem linkBase_link (new : LinkState) (s : State) : (linkBase new s).link = linkAfter new s.link := by
  have htold : (linkAudio new (writeEvent .linkState 0 (linkDetail s.link.state new)
      (setChange .link (s.setLink { s.link with state := new })))).link = { s.link with state := new } :=
    ((linkAudio_keeps _ _).part .link (by decide)).trans ((writeEvent_keeps _ _ _ _).part .link (by decide))
  unfold linkBase linkSupervise linkAfter
  cases new <;> simp [htold]

theorem linkBase_deliverer (new : LinkState) (s : State) :
    (linkBase new s).deliverer = silenced new s.deliverer := by
  have htold : (writeEvent .linkState 0 (linkDetail s.link.state new)
      (setChange .link (s.setLink { s.link with state := new }))).deliverer = s.deliverer :=
    (writeEvent_keeps _ _ _ _).part .deliverer (by decide)
  rw [linkBase, (linkSupervise_keeps _ _ _).part .deliverer (by decide)]
  unfold linkAudio silenced
  split <;> simp [htold]

theorem linkBase_ring (new : LinkState) (s : State) :
    (linkBase new s).ring = ringWith .linkState 0 (linkDetail s.link.state new) s := by
  rw [linkBase, (linkSupervise_keeps _ _ _).part .ring (by decide), (linkAudio_keeps _ _).part .ring (by decide), writeEvent_ring]
  exact ringWith_congr rfl rfl rfl

@[simp] theorem changeLink_link (new : LinkState) (s : State) : (changeLink new s).link = linkAfter new s.link := by
  rw [← linkBase_link]
  cases hrole : s.role
  · rw [changeLink_of_desk hrole]
    exact (linkDesk_keeps _ _ _).part .link (by decide)
  · rw [changeLink_of_stage hrole]
    exact (linkStage_keeps _ _ _).part .link (by decide)

theorem clockOnLink_deliverer (old new : LinkState) (s : State) :
    (clockOnLink old new s).deliverer = s.deliverer :=
  (clockOnLink_keeps old new s).part .deliverer (by decide)

/-- What `linkStage` makes of the parts beside the clock, which the other fields do not read. -/
theorem linkStage_deliverer (old new : LinkState) (s : State) :
    (linkStage old new s).deliverer = { s.deliverer with maskInUse := 0 } := by
  unfold linkStage
  dsimp only
  rw [clockOnLink_deliverer]
  split_ifs <;> rfl

/-- The island after a change of link state at the stage (R50, R52). -/
def islandAfter (old new : LinkState) (i : Island) : Island :=
  let left := if old = .lost then
    { count := 0, engaged := false, lastElapsed := i.count / 1000, lastEngaged := i.engaged } else i
  if new = .lost then { left with count := 0 } else left

theorem linkStage_island (old new : LinkState) (s : State) :
    (linkStage old new s).island = islandAfter old new s.island := by
  unfold linkStage islandAfter leaveIsland islandElapsed
  dsimp only
  rw [(clockOnLink_keeps _ _ _).part .island (by decide)]
  split_ifs <;> rfl

theorem changeLink_deliverer_desk {s : State} (h : s.role = .desk) (new : LinkState) :
    (changeLink new s).deliverer = silenced new s.deliverer := by
  rw [changeLink_of_desk h, (linkDesk_keeps _ _ _).part .deliverer (by decide), linkBase_deliverer]

theorem changeLink_deliverer_stage {s : State} (h : s.role = .stage) (new : LinkState) :
    (changeLink new s).deliverer = { silenced new s.deliverer with maskInUse := 0 } := by
  rw [changeLink_of_stage h, linkStage_deliverer, linkBase_deliverer]

theorem changeLink_island_desk {s : State} (h : s.role = .desk) (new : LinkState) :
    (changeLink new s).island = s.island := by
  rw [changeLink_of_desk h, (linkDesk_keeps _ _ _).part .island (by decide), (linkBase_keeps _ _).part .island (by decide)]

theorem changeLink_island_stage {s : State} (h : s.role = .stage) (new : LinkState) :
    (changeLink new s).island = islandAfter s.link.state new s.island := by
  rw [changeLink_of_stage h, linkStage_island, (linkBase_keeps _ _).part .island (by decide)]

/-- The clock at the stage: LOCKED is entered or left, or nothing happens (R129). -/
theorem changeLink_clock_desk {s : State} (h : s.role = .desk) (new : LinkState) :
    (changeLink new s).clock = s.clock := by
  rw [changeLink_of_desk h, (linkDesk_keeps _ _ _).part .clock (by decide), (linkBase_keeps _ _).part .clock (by decide)]

/-- The desk's tables after a change of link state (R145, R146). -/
theorem changeLink_desk_stage {s : State} (h : s.role = .stage) (new : LinkState) :
    (changeLink new s).desk = s.desk := by
  rw [changeLink_of_stage h, (linkStage_keeps _ _ _).part .desk (by decide), (linkBase_keeps _ _).part .desk (by decide)]

/-! ## Every operation beside the invariants -/

theorem Beside.after {T : List Part} {s t u : State} (g : Beside T t u) (h : Beside T s t) : Beside T s u := h.trans g

theorem Beside.enqueue (n : Nat) (s : State) : Beside [.channels, .preamp] s (enqueue n s) :=
  .of_keeps (enqueue_keeps n s) (by decide)

theorem Beside.setChannel (n : Nat) (c : Channel) (s : State) : Beside [.channels, .preamp] s (setChannel n c s) :=
  .of_keeps (setChannel_keeps n c s) (by decide)

theorem Beside.setPreamp (p : Preamp) (s : State) : Beside [.channels, .preamp] s (s.setPreamp p) :=
  .of_keeps (setPreamp_keeps s p) (by decide)

theorem Beside.echoCheck (n : Nat) (prior : Sent) (w : Half) (s : State) :
    Beside [.channels, .preamp] s (echoCheck n prior w s) := by
  unfold Machine.echoCheck
  dsimp only
  split_ifs
  · exact .refl _ s
  · exact .setChannel _ _ s
  · exact (Beside.enqueue ..).after (((Beside.writeEvent ..).mono (by decide)).after (.setChannel _ _ s))
  · exact (Beside.enqueue ..).after (.setChannel _ _ s)

theorem Beside.phantomOvercurrent (n : Nat) (s : State) :
    Beside [.channels, .preamp] s (phantomOvercurrent n s) := by
  by_cases harmed : Armed (channelAt s n).phantom
  · rw [phantomOvercurrent_of_armed harmed]
    exact ((Beside.writeEvent ..).mono (by decide)).after ((Beside.enqueue ..).after (.setChannel _ _ s))
  · rw [phantomOvercurrent_of_not_armed harmed]
    exact .refl _ s

theorem Beside.chipMissing (chip : Nat) (s : State) : Beside [.channels, .preamp] s (chipMissing chip s) := by
  unfold Machine.chipMissing
  split
  · exact .refl _ s
  · exact ((Beside.writeEvent ..).mono (by decide)).after (.setPreamp _ s)

theorem Beside.completeTransfer (w : Half) (s : State) :
    Beside [.channels, .preamp] s (completeTransfer w s) := by
  unfold Machine.completeTransfer
  split
  case h_2 => exact .refl _ s
  case h_1 tr _ _ =>
    have hidle : Beside [.channels, .preamp] s (s.setPreamp { s.preamp with transfer := none }) := .setPreamp _ s
    have hchecked : Beside [.channels, .preamp] s (Machine.echoCheck tr.channel tr.prior w
        (setAbsent (tr.channel / 8) false (s.setPreamp { s.preamp with transfer := none }))) :=
      (Beside.echoCheck ..).after ((Beside.setPreamp ..).after hidle)
    dsimp only
    split
    · split
      · exact (Beside.phantomOvercurrent ..).after hchecked
      · exact hchecked
    · exact (Beside.chipMissing ..).after hidle

theorem Beside.takeMeters (s : State) : Beside [.channels, .mixes, .meters] s (takeMeters s) := by
  have hclear : ∀ i t, Beside [.channels, .mixes, .meters] t (clearMeter i t) := fun i t =>
    .of_keeps (clearMeter_keeps i t) (by decide)
  have hcleared : ∀ l, Beside [.channels, .mixes, .meters] s (forEach clearMeter l s) := fun l =>
    forEach_preserves (fun i t ht => ht.trans (hclear i t)) l (.refl _ s)
  exact ((Beside.noticeIf _ _ _).mono (by decide)).after ((Beside.of_keeps (setMeters_keeps _ _) (by decide)).after (hcleared _))

theorem Beside.compareCadence (s : State) : Beside [.meters] s (compareCadence s) := by
  unfold Machine.compareCadence
  split
  · exact ((Beside.setNotice _ _).mono (by decide)).after (.of_keeps (setMeters_keeps s _) (by decide))
  · exact .refl _ s

theorem Beside.writeMeters (p : List Byte) (s : State) : Beside [.meters] s (writeMeters p s) := by
  have hset : ∀ m t, Beside [.meters] t (t.setMeters m) := fun m t => .of_keeps (setMeters_keeps t m) (by decide)
  have hsweep : ∀ t, Beside [.meters] t (completeSweep t) := by
    intro t
    unfold completeSweep
    dsimp only
    split
    · exact hset _ t
    · exact (Beside.compareCadence _).after (hset _ t)
  unfold Machine.writeMeters
  dsimp only
  split_ifs
  · exact (hsweep _).after (hset _ s)
  · exact (hsweep _).after (hset _ s)
  · exact hset _ s
  · exact hset _ s
  · exact .refl _ s

theorem Beside.engageIsland (s : State) : Beside [.island] s (engageIsland s) := by
  unfold Machine.engageIsland
  split
  · exact ((Beside.writeEvent ..).mono (by decide)).after (.of_keeps (setIsland_keeps s _) (by decide))
  · exact .refl _ s

theorem Beside.endTrimPeriod (s : State) : Beside [.clock] s (endTrimPeriod s) := by
  have hset : ∀ c, Beside [.clock] s (s.setClock c) := fun c => .of_keeps (setClock_keeps s c) (by decide)
  unfold Machine.endTrimPeriod
  dsimp only
  split_ifs
  · exact hset _
  · exact ((Beside.writeEvent ..).mono (by decide)).after (hset _)
  · exact .refl _ s

theorem Beside.leaveAdoption (r : Nat) (s : State) : Beside [.desk] s (leaveAdoption r s) := by
  have hset : ∀ d, Beside [.desk] s (s.setDesk d) := fun d => .of_keeps (setDesk_keeps s d) (by decide)
  unfold Machine.leaveAdoption
  dsimp only
  split_ifs
  · exact ((Beside.adoptDone _).mono (by decide)).after (hset _)
  · exact hset _
  · exact .refl _ s

theorem Beside.setDesk (d : DeskRepl) (s : State) : Beside [.desk] s (s.setDesk d) := .of_keeps (setDesk_keeps s d) (by decide)

theorem Beside.editRecord (r : Nat) (requested : List Byte) (s : State) :
    Beside [.desk] s (editRecord r requested s) :=
  (Beside.setDesk _ _).after ((Beside.leaveAdoption _ _).after ((Beside.setDesk _ _).after (Beside.setDesk _ s)))

theorem Beside.adoptReport (r : Nat) (contents : List Byte) (s : State) :
    Beside [.desk] s (adoptReport r contents s) := by
  unfold Machine.adoptReport
  split
  · exact (Beside.leaveAdoption _ _).after ((Beside.setDesk _ _).after (Beside.setDesk _ s))
  · exact .refl _ s

theorem Beside.acknowledge (r : Nat) (v : Word) (s : State) :
    Beside [.desk, .board, .scanner] s (acknowledge r v s) := by
  have hcomplete : ∀ i t, Beside [.desk, .board, .scanner] t (completeIfAgainst r i t) := by
    intro i t
    unfold completeIfAgainst
    split
    · split
      · exact ((Beside.setNotice _ _).mono (by decide)).after ((Beside.of_keeps (setAccepted_keeps _ _ _) (by decide)).after
          (.of_keeps (writeEntry_keeps _ _ _ _ _ _ _) (by decide)))
      · exact .refl _ t
    · exact .refl _ t
  have hall : ∀ t, Beside [.desk, .board, .scanner] t (completeAgainst r t) := fun t =>
    forEach_preserves (fun i u hu => hu.trans (hcomplete i u)) _ (.refl _ t)
  have hdesk : ∀ d t, Beside [.desk, .board, .scanner] t (t.setDesk d) := fun d t => (Beside.setDesk d t).mono (by decide)
  unfold Machine.acknowledge
  split
  · dsimp only
    refine ((Beside.noticeIf _ _ _).mono (by decide)).after ?_
    split
    · exact (hall _).after ((hdesk _ _).after (hdesk _ s))
    · exact (hdesk _ _).after (hdesk _ s)
  · exact .refl _ s

theorem Beside.linkBase (new : LinkState) (s : State) : Beside [.deliverer, .link] s (linkBase new s) := by
  refine Beside.after (.of_keeps (linkSupervise_keeps _ _ _) (by decide)) (Beside.after (.of_keeps (linkAudio_keeps _ _) (by decide)) ?_)
  exact (((Beside.writeEvent ..).after (Beside.setChange ..)).mono (by decide)).after (.of_keeps (setLink_keeps s _) (by decide))

theorem Beside.rejoin (s : State) : Beside [.desk] s (rejoin s) := by
  have hadopt : ∀ t, Beside [.desk] t (beginAdoption t) := by
    intro t
    unfold beginAdoption
    dsimp only
    split
    · exact ((Beside.adoptDone _).mono (by decide)).after (Beside.setDesk _ t)
    · exact Beside.setDesk _ t
  unfold Machine.rejoin
  dsimp only
  split
  · exact (Beside.setDesk _ _).after (Beside.setDesk _ s)
  · exact (hadopt _).after (Beside.setDesk _ s)
  · exact Beside.setDesk _ s
  · exact Beside.setDesk _ s

theorem Beside.linkDesk (old new : LinkState) (s : State) : Beside [.desk] s (linkDesk old new s) := by
  have hif : ∀ (p : Prop) [Decidable p] (t u : State), Beside [.desk] t u → Beside [.desk] t (if p then u else t) := by
    intro p _ t u h
    split
    · exact h
    · exact .refl _ t
  exact (hif _ _ _ (Beside.rejoin _)).after ((hif _ _ _ (Beside.setDesk _ _)).after
    (hif _ _ _ ((Beside.dropStageTalk s).mono (by decide))))

theorem Beside.clockOnLink (old new : LinkState) (s : State) : Beside [.clock] s (clockOnLink old new s) := by
  have hset : ∀ c t, Beside [.clock] t (t.setClock c) := fun c t => .of_keeps (setClock_keeps t c) (by decide)
  have hlocked : Beside [.clock] s (enterLocked s) := by
    unfold enterLocked
    split
    · exact .refl _ s
    · exact hset _ s
  have hholdover : Beside [.clock] s (enterHoldover s) := (hset _ _).after (Beside.endTrimPeriod s)
  unfold Machine.clockOnLink
  split
  · exact hlocked
  · exact hlocked
  · split
    · exact hholdover
    · exact .refl _ s
  · split
    · exact hholdover
    · exact .refl _ s
  · exact .refl _ s

theorem Beside.linkStage (old new : LinkState) (s : State) :
    Beside [.island, .deliverer, .clock] s (linkStage old new s) := by
  have hif : ∀ (p : Prop) [Decidable p] (t u : State), Beside [.island, .deliverer, .clock] t u →
      Beside [.island, .deliverer, .clock] t (if p then u else t) := by
    intro p _ t u h
    split
    · exact h
    · exact .refl _ t
  exact ((Beside.clockOnLink _ _ _).mono (by decide)).after ((hif _ _ _ (.of_keeps (setSched_keeps _ _) (by decide))).after
    ((hif _ _ _ (.of_keeps (setIsland_keeps _ _) (by decide))).after ((hif _ _ _ (.of_keeps (leaveIsland_keeps _) (by decide))).after
      (.of_keeps (setDeliverer_keeps s _) (by decide)))))

theorem Beside.changeLink (new : LinkState) (s : State) :
    Beside [.island, .deliverer, .link, .clock, .desk] s (changeLink new s) := by
  cases hrole : s.role
  · rw [changeLink_of_desk hrole]
    exact ((Beside.linkDesk _ _ _).mono (by decide)).after ((Beside.linkBase new s).mono (by decide))
  · rw [changeLink_of_stage hrole]
    exact ((Beside.linkStage _ _ _).mono (by decide)).after ((Beside.linkBase new s).mono (by decide))

/-- No operation clears a flag or a change bit, touches the host's fields of the registers, or changes the size of the
event ring. -/
theorem Act.beside {T : List Part} {s t : State} (h : Act T s t) : Beside T s t := by
  cases h with
  | aside h => exact h
  | arbiter h => exact h
  | indexZero => exact .of_keeps (setFrameIndex_keeps s _) (by decide)
  | indexNext => exact .of_keeps (setFrameIndex_keeps s _) (by decide)
  | gateClosed _ n => exact .of_keeps (phantomClosed_keeps n s) (by decide)
  | phantomTimeout _ n => exact .of_keeps (phantomTimeout_keeps n s) (by decide)
  | stepChannel _ n => exact .of_keeps (stepChannel_keeps n s) (by decide)
  | startTransfer => exact .of_keeps (startTransfer_keeps s) (by decide)
  | completeTransfer _ w => exact .completeTransfer w s
  | takeMeters => exact .takeMeters s
  | writeMeters _ p => exact .writeMeters p s
  | engageIsland => exact .engageIsland s
  | countIsland => exact .of_keeps (countIsland_keeps s) (by decide)
  | port _ p v => exact .of_keeps (setPort_keeps s p v) (by decide)
  | cue => exact .of_keeps (setDeliverer_keeps s _) (by decide)
  | silent => exact .of_keeps (silentFrame_keeps s) (by decide)
  | conceal => exact .of_keeps (setDeliverer_keeps s _) (by decide)
  | deliver => exact .of_keeps (setDeliverer_keeps s _) (by decide)
  | mask => exact .of_keeps (setDeliverer_keeps s _) (by decide)
  | link => exact .of_keeps (setLink_keeps s _) (by decide)
  | changeLink _ new => exact .changeLink new s
  | clock => exact .of_keeps (setClock_keeps s _) (by decide)
  | endTrimPeriod => exact .endTrimPeriod s
  | push _ r => exact .of_keeps (beginPush_keeps r s) (by decide)
  | pull => exact .setDesk _ s
  | inFlightTimeout => exact .of_keeps (inFlightTimeout_keeps s) (by decide)
  | edit _ r requested => exact .editRecord r requested s
  | replay => exact .of_keeps (markReplay_keeps s) (by decide)
  | acknowledge _ r v => exact .acknowledge r v s
  | adopt _ r contents => exact .adoptReport r contents s
  | writeEntry => exact .of_keeps (writeEntry_keeps _ _ _ _ _ _ s) (by decide)
  | accept => exact .of_keeps (setAccepted_keeps _ _ s) (by decide)
  | drop => exact .of_keeps (setAccepted_keeps _ _ s) (by decide)
  | receivePush _ r v contents => exact .of_keeps (receivePush_keeps r v contents s) (by decide)
  | scanner => exact .of_keeps (setScanner_keeps s _) (by decide)

theorem Acts.regsKept {s t : State} (h : Acts s t) : RegsKept s t :=
  h.relates .refl (fun _ _ _ => .trans) fun _ _ _ hact => hact.beside.regs

end Sys2Proof.Machine
end


section
/-! The ranges of the ramped gains, of the trim and of the frame index (R32, R92, R132). -/

namespace Sys2Proof.Machine

variable {s t u : State}

/-! ## The gains of the mixes (R37 to R44) -/

theorem inRange_zero_maxGain : inRange 0 maxGain 0 := ⟨le_rfl, by decide⟩

theorem inRange_zero_unity : inRange 0 unity 0 := ⟨le_rfl, by decide⟩

theorem inRange_unity : inRange 0 unity unity := ⟨by decide, le_rfl⟩

theorem levelGain_inRange {c : Nat} (h : c ≤ 255) : inRange 0 maxGain (levelGain c) :=
  ⟨(show levelGain 0 = 0 from rfl) ▸ levelGain_mono (Nat.zero_le c),
    (levelGain_mono h).trans (show levelGain 255 ≤ maxGain by decide)⟩

theorem levelGain_byte_inRange (b : Byte) : inRange 0 maxGain (levelGain b.toNat) :=
  levelGain_inRange (Nat.le_of_lt_succ b.isLt)

theorem mixMasterCode_le (s : State) (m : Nat) : mixMasterCode s m ≤ 255 := by
  have hcode := (liveByte s (96 + m) 0).isLt
  unfold mixMasterCode effectiveMaster
  split_ifs <;> omega

theorem deskTalkTarget_inRange (s : State) (m : Nat) : inRange 0 maxGain (deskTalkTarget s m) := by
  unfold deskTalkTarget
  split
  · exact levelGain_byte_inRange _
  · exact inRange_zero_maxGain

theorem stageTalkTarget_inRange (s : State) (m : Nat) : inRange 0 maxGain (stageTalkTarget s m) := by
  unfold stageTalkTarget
  split
  · exact levelGain_byte_inRange _
  · exact inRange_zero_maxGain

theorem rampFrame_ok {lo hi v : Int} {g : Ramp} (hg : RampOk lo hi g) (hv : inRange lo hi v) :
    RampOk lo hi (rampFrame v g) := rampAdvance_ok (rampTarget_ok hg hv)

theorem sendsFrame_ok {gs : List Ramp} {cs : List Byte} (h : ∀ g ∈ gs, RampOk 0 maxGain g) :
    ∀ g ∈ sendsFrame gs cs, RampOk 0 maxGain g := by
  intro g hg
  obtain ⟨n, hn⟩ := List.mem_iff_getElem?.1 hg
  rw [getElem?_sendsFrame] at hn
  obtain ⟨g', hg', rfl⟩ := Option.map_eq_some_iff.1 hn
  exact rampFrame_ok (h g' (List.mem_of_getElem? hg')) (levelGain_byte_inRange _)

theorem mixStep_ok (s : State) (sources : List Int) (d t : Int) (m : Nat) {x : Mix} (h : MixOk x) :
    MixOk (mixStep s sources d t m x).1 := by
  obtain ⟨hsends, hmaster, hgd, hgt⟩ := h
  exact ⟨sendsFrame_ok hsends, rampFrame_ok hmaster (levelGain_inRange (mixMasterCode_le s m)),
    rampFrame_ok hgd (deskTalkTarget_inRange s m), rampFrame_ok hgt (stageTalkTarget_inRange s m)⟩

theorem length_mixAll (s : State) (sources : List Int) (d t : Int) (m : Nat) (xs : List Mix) :
    (mixAll s sources d t m xs).length = xs.length := by
  induction xs generalizing m with
  | nil => rfl
  | cons x xs ih => simp [mixAll, ih]

theorem getElem?_mixAll (s : State) (sources : List Int) (d t : Int) (m : Nat) (xs : List Mix) (k : Nat) :
    (mixAll s sources d t m xs)[k]? = (xs[k]?).map (mixStep s sources d t (m + k)) := by
  induction xs generalizing m k with
  | nil => rfl
  | cons x xs ih =>
    cases k with
    | zero => rfl
    | succ k =>
      rw [mixAll, List.getElem?_cons_succ, List.getElem?_cons_succ, ih, Nat.add_right_comm]
      rfl

/-- Every mix of a frame is one of the mixes before it, one frame further. -/
theorem mem_mixFrame {postGate : List Int} {x : Mix} (h : x ∈ (mixFrame postGate s).mixes) :
    ∃ y ∈ s.mixes, ∃ sources d t m, x = (mixStep s sources d t m y).1 := by
  obtain ⟨n, hn⟩ := List.mem_iff_getElem?.1 h
  change (List.map Prod.fst (mixAll s _ _ _ 0 s.mixes))[n]? = some x at hn
  rw [List.getElem?_map, getElem?_mixAll, Option.map_map] at hn
  obtain ⟨y, hy, rfl⟩ := Option.map_eq_some_iff.1 hn
  exact ⟨y, List.mem_of_getElem? hy, _, _, _, _, rfl⟩

/-- What holds of a mix whatever its peak and latch holds of every mix after a take. -/
theorem mixes_takeMeters {P : Mix → Prop} (hP : ∀ x, P x → P { x with peak := 0, clip := false })
    (h : ∀ x ∈ s.mixes, P x) : ∀ x ∈ (takeMeters s).mixes, P x := by
  have hclear : ∀ i t, (∀ x ∈ t.mixes, P x) → ∀ x ∈ (clearMeter i t).mixes, P x := by
    intro i t ht
    unfold clearMeter
    split
    · exact ht
    · split
      case h_2 => exact ht
      case h_1 y hy =>
        intro x hx
        rcases List.mem_or_eq_of_mem_set hx with hx | rfl
        · exact ht x hx
        · exact hP y (ht y (List.mem_of_getElem? hy))
  have hgroup := forEach_preserves (P := fun t => ∀ x ∈ t.mixes, P x) hclear (groupIndices s.meters.cursor) h
  intro x hx
  unfold takeMeters at hx
  rw [(noticeIf_keeps _ _ _).part .mixes (by decide)] at hx
  exact hgroup x hx

/-! ## The gates (R6, R11 to R15) -/

theorem channel_ok_of_channelAt {P : Channel → Prop} (hinitial : P .initial) (h : ∀ c ∈ s.channels, P c) (n : Nat) :
    P (channelAt s n) := by
  rcases lt_or_ge n s.channels.length with hlt | hge
  · rw [channelAt, List.getD_eq_getElem _ _ hlt]
    exact h _ (List.getElem_mem hlt)
  · rwa [channelAt, List.getD_eq_default _ _ hge]

theorem GateStep.ok {g g' : Ramp} (h : GateStep g g') (hg : RampOk 0 unity g) : RampOk 0 unity g' := by
  cases h with
  | same => exact hg
  | target v hv => exact rampTarget_ok hg (hv.elim (fun h => h ▸ inRange_zero_unity) (fun h => h ▸ inRange_unity))
  | shut => exact rampForce_ok inRange_zero_unity

theorem gatesOk_channelStep {ok : Nat → Prop} (h : ChannelStep ok s t) (hs : ∀ c ∈ s.channels, RampOk 0 unity c.gate) :
    ∀ c ∈ t.channels, RampOk 0 unity c.gate := by
  cases h with
  | same hchannels => rwa [hchannels]
  | enqueue n => rwa [enqueue_channels]
  | start | idle | absent => exact hs
  | channel n c _ hgate =>
    intro c' hc'
    rcases List.mem_or_eq_of_mem_set hc' with hc' | rfl
    · exact hs c' hc'
    · exact hgate.ok (channel_ok_of_channelAt (P := fun c => RampOk 0 unity c.gate) (rampForce_ok inRange_unity) hs n)

theorem gatesOk_step {audio : Bool} {T : List Part} (h : StateStep audio T s t)
    (hs : ∀ c ∈ s.channels, RampOk 0 unity c.gate) : ∀ c ∈ t.channels, RampOk 0 unity c.gate := by
  have hkept : Part.channels ∉ T → ∀ c ∈ t.channels, RampOk 0 unity c.gate := fun hT => by
    rwa [(h.part .channels hT (by decide) : t.channels = s.channels)]
  cases h with
  | act h => exact h.channelSteps.preserves (fun _ _ => gatesOk_channelStep) hs
  | lanes _ slots =>
    intro c hc
    obtain ⟨c', hc', hgate, -⟩ := mem_chainedChannels (s := s) (slots := slots) hc
    rw [hgate]
    exact rampAdvance_ok (hs c' hc')
  | _ => exact hkept (by decide)

theorem mixesOk_step {audio : Bool} {T : List Part} (h : StateStep audio T s t) (hs : ∀ x ∈ s.mixes, MixOk x) :
    ∀ x ∈ t.mixes, MixOk x := by
  by_cases hT : Part.mixes ∈ T
  case neg => rwa [(h.part .mixes hT (by decide) : t.mixes = s.mixes)]
  cases h with
  | act h =>
    cases h with
    | takeMeters => exact mixes_takeMeters (fun _ => id) hs
    | _ => exact absurd hT (by decide)
  | lanes _ slots =>
    intro x hx
    obtain ⟨y, hy, _, _, _, m, rfl⟩ := mem_mixFrame hx
    exact mixStep_ok _ _ _ _ m (hs y hy)
  | _ => exact absurd hT (by decide)

/-! ## The rejoin gate (R121) -/

theorem startRejoin_ok {d : Deliverer} (h : RampOk 0 unity d.gate) : RampOk 0 unity (startRejoin d).gate := by
  unfold startRejoin
  split
  · exact rampTarget_ok (rampForce_ok inRange_zero_unity) inRange_unity
  · exact h

theorem silenced_gate (new : LinkState) (d : Deliverer) : (silenced new d).gate = d.gate := by
  unfold silenced
  split <;> rfl

theorem changeLink_gate (new : LinkState) (s : State) : (changeLink new s).deliverer.gate = s.deliverer.gate := by
  cases hrole : s.role
  · rw [changeLink_deliverer_desk hrole, silenced_gate]
  · rw [changeLink_deliverer_stage hrole]
    exact silenced_gate new s.deliverer

theorem rejoinGate_step {audio : Bool} {T : List Part} (h : StateStep audio T s t)
    (hs : RampOk 0 unity s.deliverer.gate) : RampOk 0 unity t.deliverer.gate := by
  by_cases hT : Part.deliverer ∈ T
  case neg => rwa [(h.part .deliverer hT (by decide) : t.deliverer = s.deliverer)]
  cases h with
  | act h =>
    cases h with
    | cue _ d hgate => exact hgate ▸ hs
    | silent => exact rampAdvance_ok hs
    | conceal _ d _ hgate => exact (hgate ▸ rampAdvance_ok hs : RampOk 0 unity d.gate)
    | deliver _ d _ _ _ _ _ hgate => exact (hgate ▸ rampAdvance_ok (startRejoin_ok hs) : RampOk 0 unity d.gate)
    | mask => exact hs
    | changeLink _ new => rwa [changeLink_gate]
    | _ => exact absurd hT (by decide)
  | _ => exact absurd hT (by decide)

/-! ## The trim (R132) -/

theorem clampTrim_inRange (d : Int) : -64 ≤ clampTrim d ∧ clampTrim d ≤ 63 := by
  unfold clampTrim saturate
  split_ifs <;> omega

theorem trimOk_of_clock (h : t.clock.trim = s.clock.trim) (hs : TrimOk s) : TrimOk t := by
  unfold TrimOk at *
  rwa [h]

theorem trimOk_endTrimPeriod (h : TrimOk s) : TrimOk (endTrimPeriod s) := by
  unfold endTrimPeriod
  dsimp only
  split_ifs
  · exact clampTrim_inRange _
  · unfold TrimOk
    rw [(writeEvent_keeps _ _ _ _).part .clock (by decide)]
    exact clampTrim_inRange _
  · exact h

theorem trimOk_clockOnLink (old new : LinkState) (h : TrimOk s) : TrimOk (clockOnLink old new s) := by
  have hlocked : TrimOk (enterLocked s) := by
    unfold enterLocked
    split <;> exact h
  have hholdover : TrimOk (enterHoldover s) := trimOk_endTrimPeriod h
  unfold clockOnLink
  split
  · exact hlocked
  · exact hlocked
  · split
    · exact hholdover
    · exact h
  · split
    · exact hholdover
    · exact h
  · exact h

theorem trimOk_changeLink (new : LinkState) (h : TrimOk s) : TrimOk (changeLink new s) := by
  cases hrole : s.role
  · exact trimOk_of_clock (congrArg Clock.trim (changeLink_clock_desk hrole new)) h
  · rw [changeLink_of_stage hrole]
    refine trimOk_clockOnLink _ _ (trimOk_of_clock ?_ h)
    have hbase : (linkBase new s).clock = s.clock := (linkBase_keeps new s).part .clock (by decide)
    dsimp only
    split_ifs <;> exact congrArg Clock.trim hbase

theorem trimOk_step {audio : Bool} {T : List Part} (h : StateStep audio T s t) (hs : TrimOk s) : TrimOk t := by
  by_cases hT : Part.clock ∈ T
  case neg => exact trimOk_of_clock (congrArg Clock.trim (h.part .clock hT (by decide))) hs
  cases h with
  | act h =>
    cases h with
    | changeLink _ new => exact trimOk_changeLink new hs
    | clock _ c hc => exact trimOk_of_clock hc hs
    | endTrimPeriod => exact trimOk_endTrimPeriod hs
    | _ => exact absurd hT (by decide)
  | _ => exact absurd hT (by decide)

/-! ## The frame index (R92) -/

theorem indexOk_step {audio : Bool} {T : List Part} (h : StateStep audio T s t) (hs : IndexOk s) : IndexOk t := by
  by_cases hT : Part.frameIndex ∈ T
  case neg =>
    unfold IndexOk
    rwa [(h.part .frameIndex hT (by decide) : t.frameIndex = s.frameIndex)]
  cases h with
  | act h =>
    cases h with
    | indexZero => exact Nat.zero_le 48
    | indexNext _ hlt => exact hlt
    | _ => exact absurd hT (by decide)
  | _ => exact absurd hT (by decide)

/-- The three ranges, as one invariant. -/
def InRanges (s : State) : Prop := RampsOk s ∧ TrimOk s ∧ IndexOk s

theorem inRanges_step {audio : Bool} {T : List Part} (h : StateStep audio T s t) (hs : InRanges s) : InRanges t := by
  obtain ⟨⟨hgates, hmixes, hrejoin⟩, htrim, hindex⟩ := hs
  exact ⟨⟨gatesOk_step h hgates, mixesOk_step h hmixes, rejoinGate_step h hrejoin⟩, trimOk_step h htrim,
    indexOk_step h hindex⟩

theorem inRanges_initial (role : Role) (losA losB pinLow : Bool) (pending : List Instr) :
    InRanges (.initial role losA losB pinLow pending) := by
  have hzero : RampOk 0 maxGain (.atRest 0) := rampForce_ok inRange_zero_maxGain
  refine ⟨⟨fun c hc => ?_, fun x hx => ?_, rampForce_ok inRange_zero_unity⟩, ⟨?_, ?_⟩, Nat.zero_le 48⟩
  · rw [List.eq_of_mem_replicate hc]
    exact rampForce_ok inRange_unity
  · rw [List.eq_of_mem_replicate hx]
    exact ⟨fun g hg => List.eq_of_mem_replicate hg ▸ hzero, hzero, hzero, hzero⟩
  · norm_num [State.initial]
  · norm_num [State.initial]

/-- Settles O8: gates and gains head for values in their ranges and stay there on the way; the trim is clamped; a frame
begins below 48. -/
theorem rangesInvariant : Obligations.RangesInvariant := fun _ _ hramps htrim hindex h =>
  step_invariant (P := InRanges) inRanges_initial (fun _ _ => id) (fun _ _ _ _ => inRanges_step)
    ⟨hramps, htrim, hindex⟩ h

end Sys2Proof.Machine
end


section
/-! The sizes of the tables (section 9.1 and the tables that open the chapters): each block's operations keep the sizes
of its own tables. -/

namespace Sys2Proof.Machine

variable {s t u : State}

/-- No operation touches the role. -/
theorem StateStep.role {audio : Bool} {T : List Part} (h : StateStep audio T s t) : t.role = s.role :=
  h.keeps .role fun hp => absurd (h.parts_subset hp) (by decide)

/-! ## Channels, chips and mixes -/

theorem channelSizes_channelStep {ok : Nat → Prop} (h : ChannelStep ok s t) :
    t.channels.length = s.channels.length ∧ t.preamp.absent.length = s.preamp.absent.length := by
  cases h with
  | same hchannels hpreamp => rw [hchannels, hpreamp]; exact ⟨rfl, rfl⟩
  | channel => exact ⟨List.length_set, rfl⟩
  | enqueue n => rw [enqueue_channels, enqueue_preamp]; exact ⟨rfl, rfl⟩
  | start => exact ⟨rfl, rfl⟩
  | idle absent _ hlength => exact ⟨rfl, hlength⟩
  | absent absent _ hlength => exact ⟨rfl, hlength⟩

theorem channelSizes_step {audio : Bool} {T : List Part} (h : StateStep audio T s t) :
    t.channels.length = s.channels.length ∧ t.preamp.absent.length = s.preamp.absent.length := by
  have hkept : Part.channels ∉ T → Part.preamp ∉ T →
      t.channels.length = s.channels.length ∧ t.preamp.absent.length = s.preamp.absent.length := fun hc hp =>
    ⟨congrArg List.length (h.part .channels hc (by decide)), congrArg (fun p => p.absent.length) (h.part .preamp hp (by decide))⟩
  cases h with
  | act h =>
    refine h.channelSteps.preserves (P := fun t =>
      t.channels.length = s.channels.length ∧ t.preamp.absent.length = s.preamp.absent.length) ?_ ⟨rfl, rfl⟩
    intro x y hstep hx
    obtain ⟨hchannels, hchips⟩ := channelSizes_channelStep hstep
    exact ⟨hchannels.trans hx.1, hchips.trans hx.2⟩
  | lanes _ slots =>
    refine ⟨?_, congrArg (fun p => p.absent.length) ((stageLanes_keeps slots s).part .preamp (by decide))⟩
    rw [stageLanes, (mixFrame_keeps _ _).part .channels (by decide)]
    exact (List.length_map _).trans (length_inputChain slots s.channels)
  | _ => exact hkept (by decide) (by decide)

theorem length_mixes_clearMeter (i : Nat) (s : State) : (clearMeter i s).mixes.length = s.mixes.length := by
  unfold clearMeter
  split
  · rfl
  · split
    · exact List.length_set
    · rfl

theorem mixSizes_step {audio : Bool} {T : List Part} (h : StateStep audio T s t)
    (hs : ∀ x ∈ s.mixes, x.sends.length = 112) :
    t.mixes.length = s.mixes.length ∧ ∀ x ∈ t.mixes, x.sends.length = 112 := by
  by_cases hT : Part.mixes ∈ T
  case neg =>
    have hsame : t.mixes = s.mixes := h.part .mixes hT (by decide)
    rw [hsame]
    exact ⟨rfl, hs⟩
  cases h with
  | act h =>
    cases h with
    | takeMeters =>
      refine ⟨?_, mixes_takeMeters (fun _ => id) hs⟩
      unfold takeMeters
      rw [(noticeIf_keeps _ _ _).part .mixes (by decide)]
      exact forEach_preserves (P := fun t => t.mixes.length = s.mixes.length)
        (fun i t ht => (length_mixes_clearMeter i t).trans ht) _ rfl
    | _ => exact absurd hT (by decide)
  | lanes _ slots =>
    refine ⟨(List.length_map _).trans (length_mixAll ..), fun x hx => ?_⟩
    obtain ⟨y, hy, _, _, _, _, rfl⟩ := mem_mixFrame hx
    exact (length_sendsFrame ..).trans (hs y hy)
  | _ => exact absurd hT (by decide)

/-! ## Meters -/

@[simp] theorem length_writeWords (table : List Word) (i : Nat) (ws : List Word) :
    (writeWords table i ws).length = table.length := by
  induction ws generalizing table i with
  | nil => rfl
  | cons w ws ih => exact (ih _ _).trans List.length_set

@[simp] theorem length_mergeWords (store : List (Option Word)) (i : Nat) (ws : List Word) :
    (mergeWords store i ws).length = store.length := by
  induction ws generalizing store i with
  | nil => rfl
  | cons w ws ih => exact (ih _ _).trans List.length_set

@[simp] theorem length_releaseWords (table : List Word) (store : List (Option Word)) :
    (releaseWords table store).length = table.length := by
  induction table, store using releaseWords.induct with
  | case1 => rfl
  | case2 => rfl
  | case3 w ws e es ih => exact congrArg Nat.succ ih

/-- The sizes of the meter table and of the pending store are kept. -/
def MeterSizes (s t : State) : Prop :=
  t.meters.table.length = s.meters.table.length ∧ t.meters.store.length = s.meters.store.length

theorem MeterSizes.trans (h : MeterSizes s t) (g : MeterSizes t u) : MeterSizes s u :=
  ⟨g.1.trans h.1, g.2.trans h.2⟩

theorem MeterSizes.after (g : MeterSizes t u) (h : MeterSizes s t) : MeterSizes s u := h.trans g

theorem meterSizes_of_meters (h : t.meters = s.meters) : MeterSizes s t := by
  unfold MeterSizes
  rw [h]
  exact ⟨rfl, rfl⟩

theorem meterSizes_compareCadence (s : State) : MeterSizes s (compareCadence s) := by
  unfold compareCadence
  split <;> exact ⟨rfl, rfl⟩

theorem meterSizes_completeSweep (s : State) : MeterSizes s (completeSweep s) := by
  unfold completeSweep
  dsimp only
  split
  · exact ⟨rfl, rfl⟩
  · exact MeterSizes.after (meterSizes_compareCadence _) ⟨rfl, rfl⟩

theorem meterSizes_writeMeters (p : List Byte) (s : State) : MeterSizes s (writeMeters p s) := by
  unfold writeMeters
  dsimp only
  split_ifs
  · exact MeterSizes.after (meterSizes_completeSweep _) ⟨rfl, length_mergeWords ..⟩
  · exact MeterSizes.after (meterSizes_completeSweep _) ⟨length_writeWords .., rfl⟩
  · exact ⟨rfl, length_mergeWords ..⟩
  · exact ⟨length_writeWords .., rfl⟩
  · exact ⟨rfl, rfl⟩

theorem meterSizes_takeMeters (s : State) : MeterSizes s (takeMeters s) := by
  have hgroup := forEach_preserves (P := MeterSizes s)
    (fun i t ht => ht.trans (meterSizes_of_meters ((clearMeter_keeps i t).part .meters (by decide))))
    (groupIndices s.meters.cursor) ⟨rfl, rfl⟩
  refine MeterSizes.trans ?_ (meterSizes_of_meters ((noticeIf_keeps _ _ _).part .meters (by decide)))
  exact ⟨length_writeWords .., hgroup.2⟩

theorem meterSizes_step {audio : Bool} {T : List Part} (h : StateStep audio T s t) : MeterSizes s t := by
  by_cases hT : Part.meters ∈ T
  case neg => exact meterSizes_of_meters (h.part .meters hT (by decide))
  cases h with
  | act h =>
    cases h with
    | takeMeters => exact meterSizes_takeMeters s
    | writeMeters _ p => exact meterSizes_writeMeters p s
    | _ => exact absurd hT (by decide)
  | hold =>
    exact MeterSizes.trans ⟨length_releaseWords .., List.length_replicate⟩ (meterSizes_compareCadence _)
  | _ => exact absurd hT (by decide)

/-! ## Frames as the ports hold them -/

theorem length_samplesOf (n : Nat) (l : List Byte) (h : l.length = 3 * n) : (samplesOf l).length = n := by
  induction n generalizing l with
  | zero => rw [List.length_eq_zero_iff.1 h]; rfl
  | succ n ih =>
    match l, h with
    | b0 :: b1 :: b2 :: rest, h =>
      have hrest : rest.length = 3 * n := by
        simp only [List.length_cons] at h
        omega
      exact congrArg Nat.succ (ih rest hrest)

theorem length_farContents (role : Role) (bytes : List Byte) : (farContents role bytes).2.length = farSlots role := by
  unfold farContents
  split
  case isFalse => simp
  case isTrue h =>
    cases role with
    | desk => exact length_samplesOf 96 _ (by simp [h, farFrameBytes])
    | stage => exact length_samplesOf 17 _ (by simp [h, farFrameBytes])

theorem length_slots_of_checkFrame {role : Role} {bytes : List Byte} {f : RxFrame}
    (h : checkFrame role bytes = some f) : f.slots.length = farSlots role := by
  unfold checkFrame at h
  dsimp only at h
  split_ifs at h
  obtain rfl := Option.some.inj h
  exact length_farContents role bytes

/-- A buffer of 8 places whose frames hold every far-end slot. -/
def BufferSized (role : Role) (buffer : List (Option RxFrame)) : Prop :=
  buffer.length = 8 ∧ ∀ f, some f ∈ buffer → f.slots.length = farSlots role

theorem bufferSized_step {role : Role} {old new : List (Option RxFrame)} (h : BufferStep role old new)
    (hold : BufferSized role old) : BufferSized role new := by
  cases h with
  | same => exact hold
  | empty => exact ⟨rfl, fun f hf => absurd (List.eq_of_mem_replicate hf) (by simp)⟩
  | file k bytes f hf =>
    refine ⟨List.length_set.trans hold.1, fun g hg => ?_⟩
    rcases List.mem_or_eq_of_mem_set hg with hg | hg
    · exact hold.2 g hg
    · exact Option.some.inj hg ▸ length_slots_of_checkFrame hf

theorem portSizes_step {audio : Bool} {T : List Part} (h : StateStep audio T s t)
    (hs : ∀ p, BufferSized s.role (s.port p).buffer) (p : PortId) : BufferSized s.role (t.port p).buffer := by
  by_cases hT : Part.portA ∈ T ∨ Part.portB ∈ T
  case neg =>
    obtain ⟨hA, hB⟩ := not_or.1 hT
    have hsame : t.port p = s.port p := by
      cases p
      · exact h.part .portA hA (by decide)
      · exact h.part .portB hB (by decide)
    exact hsame ▸ hs p
  cases h with
  | act h =>
    cases h with
    | port _ q v hbuffer =>
      by_cases hpq : p = q
      · subst hpq
        rw [State.setPort_port_same]
        exact bufferSized_step hbuffer (hs p)
      · have hother : (s.setPort q v).port p = s.port p := by
          cases p <;> cases q <;> simp_all [State.setPort, State.port]
        exact hother ▸ hs p
    | _ => exact absurd hT (by decide)
  | _ => exact absurd hT (by decide)

theorem some_mem_of_presentFrame {v : Port} {tag : Nat} {f : RxFrame} (h : presentFrame v tag = some f) :
    some f ∈ v.buffer := by
  unfold presentFrame at h
  split at h
  case h_2 => exact absurd h (by simp)
  case h_1 g hg =>
    split at h
    case isFalse => exact absurd h (by simp)
    obtain rfl := Option.some.inj h
    rw [List.getD_eq_getElem?_getD] at hg
    cases hat : v.buffer[tag % 8]? with
    | none => simp [hat] at hg
    | some o =>
      rw [hat] at hg
      exact hg ▸ List.mem_of_getElem? hat

theorem length_silenced (new : LinkState) (d : Deliverer) : (silenced new d).lastOut.length = d.lastOut.length := by
  unfold silenced
  split
  · exact List.length_replicate
  · rfl

theorem lastOutSize_step {audio : Bool} {T : List Part} (h : StateStep audio T s t)
    (hports : ∀ p, BufferSized s.role (s.port p).buffer) (hs : s.deliverer.lastOut.length = farSlots s.role) :
    t.deliverer.lastOut.length = farSlots s.role := by
  by_cases hT : Part.deliverer ∈ T
  case neg => rwa [(h.part .deliverer hT (by decide) : t.deliverer = s.deliverer)]
  cases h with
  | act h =>
    cases h with
    | cue _ d _ hout => exact (congrArg List.length hout).trans hs
    | silent => exact List.length_replicate.trans hs
    | conceal _ d _ _ hout => exact hout.trans hs
    | deliver _ d p tag f _ hf _ hout => exact hout.trans ((hports p).2 f (some_mem_of_presentFrame hf))
    | mask => exact hs
    | changeLink _ new =>
      cases hrole : s.role <;> rw [hrole] at hs
      · rw [changeLink_deliverer_desk hrole, length_silenced, hs]
      · rw [changeLink_deliverer_stage hrole]
        exact (length_silenced new s.deliverer).trans hs
    | _ => exact absurd hT (by decide)
  | _ => exact absurd hT (by decide)

/-! ## Records -/

@[simp] theorem length_clampContents (r : Nat) (requested : List Byte) : (clampContents r requested).length = 16 := by
  simp [clampContents]

/-- 226 shadow entries of 16 bytes each. -/
def ShadowSized (s : State) : Prop := s.desk.shadow.length = 226 ∧ ∀ e ∈ s.desk.shadow, e.contents.length = 16

theorem shadowSized_of_shadow (h : t.desk.shadow = s.desk.shadow) (hs : ShadowSized s) : ShadowSized t := by
  unfold ShadowSized at *
  rwa [h]

theorem shadowSized_setShadow (r : Nat) {e : Shadow} (he : e.contents.length = 16) (hs : ShadowSized s) :
    ShadowSized (setShadow r e s) := by
  refine ⟨List.length_set.trans hs.1, fun e' he' => ?_⟩
  rcases List.mem_or_eq_of_mem_set he' with he' | rfl
  · exact hs.2 e' he'
  · exact he

theorem length_shadowAt (hs : ShadowSized s) (r : Nat) : (shadowAt s r).contents.length = 16 := by
  rcases lt_or_ge r s.desk.shadow.length with hlt | hge
  · rw [shadowAt, List.getD_eq_getElem _ _ hlt]
    exact hs.2 _ (List.getElem_mem hlt)
  · rw [shadowAt, List.getD_eq_default _ _ hge]
    exact length_defaultContents r

@[simp] theorem adoptDone_desk (s : State) : (adoptDone s).desk = s.desk := (adoptDone_keeps s).part .desk (by decide)

@[simp] theorem leaveAdoption_shadow (r : Nat) (s : State) : (leaveAdoption r s).desk.shadow = s.desk.shadow := by
  unfold leaveAdoption
  dsimp only
  split_ifs
  · rw [adoptDone_desk]
    rfl
  · rfl
  · rfl

theorem ackLists_shadow (d : DeskRepl) (r : Nat) (v w : Word) : (ackLists d r v w).shadow = d.shadow := by
  unfold ackLists
  split
  · split <;> rfl
  · split <;> rfl

theorem beginAdoption_shadow (s : State) : (beginAdoption s).desk.shadow = s.desk.shadow := by
  unfold beginAdoption
  dsimp only
  split
  · rw [adoptDone_desk, State.setDesk_desk]
  · rw [State.setDesk_desk]

theorem markReplay_shadow (s : State) : (markReplay s).desk.shadow = s.desk.shadow := by
  rw [markReplay, State.setDesk_desk]

theorem rejoin_shadow (s : State) : (rejoin s).desk.shadow = s.desk.shadow := by
  unfold rejoin
  dsimp only
  split
  · exact markReplay_shadow _
  · exact beginAdoption_shadow _
  · rfl
  · rfl

theorem linkDesk_shadow (old new : LinkState) (s : State) : (linkDesk old new s).desk.shadow = s.desk.shadow := by
  have hdrop : (dropStageTalk s).desk = s.desk := (dropStageTalk_keeps s).part .desk (by decide)
  unfold linkDesk
  dsimp only
  split_ifs <;> simp [rejoin_shadow, hdrop, returnInFlight]

theorem shadowSized_changeLink (new : LinkState) (hs : ShadowSized s) : ShadowSized (changeLink new s) := by
  cases hrole : s.role
  · refine shadowSized_of_shadow ?_ hs
    rw [changeLink_of_desk hrole, linkDesk_shadow, (linkBase_keeps _ _).part .desk (by decide)]
  · exact shadowSized_of_shadow (congrArg DeskRepl.shadow (changeLink_desk_stage hrole new)) hs

theorem shadowSized_acknowledge (r : Nat) (v : Word) (hs : ShadowSized s) : ShadowSized (acknowledge r v s) := by
  unfold acknowledge
  split
  case isFalse => exact hs
  dsimp only
  refine shadowSized_of_shadow (congrArg DeskRepl.shadow ((syncAfter_keeps _ _).part .desk (by decide))) ?_
  have hset : ShadowSized (setShadow r { shadowAt s r with confirmed := v }
      (s.setDesk (ackLists s.desk r v (shadowAt s r).version))) :=
    shadowSized_setShadow r (length_shadowAt hs r) (shadowSized_of_shadow (ackLists_shadow ..) hs)
  split
  · exact shadowSized_of_shadow (congrArg DeskRepl.shadow ((completeAgainst_keeps _ _).part .desk (by decide))) hset
  · exact hset

theorem shadowSized_step {audio : Bool} {T : List Part} (h : StateStep audio T s t) (hs : ShadowSized s) :
    ShadowSized t := by
  by_cases hT : Part.desk ∈ T
  case neg => exact shadowSized_of_shadow (congrArg DeskRepl.shadow (h.part .desk hT (by decide))) hs
  cases h with
  | act h =>
    cases h with
    | changeLink _ new => exact shadowSized_changeLink new hs
    | push | pull => exact shadowSized_of_shadow rfl hs
    | replay => exact shadowSized_of_shadow (markReplay_shadow s) hs
    | inFlightTimeout =>
      unfold inFlightTimeout
      split
      · exact shadowSized_of_shadow rfl hs
      · exact hs
    | edit _ r requested =>
      refine shadowSized_of_shadow (leaveAdoption_shadow ..) (shadowSized_setShadow r (length_clampContents ..) ?_)
      exact shadowSized_of_shadow rfl hs
    | acknowledge _ r v => exact shadowSized_acknowledge r v hs
    | adopt _ r contents hcontents =>
      unfold adoptReport
      split
      · exact shadowSized_of_shadow (leaveAdoption_shadow ..) (shadowSized_setShadow r hcontents hs)
      · exact hs
    | _ => exact absurd hT (by decide)
  | _ => exact absurd hT (by decide)

/-- 226 live records of 16 bytes each. -/
def LiveSized (s : State) : Prop := s.stage.live.length = 226 ∧ ∀ e ∈ s.stage.live, e.contents.length = 16

theorem liveSized_of_stage (h : t.stage = s.stage) (hs : LiveSized s) : LiveSized t := by
  unfold LiveSized at *
  rwa [h]

/-- The live table after an admitted PUSH (R157). -/
theorem applyPush_stage (r : Nat) (v : Word) (contents : List Byte) (s : State) :
    (applyPush r v contents s).stage =
      { live := s.stage.live.set r { contents := clampContents r contents, version := v, stamp := s.superframe },
        fresh := false } := by
  unfold applyPush
  dsimp only
  rw [(enqueueReply_keeps _ _).part .stage (by decide)]
  split
  · rw [(applyChannelRecord_keeps _ _ _ _).part .stage (by decide)]
    rfl
  · rfl

theorem liveSized_step {audio : Bool} {T : List Part} (h : StateStep audio T s t) (hs : LiveSized s) :
    LiveSized t := by
  by_cases hT : Part.stage ∈ T
  case neg => exact liveSized_of_stage (h.part .stage hT (by decide)) hs
  cases h with
  | act h =>
    cases h with
    | receivePush _ r v contents =>
      unfold receivePush
      split
      case isFalse => exact hs
      unfold LiveSized
      rw [applyPush_stage]
      refine ⟨List.length_set.trans hs.1, fun e he => ?_⟩
      rcases List.mem_or_eq_of_mem_set he with he | rfl
      · exact hs.2 e he
      · exact length_clampContents ..
    | _ => exact absurd hT (by decide)
  | _ => exact absurd hT (by decide)

/-! ## The accepted records and the event ring -/

theorem length_accepted_completeIfAgainst (r i : Nat) (s : State) :
    (completeIfAgainst r i s).scanner.accepted.length = s.scanner.accepted.length := by
  unfold completeIfAgainst
  split
  · split
    · exact List.length_set
    · rfl
  · rfl

theorem length_accepted_completeAgainst (r : Nat) (s : State) :
    (completeAgainst r s).scanner.accepted.length = s.scanner.accepted.length := by
  unfold completeAgainst
  generalize List.range 32 = l
  exact forEach_preserves (P := fun t => t.scanner.accepted.length = s.scanner.accepted.length)
    (fun i t ht => (length_accepted_completeIfAgainst r i t).trans ht) l rfl

theorem length_accepted_acknowledge (r : Nat) (v : Word) (s : State) :
    (acknowledge r v s).scanner.accepted.length = s.scanner.accepted.length := by
  unfold acknowledge
  split
  case isFalse => rfl
  dsimp only
  rw [(syncAfter_keeps _ _).part .scanner (by decide)]
  split
  · rw [length_accepted_completeAgainst]
    rfl
  · rfl

theorem acceptedSize_step {audio : Bool} {T : List Part} (h : StateStep audio T s t) :
    t.scanner.accepted.length = s.scanner.accepted.length := by
  by_cases hT : Part.scanner ∈ T
  case neg => rw [(h.part .scanner hT (by decide) : t.scanner = s.scanner)]
  cases h with
  | act h =>
    cases h with
    | acknowledge _ r v => exact length_accepted_acknowledge r v s
    | accept | drop => exact List.length_set
    | scanner _ c hc => exact congrArg List.length hc
    | _ => exact absurd hT (by decide)
  | _ => exact absurd hT (by decide)

theorem ringSize_step {audio : Bool} {T : List Part} (h : StateStep audio T s t) :
    t.ring.records.length = s.ring.records.length := by
  cases h with
  | act h => exact h.beside.ring
  | lanes _ slots => rw [(stageLanes_keeps slots s).part .ring (by decide)]
  | hold => rw [(releaseHold_keeps s).part .ring (by decide)]
  | registers | board => rfl

/-! ## All sizes -/

theorem sized_step {audio : Bool} {T : List Part} (h : StateStep audio T s t) (hs : Sized s) : Sized t := by
  have hports : ∀ p, BufferSized s.role (s.port p).buffer := fun p => by
    cases p
    · exact ⟨hs.bufferA, hs.slotsA⟩
    · exact ⟨hs.bufferB, hs.slotsB⟩
  obtain ⟨hchannels, hchips⟩ := channelSizes_step h
  obtain ⟨hmixes, hsends⟩ := mixSizes_step h hs.sends
  obtain ⟨htable, hstore⟩ := meterSizes_step h
  obtain ⟨hbufferA, hslotsA⟩ := portSizes_step h hports .a
  obtain ⟨hbufferB, hslotsB⟩ := portSizes_step h hports .b
  obtain ⟨hshadow, hshadowBytes⟩ := shadowSized_step h ⟨hs.shadow, hs.shadowBytes⟩
  obtain ⟨hlive, hliveBytes⟩ := liveSized_step h ⟨hs.live, hs.liveBytes⟩
  exact
    { channels := hchannels.trans hs.channels
      chips := hchips.trans hs.chips
      mixes := hmixes.trans hs.mixes
      sends := hsends
      meters := htable.trans hs.meters
      store := hstore.trans hs.store
      bufferA := hbufferA
      bufferB := hbufferB
      slotsA := h.role ▸ hslotsA
      slotsB := h.role ▸ hslotsB
      lastOut := h.role ▸ lastOutSize_step h hports hs.lastOut
      shadow := hshadow
      shadowBytes := hshadowBytes
      live := hlive
      liveBytes := hliveBytes
      accepted := (acceptedSize_step h).trans hs.accepted
      ring := (ringSize_step h).trans hs.ring }

theorem sized_initial (role : Role) (losA losB pinLow : Bool) (pending : List Instr) :
    Sized (.initial role losA losB pinLow pending) := by
  have hdefault : ∀ {α : Type} (f : Nat → α) (contents : α → List Byte), (∀ r, contents (f r) = defaultContents r) →
      ∀ e ∈ (List.range 226).map f, (contents e).length = 16 := by
    intro α f contents hf e he
    obtain ⟨r, -, rfl⟩ := List.mem_map.1 he
    rw [hf, length_defaultContents]
  have hempty : ∀ f : RxFrame, some f ∈ List.replicate 8 (none : Option RxFrame) → f.slots.length = farSlots role :=
    fun f hf => absurd (List.eq_of_mem_replicate hf) (by simp)
  exact
    { channels := List.length_replicate
      chips := List.length_replicate
      mixes := List.length_replicate
      sends := fun x hx => List.eq_of_mem_replicate hx ▸ List.length_replicate
      meters := List.length_replicate
      store := List.length_replicate
      bufferA := List.length_replicate
      bufferB := List.length_replicate
      slotsA := hempty
      slotsB := hempty
      lastOut := List.length_replicate
      shadow := (List.length_map _).trans List.length_range
      shadowBytes := hdefault (fun r => (⟨defaultContents r, 0, 0, 0⟩ : Shadow)) Shadow.contents fun _ => rfl
      live := (List.length_map _).trans List.length_range
      liveBytes := hdefault (fun r => (⟨defaultContents r, 0, 0⟩ : Live)) Live.contents fun _ => rfl
      accepted := List.length_replicate
      ring := List.length_replicate }

/-- Settles O9: every operation writes its tables in place. -/
theorem sizesInvariant : Obligations.SizesInvariant := fun _ _ hs h =>
  step_invariant sized_initial (fun _ _ hs => { hs with }) (fun _ _ _ _ => sized_step) hs h

end Sys2Proof.Machine
end


section
/-! What DOWN, LOST and LINKED mean for the mask in use, the island and the far-end audio (R51, R68, R120). -/

namespace Sys2Proof.Machine

variable {s t u : State}

/-- The three meanings of the link state, as one invariant. -/
def LinkMeans (s : State) : Prop := MaskOk s ∧ IslandOk s ∧ SilentOk s

theorem islandHold_of_stage (h : t.stage = s.stage) : islandHold t = islandHold s := by
  unfold islandHold liveByte liveContents
  rw [h]

theorem islandHold_le (s : State) : islandHold s ≤ 255 := Nat.le_of_lt_succ (BitVec.isLt _)

theorem maskOk_of_same (hrole : t.role = s.role) (hlink : t.link.state = s.link.state)
    (hmask : t.deliverer.maskInUse = s.deliverer.maskInUse) (hs : MaskOk s) : MaskOk t := by
  unfold MaskOk at *
  rwa [hrole, hlink, hmask]

theorem silentOk_of_same (hlink : t.link.state = s.link.state)
    (hout : t.deliverer.lastOut = s.deliverer.lastOut) (hs : SilentOk s) : SilentOk t := by
  unfold SilentOk at *
  rwa [hlink, hout]

theorem islandOk_of_same (hrole : t.role = s.role) (hlink : t.link.state = s.link.state)
    (hisland : t.island = s.island) (hhold : islandHold t = islandHold s) (hs : IslandOk s) : IslandOk t := by
  unfold IslandOk islandElapsed at *
  rwa [hrole, hlink, hisland, hhold]

/-- Outside the silent states the far-end slots are free. -/
theorem silentOk_of_not_silent (h : isSilent t.link.state = false) : SilentOk t := by
  rintro (hlink | hlink) <;> rw [hlink] at h <;> cases h

theorem islandOk_of_not_engaged (h : t.island.engaged = false) : IslandOk t := fun hengaged =>
  absurd (hengaged.symm.trans h) (by decide)

/-! ## The island (R50, R51) -/

theorem islandOk_engageIsland (hs : IslandOk s) : IslandOk (engageIsland s) := by
  unfold engageIsland
  split
  case isFalse => exact hs
  case isTrue hdue =>
    simp only [islandDue, Bool.and_eq_true, beq_iff_eq, bne_iff_ne, decide_eq_true_eq] at hdue
    obtain ⟨⟨⟨⟨hrole, hlink⟩, -⟩, hhold⟩, helapsed⟩ := hdue
    have hkeeps := writeEvent_keeps .islandDim (islandHold s) (BitVec.ofNat 32 (islandDim s))
      (s.setIsland { s.island with engaged := true })
    intro _
    refine ⟨(hkeeps.part .role (by decide)).trans hrole, ?_, ?_, ?_⟩
    · rw [hkeeps.part .link (by decide)]
      exact hlink
    · rw [islandHold_of_stage (hkeeps.part .stage (by decide))]
      exact hhold
    · rw [islandHold_of_stage (hkeeps.part .stage (by decide)), islandElapsed, hkeeps.part .island (by decide)]
      exact helapsed

/-- The timer stands at 255,000 only past every hold. -/
theorem islandOk_countIsland (hs : IslandOk s) : IslandOk (countIsland s) := by
  unfold countIsland
  split
  case isFalse => exact hs
  case isTrue =>
    intro hengaged
    obtain ⟨hrole, hlink, hhold, helapsed⟩ := hs hengaged
    refine ⟨hrole, hlink, hhold, ?_⟩
    have hle := islandHold_le s
    change islandHold s ≤ min 255000 (s.island.count + 1) / 1000
    unfold islandElapsed at helapsed
    omega

/-! ## A change of link state -/

theorem islandAfter_not_engaged (old new : LinkState) {i : Island} (h : i.engaged = true → old = .lost) :
    (islandAfter old new i).engaged = false := by
  unfold islandAfter
  by_cases hold : old = .lost
  · rw [if_pos hold]
    split <;> rfl
  · rw [if_neg hold]
    have hnot : i.engaged = false := Bool.eq_false_iff.2 fun hengaged => hold (h hengaged)
    split <;> exact hnot

theorem silenced_lastOut {new : LinkState} (h : isSilent new = true) (d : Deliverer) :
    ∀ x ∈ (silenced new d).lastOut, x = 0 := by
  rw [silenced, if_pos h]
  exact fun x => List.eq_of_mem_replicate

theorem silenced_maskInUse (new : LinkState) (d : Deliverer) : (silenced new d).maskInUse = d.maskInUse := by
  unfold silenced
  split <;> rfl

/-- A change of link state leaves no mask in use and no island engaged, and entering a silent state zeroes the far-end
slots. -/
theorem linkMeans_changeLink (new : LinkState) (hs : LinkMeans s) : LinkMeans (changeLink new s) := by
  obtain ⟨hmask, hisland, -⟩ := hs
  have hsilent : ∀ {d : Deliverer}, (changeLink new s).deliverer.lastOut = (silenced new d).lastOut →
      SilentOk (changeLink new s) := by
    intro d hd hlink
    rw [changeLink_link, linkAfter_state] at hlink
    rw [hd]
    exact silenced_lastOut (by rcases hlink with rfl | rfl <;> rfl) d
  cases hrole : s.role
  case desk =>
    have hnot : s.island.engaged = false := Bool.eq_false_iff.2 fun h => by
      obtain ⟨hstage, -⟩ := hisland h
      exact absurd (hrole.symm.trans hstage) (by decide)
    have hdeliverer := changeLink_deliverer_desk hrole new
    refine ⟨fun _ => ?_, islandOk_of_not_engaged ?_, hsilent (d := s.deliverer) (congrArg Deliverer.lastOut hdeliverer)⟩
    · rw [hdeliverer, silenced_maskInUse]
      exact hmask (.inl hrole)
    · rwa [changeLink_island_desk hrole]
  case stage =>
    have hdeliverer := changeLink_deliverer_stage hrole new
    refine ⟨fun _ => ?_, islandOk_of_not_engaged ?_, hsilent (d := s.deliverer) (by rw [hdeliverer])⟩
    · rw [hdeliverer]
    · rw [changeLink_island_stage hrole]
      exact islandAfter_not_engaged _ _ fun h => (hisland h).2.1

/-- A PUSH is applied while LINKED alone, where no island is engaged. -/
theorem linkMeans_receivePush (r : Nat) (v : Word) (contents : List Byte) (hs : LinkMeans s) :
    LinkMeans (receivePush r v contents s) := by
  obtain ⟨hmask, hisland, hsilent⟩ := hs
  have hkeeps := receivePush_keeps r v contents s
  have hlink : (receivePush r v contents s).link = s.link := hkeeps.part .link (by decide)
  have hdeliverer : (receivePush r v contents s).deliverer = s.deliverer := hkeeps.part .deliverer (by decide)
  refine ⟨maskOk_of_same (hkeeps.part .role (by decide)) (congrArg Link.state hlink)
    (congrArg Deliverer.maskInUse hdeliverer) hmask, ?_, silentOk_of_same (congrArg Link.state hlink)
    (congrArg Deliverer.lastOut hdeliverer) hsilent⟩
  by_cases hadmitted : s.role = .stage ∧ s.link.state = .linked ∧ r < recordCount
  case neg =>
    rw [receivePush, if_neg hadmitted]
    exact hisland
  case pos =>
    refine islandOk_of_not_engaged ?_
    rw [(hkeeps.part .island (by decide) : (receivePush r v contents s).island = s.island)]
    refine Bool.eq_false_iff.2 fun h => ?_
    obtain ⟨-, hlost, -⟩ := hisland h
    exact absurd (hadmitted.2.1.symm.trans hlost) (by decide)

/-! ## Every step -/

theorem linkMeans_step {audio : Bool} {T : List Part} (h : StateStep audio T s t) (hs : LinkMeans s) :
    LinkMeans t := by
  obtain ⟨hmask, hisland, hsilent⟩ := hs
  by_cases hT : Part.link ∈ T ∨ Part.island ∈ T ∨ Part.stage ∈ T ∨ Part.deliverer ∈ T
  case neg =>
    obtain ⟨hnlink, hnisland, hnstage, hndeliverer⟩ : _ ∧ _ ∧ _ ∧ _ := by simpa only [not_or] using hT
    have hlink : t.link.state = s.link.state := congrArg Link.state (h.part .link hnlink (by decide))
    have hdeliverer : t.deliverer = s.deliverer := h.part .deliverer hndeliverer (by decide)
    exact ⟨maskOk_of_same h.role hlink (congrArg Deliverer.maskInUse hdeliverer) hmask,
      islandOk_of_same h.role hlink (h.part .island hnisland (by decide))
        (islandHold_of_stage (h.part .stage hnstage (by decide))) hisland,
      silentOk_of_same hlink (congrArg Deliverer.lastOut hdeliverer) hsilent⟩
  cases h with
  | act h =>
    cases h with
    | engageIsland =>
      have hkeeps := engageIsland_keeps s
      have hlink := congrArg Link.state (hkeeps.part .link (by decide))
      have hdeliverer : (engageIsland s).deliverer = s.deliverer := hkeeps.part .deliverer (by decide)
      exact ⟨maskOk_of_same (hkeeps.part .role (by decide)) hlink (congrArg Deliverer.maskInUse hdeliverer) hmask,
        islandOk_engageIsland hisland, silentOk_of_same hlink (congrArg Deliverer.lastOut hdeliverer) hsilent⟩
    | countIsland =>
      have hkeeps := countIsland_keeps s
      have hlink := congrArg Link.state (hkeeps.part .link (by decide))
      have hdeliverer : (countIsland s).deliverer = s.deliverer := hkeeps.part .deliverer (by decide)
      exact ⟨maskOk_of_same (hkeeps.part .role (by decide)) hlink (congrArg Deliverer.maskInUse hdeliverer) hmask,
        islandOk_countIsland hisland, silentOk_of_same hlink (congrArg Deliverer.lastOut hdeliverer) hsilent⟩
    | cue _ d _ hout hmaskd =>
      exact ⟨maskOk_of_same (s := s) rfl rfl hmaskd hmask, hisland, silentOk_of_same (s := s) rfl hout hsilent⟩
    | silent => exact ⟨hmask, hisland, fun _ x => List.eq_of_mem_replicate⟩
    | conceal _ d hlink _ _ hmaskd =>
      exact ⟨maskOk_of_same (s := s) rfl rfl hmaskd hmask, hisland, silentOk_of_not_silent hlink⟩
    | deliver _ d _ _ _ hlink _ _ _ hmaskd =>
      exact ⟨maskOk_of_same (s := s) rfl rfl hmaskd hmask, hisland, silentOk_of_not_silent hlink⟩
    | mask _ m hrole hlink =>
      refine ⟨fun hwhere => ?_, hisland, hsilent⟩
      rcases hwhere with hdesk | hout
      · exact absurd (hrole.symm.trans hdesk) (by decide)
      · exact absurd hlink hout
    | link _ l hstate =>
      exact ⟨maskOk_of_same (s := s) rfl hstate rfl hmask, islandOk_of_same (s := s) rfl hstate rfl rfl hisland,
        silentOk_of_same (s := s) hstate rfl hsilent⟩
    | changeLink _ new => exact linkMeans_changeLink new ⟨hmask, hisland, hsilent⟩
    | receivePush _ r v contents => exact linkMeans_receivePush r v contents ⟨hmask, hisland, hsilent⟩
    | _ => exact absurd hT (by decide)
  | _ => exact absurd hT (by decide)

theorem linkMeans_initial (role : Role) (losA losB pinLow : Bool) (pending : List Instr) :
    LinkMeans (.initial role losA losB pinLow pending) :=
  ⟨fun _ => rfl, islandOk_of_not_engaged rfl, fun _ _ => List.eq_of_mem_replicate⟩

/-- Settles O7: the meanings of the link state are set where it changes (`linkMeans_changeLink`), and the operations
that could break one are not taken in the states that have it. -/
theorem linkStateInvariant : Obligations.LinkStateInvariant := fun _ _ hmask hisland hsilent h =>
  step_invariant (P := LinkMeans) linkMeans_initial (fun _ _ => id) (fun _ _ _ _ => linkMeans_step)
    ⟨hmask, hisland, hsilent⟩ h

end Sys2Proof.Machine
end


section
/-! The desk's lists and the accepted records (R139 to R151, R142): what each operation of the desk makes of the lists,
and that an accepted record never outlives its record's turn in them. -/

namespace Sys2Proof.Machine

variable {s t u : State} {d : DeskRepl}

/-! ## The dirty list (R139) -/

theorem mem_appendDirty {l : List Nat} {r x : Nat} : x ∈ appendDirty l r ↔ x ∈ l ∨ x = r := by
  unfold appendDirty
  split
  case isTrue h => exact ⟨.inl, fun hx => hx.elim id fun hr => hr ▸ h⟩
  case isFalse => simp

theorem nodup_appendDirty {l : List Nat} (h : l.Nodup) (r : Nat) : (appendDirty l r).Nodup := by
  unfold appendDirty
  split
  case isTrue => exact h
  case isFalse hr => exact List.nodup_append.2 ⟨h, List.nodup_singleton r, fun x hx y hy hxy =>
      hr (by rwa [← List.mem_singleton.1 hy, ← hxy])⟩

theorem mem_appendAllDirty {l rs : List Nat} {x : Nat} : x ∈ appendAllDirty l rs ↔ x ∈ l ∨ x ∈ rs := by
  unfold appendAllDirty
  induction rs generalizing l with
  | nil => simp
  | cons r rs ih => rw [List.foldl_cons, ih, mem_appendDirty, List.mem_cons, or_assoc]

theorem nodup_appendAllDirty {l : List Nat} (h : l.Nodup) (rs : List Nat) : (appendAllDirty l rs).Nodup := by
  unfold appendAllDirty
  induction rs generalizing l with
  | nil => exact h
  | cons r rs ih => exact ih (nodup_appendDirty h r)

theorem isDirty_iff {r : Nat} : isDirty d r = true ↔ r ∈ d.dirty := by simp [isDirty]

theorem isInFlight_iff {r : Nat} : isInFlight d r = true ↔ ∃ e ∈ d.inFlight, e.record = r := by simp [isInFlight]

theorem isAdopting_iff {r : Nat} : isAdopting d r = true ↔ ∃ e ∈ d.adoption, e.record = r := by simp [isAdopting]

theorem isDirty_eq_false_iff {r : Nat} : isDirty d r = false ↔ r ∉ d.dirty := by
  rw [← Bool.not_eq_true, isDirty_iff]

theorem isInFlight_eq_false_iff {r : Nat} : isInFlight d r = false ↔ ∀ e ∈ d.inFlight, e.record ≠ r := by
  rw [← Bool.not_eq_true, isInFlight_iff]
  push Not
  rfl

/-! ## The lists of one desk -/

/-- What `ListsOk` says of the desk's tables alone. -/
structure DeskOk (d : DeskRepl) : Prop where
  dirtyOnce : d.dirty.Nodup
  dirtyIds : ∀ r ∈ d.dirty, r < recordCount
  flightOnce : (d.inFlight.map InFlight.record).Nodup
  flightIds : ∀ e ∈ d.inFlight, e.record < recordCount
  flightCount : d.inFlight.length ≤ 8
  adoptingIds : ∀ e ∈ d.adoption, e.record < recordCount
  adoptingClear : ∀ e ∈ d.adoption, isDirty d e.record = false ∧ isInFlight d e.record = false

/-- Nothing is in flight outside LINKED and a bridge from it, nor at the stage. -/
structure FlightOk (s : State) : Prop where
  link : ¬ mayFly s.link → s.desk.inFlight = []
  role : s.role = .stage → s.desk.inFlight = []

theorem listsOk_iff (s : State) : ListsOk s ↔ DeskOk s.desk ∧ FlightOk s :=
  ⟨fun h => ⟨⟨h.dirtyOnce, h.dirtyIds, h.flightOnce, h.flightIds, h.flightCount, h.adoptingIds, h.adoptingClear⟩,
      ⟨h.flightLink, h.flightRole⟩⟩,
    fun ⟨h, g⟩ => ⟨h.dirtyOnce, h.dirtyIds, h.flightOnce, h.flightIds, h.flightCount, h.adoptingIds, h.adoptingClear,
      g.link, g.role⟩⟩

/-- A record waits to be sent or to be answered. -/
def Tracked (d : DeskRepl) (r : Nat) : Prop := isDirty d r = true ∨ isInFlight d r = true

/-- Every record that waits still does. -/
def Tracks (d d' : DeskRepl) : Prop := ∀ r, Tracked d r → Tracked d' r

theorem tracked_iff {r : Nat} : Tracked d r ↔ r ∈ d.dirty ∨ ∃ e ∈ d.inFlight, e.record = r := by
  rw [Tracked, isDirty_iff, isInFlight_iff]

/-- No member of the adoption set waits. -/
theorem DeskOk.adopting_not_tracked (h : DeskOk d) {e : Adoptee} (he : e ∈ d.adoption) : ¬ Tracked d e.record := by
  obtain ⟨hdirty, hflight⟩ := h.adoptingClear e he
  rw [Tracked, hdirty, hflight]
  simp

theorem DeskOk.of_same {d' : DeskRepl} (h : DeskOk d) (hdirty : d'.dirty = d.dirty)
    (hflight : d'.inFlight = d.inFlight) (hadoption : d'.adoption = d.adoption) : DeskOk d' := by
  obtain ⟨h1, h2, h3, h4, h5, h6, h7⟩ := h
  constructor <;> simpa only [isDirty, isInFlight, hdirty, hflight, hadoption]

theorem Tracks.of_same {d' : DeskRepl} (hdirty : d'.dirty = d.dirty) (hflight : d'.inFlight = d.inFlight) :
    Tracks d d' := fun r h => by
  rwa [Tracked, isDirty, isInFlight, hdirty, hflight]

theorem Tracks.trans {d' d'' : DeskRepl} (h : Tracks d d') (g : Tracks d' d'') : Tracks d d'' := fun r hr => g r (h r hr)

/-- A smaller adoption set, its members as they were but for their pulls. -/
theorem DeskOk.of_adoption {l : List Adoptee} (h : DeskOk d)
    (hl : ∀ e ∈ l, ∃ e' ∈ d.adoption, e'.record = e.record) : DeskOk { d with adoption := l } where
  dirtyOnce := h.dirtyOnce
  dirtyIds := h.dirtyIds
  flightOnce := h.flightOnce
  flightIds := h.flightIds
  flightCount := h.flightCount
  adoptingIds := fun e he => by
    obtain ⟨e', he', hrecord⟩ := hl e he
    exact hrecord ▸ h.adoptingIds e' he'
  adoptingClear := fun e he => by
    obtain ⟨e', he', hrecord⟩ := hl e he
    exact hrecord ▸ h.adoptingClear e' he'

/-- More dirty records, none of them in the adoption set. -/
theorem DeskOk.of_dirty {l : List Nat} (h : DeskOk d) (honce : l.Nodup) (hids : ∀ r ∈ l, r < recordCount)
    (hclear : ∀ e ∈ d.adoption, e.record ∉ l) : DeskOk { d with dirty := l } where
  dirtyOnce := honce
  dirtyIds := hids
  flightOnce := h.flightOnce
  flightIds := h.flightIds
  flightCount := h.flightCount
  adoptingIds := h.adoptingIds
  adoptingClear := fun e he => ⟨isDirty_eq_false_iff.2 (hclear e he), (h.adoptingClear e he).2⟩

/-- Fewer entries in flight. -/
theorem DeskOk.of_inFlight {l : List InFlight} (h : DeskOk d) (hl : l.Sublist d.inFlight) :
    DeskOk { d with inFlight := l } where
  dirtyOnce := h.dirtyOnce
  dirtyIds := h.dirtyIds
  flightOnce := h.flightOnce.sublist (hl.map InFlight.record)
  flightIds := fun e he => h.flightIds e (hl.subset he)
  flightCount := hl.length_le.trans h.flightCount
  adoptingIds := h.adoptingIds
  adoptingClear := fun e he => ⟨(h.adoptingClear e he).1, isInFlight_eq_false_iff.2 fun x hx =>
    isInFlight_eq_false_iff.1 (h.adoptingClear e he).2 x (hl.subset hx)⟩

/-! ## The operations on the lists -/

/-- The adoption set loses a record; with no such member it is as it was (R148). -/
theorem leaveAdoption_desk (r : Nat) (s : State) :
    (leaveAdoption r s).desk = { s.desk with adoption := s.desk.adoption.filter fun e => e.record != r } := by
  unfold leaveAdoption
  dsimp only
  split_ifs with hmember hlast
  · rw [adoptDone_desk, State.setDesk_desk]
  · rw [State.setDesk_desk]
  · have hall : s.desk.adoption.filter (fun e => e.record != r) = s.desk.adoption := by
      refine List.filter_eq_self.2 fun e he => ?_
      rw [isAdopting_iff] at hmember
      simpa using fun hrecord => hmember ⟨e, he, hrecord⟩
    rw [hall]

/-- The desk's tables after an edit (R137). -/
theorem editRecord_desk (r : Nat) (requested : List Byte) (s : State) :
    (editRecord r requested s).desk = { s.desk with
      shadow := s.desk.shadow.set r
        { contents := clampContents r requested, version := s.desk.counter,
          confirmed := (shadowAt s r).confirmed, stamp := s.superframe }
      counter := nextVersion s.desk.counter
      adoption := s.desk.adoption.filter fun e => e.record != r
      dirty := appendDirty s.desk.dirty r } := by
  simp only [editRecord, State.setDesk_desk, leaveAdoption_desk, setShadow]

theorem deskOk_edit {r : Nat} (hr : r < recordCount) (requested : List Byte) (h : DeskOk s.desk) :
    DeskOk (editRecord r requested s).desk := by
  have hleft : DeskOk { s.desk with adoption := s.desk.adoption.filter fun e => e.record != r } :=
    h.of_adoption fun e he => ⟨e, List.mem_of_mem_filter he, rfl⟩
  have hjoined := hleft.of_dirty (l := appendDirty s.desk.dirty r) (nodup_appendDirty h.dirtyOnce r)
    (fun x hx => (mem_appendDirty.1 hx).elim (h.dirtyIds x) fun hxr => hxr ▸ hr) fun e he hmem => by
      obtain ⟨hmember, hne⟩ := List.mem_filter.1 he
      rcases mem_appendDirty.1 hmem with hdirty | hsame
      · exact isDirty_eq_false_iff.1 (h.adoptingClear e hmember).1 hdirty
      · simp [hsame] at hne
  rw [editRecord_desk]
  exact hjoined.of_same rfl rfl rfl

theorem tracks_edit (r : Nat) (requested : List Byte) (s : State) : Tracks s.desk (editRecord r requested s).desk := by
  intro x hx
  rw [editRecord_desk]
  rw [tracked_iff] at hx ⊢
  exact hx.imp_left fun h => mem_appendDirty.2 (.inl h)

theorem markReplay_desk (s : State) : (markReplay s).desk = { s.desk with
    adoption := [], dirty := appendAllDirty s.desk.dirty (List.range recordCount) } := by
  rw [markReplay, State.setDesk_desk]

theorem deskOk_replay (h : DeskOk s.desk) : DeskOk (markReplay s).desk := by
  have hemptied : DeskOk { s.desk with adoption := [] } := h.of_adoption fun e he => absurd he List.not_mem_nil
  rw [markReplay_desk]
  have hids : ∀ x ∈ List.range recordCount, x < recordCount := fun x => List.mem_range.1
  generalize List.range recordCount = l at hids ⊢
  exact hemptied.of_dirty (l := appendAllDirty s.desk.dirty l) (nodup_appendAllDirty h.dirtyOnce _)
    (fun x hx => (mem_appendAllDirty.1 hx).elim (h.dirtyIds x) (hids x)) fun e he => absurd he List.not_mem_nil

theorem tracks_replay (s : State) : Tracks s.desk (markReplay s).desk := by
  intro x hx
  rw [markReplay_desk]
  generalize List.range recordCount = l
  rw [tracked_iff] at hx ⊢
  exact hx.imp_left fun h => mem_appendAllDirty.2 (.inl h)

/-- The first dirty record with nothing in flight (R140). -/
theorem pushCandidate_spec {r : Nat} (h : pushCandidate d = some r) :
    r ∈ d.dirty ∧ ∀ e ∈ d.inFlight, e.record ≠ r :=
  ⟨List.mem_of_find?_eq_some h, isInFlight_eq_false_iff.1 (by simpa using List.find?_some h)⟩

theorem deskOk_push {r : Nat} (h : DeskOk s.desk) (hcount : s.desk.inFlight.length < 8)
    (hr : pushCandidate s.desk = some r) : DeskOk (beginPush r s).desk := by
  obtain ⟨hdirty, hfree⟩ := pushCandidate_spec hr
  have hsub : (s.desk.dirty.erase r).Sublist s.desk.dirty := List.erase_sublist
  refine ⟨h.dirtyOnce.sublist hsub, fun x hx => h.dirtyIds x (hsub.subset hx), ?_, ?_, ?_, h.adoptingIds, ?_⟩
  · change ((s.desk.inFlight ++ [_]).map InFlight.record).Nodup
    rw [List.map_append, List.nodup_append]
    refine ⟨h.flightOnce, List.nodup_singleton _, ?_⟩
    intro x hx y hy
    obtain ⟨e, he, rfl⟩ := List.mem_map.1 hx
    rw [List.mem_singleton.1 hy]
    exact hfree e he
  · intro e he
    rcases List.mem_append.1 he with he | he
    · exact h.flightIds e he
    · exact List.mem_singleton.1 he ▸ h.dirtyIds r hdirty
  · simpa [beginPush] using hcount
  · intro e he
    obtain ⟨hclean, hquiet⟩ := h.adoptingClear e he
    have hne : e.record ≠ r := fun hsame => isDirty_eq_false_iff.1 hclean (hsame ▸ hdirty)
    refine ⟨isDirty_eq_false_iff.2 fun hmem => isDirty_eq_false_iff.1 hclean (hsub.subset hmem),
      isInFlight_eq_false_iff.2 fun x hx => ?_⟩
    rcases List.mem_append.1 hx with hx | hx
    · exact isInFlight_eq_false_iff.1 hquiet x hx
    · exact List.mem_singleton.1 hx ▸ hne.symm

theorem tracks_push (r : Nat) (s : State) : Tracks s.desk (beginPush r s).desk := by
  intro x hx
  rw [tracked_iff] at hx ⊢
  rcases hx with hx | ⟨e, he, hrecord⟩
  · by_cases hxr : x = r
    · exact .inr ⟨_, List.mem_append_right _ List.mem_cons_self, hxr.symm⟩
    · exact .inl ((List.mem_erase_of_ne hxr).2 hx)
  · exact .inr ⟨e, List.mem_append_left _ he, hrecord⟩

/-- An unanswered PUSH is given up, or nothing happens (R143). -/
theorem inFlightTimeout_cases (s : State) :
    (inFlightTimeout s).desk = s.desk ∨ ∃ e ∈ s.desk.inFlight, (inFlightTimeout s).desk = { s.desk with
      inFlight := s.desk.inFlight.erase e, dirty := appendDirty s.desk.dirty e.record } := by
  unfold inFlightTimeout
  split
  case h_1 e _ hfound => exact .inr ⟨e, List.mem_of_find?_eq_some hfound, rfl⟩
  case h_2 => exact .inl rfl

theorem deskOk_inFlightTimeout (h : DeskOk s.desk) : DeskOk (inFlightTimeout s).desk := by
  obtain hsame | ⟨e, he, hdesk⟩ := inFlightTimeout_cases s
  · rwa [hsame]
  · rw [hdesk]
    refine ((h.of_inFlight List.erase_sublist).of_dirty (l := appendDirty s.desk.dirty e.record)
      (nodup_appendDirty h.dirtyOnce _) (fun x hx => ?_) fun m hm hmem => ?_).of_same rfl rfl rfl
    · exact (mem_appendDirty.1 hx).elim (h.dirtyIds x) fun hxe => hxe ▸ h.flightIds e he
    · obtain ⟨hclean, hquiet⟩ := h.adoptingClear m hm
      rcases mem_appendDirty.1 hmem with hmem | hmem
      · exact isDirty_eq_false_iff.1 hclean hmem
      · exact isInFlight_eq_false_iff.1 hquiet e he hmem.symm

theorem tracks_inFlightTimeout (s : State) : Tracks s.desk (inFlightTimeout s).desk := by
  obtain hsame | ⟨e, -, hdesk⟩ := inFlightTimeout_cases s
  · rw [hsame]
    exact fun _ => id
  · rw [hdesk]
    intro x hx
    rw [tracked_iff] at hx ⊢
    rcases hx with hx | ⟨e', he', rfl⟩
    · exact .inl (mem_appendDirty.2 (.inl hx))
    · by_cases hee : e' = e
      · exact .inl (mem_appendDirty.2 (.inr (hee ▸ rfl)))
      · exact .inr ⟨e', (List.mem_erase_of_ne hee).2 he', rfl⟩

theorem mem_setPulled {r : Nat} {stamp : Option Word} {l : List Adoptee} {e : Adoptee} (h : e ∈ setPulled r stamp l) :
    ∃ e' ∈ l, e'.record = e.record := by
  obtain ⟨e', he', rfl⟩ := List.mem_map.1 h
  exact ⟨e', he', by split <;> rfl⟩

/-! ## Rejoins (R145 to R147) -/

theorem deskOk_returnInFlight (h : DeskOk s.desk) : DeskOk (returnInFlight s).desk := by
  have hlanded : DeskOk { s.desk with inFlight := [] } := h.of_inFlight (List.nil_sublist _)
  have hcancelled := hlanded.of_adoption (l := s.desk.adoption.map fun e => { e with pulled := none }) fun e he => by
    obtain ⟨e', he', rfl⟩ := List.mem_map.1 he
    exact ⟨e', he', rfl⟩
  refine (hcancelled.of_dirty (l := appendAllDirty s.desk.dirty (s.desk.inFlight.map InFlight.record))
    (nodup_appendAllDirty h.dirtyOnce _) (fun x hx => ?_) fun m hm hmem => ?_).of_same rfl rfl rfl
  · rcases mem_appendAllDirty.1 hx with hx | hx
    · exact h.dirtyIds x hx
    · obtain ⟨e, he, rfl⟩ := List.mem_map.1 hx
      exact h.flightIds e he
  · obtain ⟨m', hm', rfl⟩ := List.mem_map.1 hm
    obtain ⟨hclean, hquiet⟩ := h.adoptingClear m' hm'
    rcases mem_appendAllDirty.1 hmem with hmem | hmem
    · exact isDirty_eq_false_iff.1 hclean hmem
    · obtain ⟨e, he, hrecord⟩ := List.mem_map.1 hmem
      exact isInFlight_eq_false_iff.1 hquiet e he hrecord

theorem tracks_returnInFlight (s : State) : Tracks s.desk (returnInFlight s).desk := by
  intro x hx
  rw [tracked_iff] at hx ⊢
  rcases hx with hx | ⟨e, he, rfl⟩
  · exact .inl (mem_appendAllDirty.2 (.inl hx))
  · exact .inl (mem_appendAllDirty.2 (.inr (List.mem_map_of_mem he)))

/-- The desk's tables at the beginning of an adoption (R147). -/
theorem beginAdoption_desk (s : State) : (beginAdoption s).desk = { s.desk with
    adoption := (adoptionRecords s.desk).map fun r => { record := r, pulled := none }, adopted := 0 } := by
  unfold beginAdoption
  dsimp only
  split
  · rw [adoptDone_desk, State.setDesk_desk]
  · rw [State.setDesk_desk]

theorem mem_adoptionRecords {r : Nat} (h : r ∈ adoptionRecords d) : r < recordCount ∧ isDirty d r = false := by
  simp only [adoptionRecords, List.mem_filter, List.mem_range, Bool.and_eq_true, Bool.not_eq_true'] at h
  exact ⟨h.1, h.2.2⟩

theorem deskOk_beginAdoption (h : DeskOk s.desk) (hflight : s.desk.inFlight = []) :
    DeskOk (beginAdoption s).desk := by
  rw [beginAdoption_desk]
  refine ⟨h.dirtyOnce, h.dirtyIds, h.flightOnce, h.flightIds, h.flightCount, fun e he => ?_, fun e he => ?_⟩
  · obtain ⟨r, hr, rfl⟩ := List.mem_map.1 he
    exact (mem_adoptionRecords hr).1
  · obtain ⟨r, hr, rfl⟩ := List.mem_map.1 he
    exact ⟨(mem_adoptionRecords hr).2, isInFlight_eq_false_iff.2 fun x hx =>
      absurd (hflight ▸ hx : x ∈ []) List.not_mem_nil⟩

theorem deskOk_rejoin (h : DeskOk s.desk) (hflight : s.desk.inFlight = []) : DeskOk (rejoin s).desk := by
  have hbound : ∀ c, DeskOk (s.setDesk { s.desk with binding := .bound, decision := c }).desk := fun c =>
    h.of_same rfl rfl rfl
  unfold rejoin
  dsimp only
  split
  · exact deskOk_replay (hbound _)
  · exact deskOk_beginAdoption (hbound _) hflight
  · exact hbound _
  · exact hbound _

theorem tracks_rejoin (s : State) : Tracks s.desk (rejoin s).desk := by
  have hbound : ∀ c, Tracks s.desk (s.setDesk { s.desk with binding := .bound, decision := c }).desk := fun c =>
    .of_same rfl rfl
  unfold rejoin
  dsimp only
  split
  · exact (hbound _).trans (tracks_replay _)
  · refine (hbound (rejoinChoice s.link.farFresh s.desk.binding s.regs.ctrl.policy)).trans ?_
    rw [beginAdoption_desk]
    exact .of_same rfl rfl
  · exact hbound _
  · exact hbound _

theorem rejoin_inFlight (s : State) : (rejoin s).desk.inFlight = s.desk.inFlight := by
  unfold rejoin
  dsimp only
  split
  · rw [markReplay_desk, State.setDesk_desk]
  · rw [beginAdoption_desk, State.setDesk_desk]
  · rw [State.setDesk_desk]
  · rw [State.setDesk_desk]

/-- The desk's tables after a change of link state: the records in flight return where it leaves LINKED for CONNECTING
or enters LOST, and from CONNECTING to LINKED the rejoin decision falls (R145, R146). -/
theorem changeLink_desk_cases (h : s.role = .desk) (new : LinkState) :
    (((s.link.state = .linked ∧ new = .connecting) ∨ new = .lost) ∧
        (changeLink new s).desk = (returnInFlight s).desk) ∨
      (s.link.state = .connecting ∧ new = .linked ∧ ∃ u, u.desk = s.desk ∧ (changeLink new s).desk = (rejoin u).desk) ∨
      (¬ (s.link.state = .linked ∧ new = .connecting) ∧ new ≠ .lost ∧ (changeLink new s).desk = s.desk) := by
  have hdrop : (if s.link.state = .linked then dropStageTalk (linkBase new s) else linkBase new s).desk = s.desk := by
    have hbase : (linkBase new s).desk = s.desk := (linkBase_keeps new s).part .desk (by decide)
    split
    · rw [(dropStageTalk_keeps _).part .desk (by decide), hbase]
    · exact hbase
  rw [changeLink_of_desk h]
  unfold linkDesk
  dsimp only
  generalize (if s.link.state = .linked then dropStageTalk (linkBase new s) else linkBase new s) = v at hdrop ⊢
  by_cases hback : (s.link.state = .linked ∧ new = .connecting) ∨ new = .lost
  · have hnot : ¬ (s.link.state = .connecting ∧ new = .linked) := by
      rintro ⟨hold, rfl⟩
      rcases hback with ⟨h1, -⟩ | h1
      · exact absurd (hold.symm.trans h1) (by decide)
      · cases h1
    rw [if_pos hback, if_neg hnot]
    refine .inl ⟨hback, ?_⟩
    simp only [returnInFlight, State.setDesk_desk, hdrop]
  · rw [if_neg hback]
    by_cases hjoin : s.link.state = .connecting ∧ new = .linked
    · rw [if_pos hjoin]
      exact .inr (.inl ⟨hjoin.1, hjoin.2, v, hdrop, rfl⟩)
    · rw [if_neg hjoin]
      obtain ⟨h1, h2⟩ := not_or.1 hback
      exact .inr (.inr ⟨h1, h2, hdrop⟩)

theorem not_mayFly_connecting {l : Link} (h : l.state = .connecting) : ¬ mayFly l := by
  rintro (hlinked | ⟨hbridging, -⟩)
  · rw [h] at hlinked
    cases hlinked
  · rw [h] at hbridging
    cases hbridging

theorem deskOk_changeLink (new : LinkState) (h : DeskOk s.desk) (hflight : FlightOk s) :
    DeskOk (changeLink new s).desk ∧ Tracks s.desk (changeLink new s).desk := by
  cases hrole : s.role
  case stage =>
    rw [changeLink_desk_stage hrole]
    exact ⟨h, fun _ => id⟩
  case desk =>
    obtain ⟨-, hdesk⟩ | ⟨hold, -, u, hu, hdesk⟩ | ⟨-, -, hdesk⟩ := changeLink_desk_cases hrole new <;> rw [hdesk]
    · exact ⟨deskOk_returnInFlight h, tracks_returnInFlight s⟩
    · have hnone : u.desk.inFlight = [] := by
        rw [hu]
        exact hflight.link (not_mayFly_connecting hold)
      exact ⟨deskOk_rejoin (hu ▸ h) hnone, hu ▸ tracks_rejoin u⟩
    · exact ⟨h, fun _ => id⟩

/-- Where a change of link state leaves the states in which entries fly, none flies. -/
theorem flightOk_changeLink {new : LinkState} (hstep : LinkStep s.link new) (hflight : FlightOk s) :
    FlightOk (changeLink new s) := by
  have hrole' : (changeLink new s).role = s.role := (changeLink_keeps new s).part .role (by decide)
  cases hrole : s.role
  case stage =>
    have hnone : (changeLink new s).desk.inFlight = [] := by
      rw [changeLink_desk_stage hrole]
      exact hflight.role hrole
    exact ⟨fun _ => hnone, fun _ => hnone⟩
  case desk =>
    refine ⟨fun hfly => ?_, fun hstage => absurd (hrole.symm.trans (hrole'.symm.trans hstage)) (by decide)⟩
    rw [changeLink_link] at hfly
    obtain ⟨-, hdesk⟩ | ⟨-, hnew, -⟩ | ⟨hstay, hlost, hdesk⟩ := changeLink_desk_cases hrole new
    · rw [hdesk]
      rfl
    · exact absurd (.inl ((linkAfter_state new s.link).trans hnew)) hfly
    · rw [hdesk]
      refine hflight.link fun hbefore => hfly ?_
      rcases hbefore with hlinked | ⟨hbridging, hreturn⟩
      · cases hstep with
        | expire h => exact absurd (h.symm.trans hlinked) (by decide)
        | connect h => rcases h with h | h <;> exact absurd (h.symm.trans hlinked) (by decide)
        | resume h => exact absurd (h.symm.trans hlinked) (by decide)
        | bridge => exact .inr ⟨rfl, congrArg some hlinked⟩
        | complete h => exact absurd (h.symm.trans hlinked) (by decide)
        | reconnect h => exact absurd ⟨h, rfl⟩ hstay
      · cases hstep with
        | expire => exact absurd rfl hlost
        | connect h => rcases h with h | h <;> exact absurd (h.symm.trans hbridging) (by decide)
        | resume =>
          rw [hreturn]
          exact .inl rfl
        | bridge h => rcases h with h | h <;> exact absurd (h.symm.trans hbridging) (by decide)
        | complete h => exact absurd (h.symm.trans hbridging) (by decide)
        | reconnect h => exact absurd (h.symm.trans hbridging) (by decide)

/-! ## ACKs (R141, R142) -/

theorem deskOk_ackLists (r : Nat) (v w : Word) (h : DeskOk d) : DeskOk (ackLists d r v w) := by
  have hdirty : DeskOk { d with dirty := d.dirty.erase r } :=
    h.of_dirty (h.dirtyOnce.sublist List.erase_sublist) (fun x hx => h.dirtyIds x (List.mem_of_mem_erase hx))
      fun e he hmem => isDirty_eq_false_iff.1 (h.adoptingClear e he).1 (List.mem_of_mem_erase hmem)
  unfold ackLists
  split
  · split
    · exact h.of_inFlight List.erase_sublist
    · exact h
  · split
    · exact hdirty
    · exact h

/-- An ACK takes only its own record out of the lists. -/
theorem tracked_ackLists {r x : Nat} (v w : Word) (hx : x ≠ r) (h : Tracked d x) : Tracked (ackLists d r v w) x := by
  rw [tracked_iff] at h ⊢
  unfold ackLists
  split
  case h_1 e he =>
    have hrecord : e.record = r := by simpa using List.find?_some he
    split
    · refine h.imp_right fun ⟨e', he', hx'⟩ => ⟨e', (List.mem_erase_of_ne ?_).2 he', hx'⟩
      rintro rfl
      exact hx (hx'.symm.trans hrecord)
    · exact h
  case h_2 =>
    split
    · exact h.imp_left (List.mem_erase_of_ne hx).2
    · exact h

theorem acknowledge_not_taken {r : Nat} {v : Word} (h : ¬ (s.role = .desk ∧ r < 226)) : acknowledge r v s = s :=
  if_neg h

/-- An accepted record that a completion leaves was there before, and not against the record. -/
theorem acceptedAt_of_completeIfAgainst {r i j : Nat} {a : Accepted}
    (h : acceptedAt (completeIfAgainst r j s) i = some a) :
    acceptedAt s i = some a ∧ (i = j → a.record ≠ r) := by
  by_cases hij : i = j
  case neg => exact ⟨(completeIfAgainst_other r s hij).accepted ▸ h, fun hsame => absurd hsame hij⟩
  subst hij
  by_cases hagainst : ∃ b, acceptedAt s i = some b ∧ b.record = r
  · obtain ⟨b, hb, hr⟩ := hagainst
    rw [completeIfAgainst_of_against hb hr] at h
    exact absurd ((acceptedAt_setAccepted_none i _).symm.trans h) (by simp)
  · have hnot : ∀ b, acceptedAt s i = some b → b.record ≠ r := fun b hb hr => hagainst ⟨b, hb, hr⟩
    rw [completeIfAgainst_of_not_against hnot] at h
    exact ⟨h, fun _ => hnot a h⟩

theorem acceptedAt_of_forEach_complete {r i : Nat} {l : List Nat} {a : Accepted}
    (h : acceptedAt (forEach (completeIfAgainst r) l s) i = some a) :
    acceptedAt s i = some a ∧ (i ∈ l → a.record ≠ r) := by
  induction l generalizing s with
  | nil => exact ⟨h, fun hi => absurd hi List.not_mem_nil⟩
  | cons j l ih =>
    obtain ⟨hstep, hrest⟩ := ih h
    obtain ⟨hfirst, hj⟩ := acceptedAt_of_completeIfAgainst hstep
    exact ⟨hfirst, fun hi => (List.mem_cons.1 hi).elim hj hrest⟩

theorem acceptedAt_of_ge {i : Nat} (hlength : s.scanner.accepted.length = 32) (hi : 32 ≤ i) :
    acceptedAt s i = none :=
  List.getD_eq_default _ _ (hlength ▸ hi)

/-- After an ACK at the desk every accepted record was there before, and one against a CLEAN record is gone. -/
theorem acceptedAt_of_acknowledge {r i : Nat} {v : Word} {a : Accepted} (hrole : s.role = .desk) (hr : r < 226)
    (hlength : s.scanner.accepted.length = 32) (h : acceptedAt (acknowledge r v s) i = some a) :
    acceptedAt s i = some a ∧ (a.record = r → replState (acknowledge r v s).desk r ≠ .clean) := by
  have hi : i < 32 := by
    by_contra hge
    rw [acceptedAt_of_ge ((length_accepted_acknowledge r v s).trans hlength) (Nat.le_of_not_lt hge)] at h
    cases h
  rw [replState_acknowledge v hrole hr]
  rw [acknowledge_of_desk v hrole hr, (syncAfter_entry _ _ i).accepted] at h
  unfold completeAck at h
  split at h
  case isTrue hclean =>
    obtain ⟨hbefore, hne⟩ := acceptedAt_of_forEach_complete h
    exact ⟨hbefore, fun hsame => absurd hsame (hne (List.mem_range.2 hi))⟩
  case isFalse hclean => exact ⟨h, fun _ => hclean⟩

/-! ## The invariant -/

theorem acceptedOk_of_tracks (haccepted : t.scanner.accepted = s.scanner.accepted) (htracks : Tracks s.desk t.desk)
    (h : AcceptedOk s) : AcceptedOk t := by
  obtain ⟨hlength, hall⟩ := h
  refine ⟨(congrArg List.length haccepted).trans hlength, fun i a ha => ?_⟩
  rw [acceptedAt, haccepted] at ha
  obtain ⟨hr, htracked⟩ := hall i a ha
  exact ⟨hr, htracks _ htracked⟩

theorem acceptedOk_acknowledge (r : Nat) (v : Word) (hdesk : DeskOk s.desk) (h : AcceptedOk s) :
    AcceptedOk (acknowledge r v s) := by
  by_cases hadmitted : s.role = .desk ∧ r < 226
  case neg => rwa [acknowledge_not_taken hadmitted]
  obtain ⟨hrole, hr⟩ := hadmitted
  obtain ⟨hlength, hall⟩ := h
  refine ⟨(length_accepted_acknowledge r v s).trans hlength, fun i a ha => ?_⟩
  obtain ⟨hbefore, hstill⟩ := acceptedAt_of_acknowledge hrole hr hlength ha
  obtain ⟨hrecord, htracked⟩ := hall i a hbefore
  refine ⟨hrecord, ?_⟩
  have hlists := acknowledge_desk v hrole hr
  by_cases hsame : a.record = r
  case neg =>
    have hother := tracked_ackLists v (shadowAt s r).version hsame htracked
    change Tracked (acknowledge r v s).desk a.record
    rw [hlists]
    exact hother
  case pos =>
    by_contra hnot
    obtain ⟨hdirty, hflight⟩ := not_or.1 hnot
    rw [hsame, Bool.not_eq_true] at hdirty hflight
    have hadopting : isAdopting s.desk r = true := by
      by_contra hfree
      refine hstill hsame ?_
      have hadoption : isAdopting (acknowledge r v s).desk r = false := by
        rw [hlists, ackLists_eq]
        simpa [isAdopting] using hfree
      simp only [replState, hdirty, hflight, hadoption]
    obtain ⟨e, he, hmember⟩ := isAdopting_iff.1 hadopting
    exact hdesk.adopting_not_tracked he (hmember ▸ hsame ▸ htracked)

theorem deskOk_acknowledge (r : Nat) (v : Word) (h : DeskOk s.desk) : DeskOk (acknowledge r v s).desk := by
  by_cases hadmitted : s.role = .desk ∧ r < 226
  case neg => rwa [acknowledge_not_taken hadmitted]
  rw [acknowledge_desk v hadmitted.1 hadmitted.2]
  exact (deskOk_ackLists r v (shadowAt s r).version h).of_same rfl rfl rfl

theorem inFlight_acknowledge (r : Nat) (v : Word) (h : s.desk.inFlight = []) :
    (acknowledge r v s).desk.inFlight = [] := by
  by_cases hadmitted : s.role = .desk ∧ r < 226
  case neg => rwa [acknowledge_not_taken hadmitted]
  rw [acknowledge_desk v hadmitted.1 hadmitted.2]
  have hnone : inFlightEntry s.desk r = none := by simp [inFlightEntry, h]
  change (ackLists s.desk r v _).inFlight = []
  rw [ackLists, hnone]
  dsimp only
  split <;> exact h

/-- The desk's tables after a REPORT: the record leaves the adoption set, or nothing happens to the lists (R149). -/
theorem adoptReport_desk_cases (r : Nat) (contents : List Byte) (s : State) :
    (adoptReport r contents s).desk = s.desk ∨ ∃ shadow adopted, (adoptReport r contents s).desk =
      { s.desk with
        shadow := shadow, adopted := adopted, adoption := s.desk.adoption.filter fun e => e.record != r } := by
  unfold adoptReport
  split
  · exact .inr ⟨_, _, by simp only [leaveAdoption_desk, State.setDesk_desk, setShadow]; rfl⟩
  · exact .inl rfl

/-- The lists and the accepted records, as one invariant. -/
def Replicates (s : State) : Prop := DeskOk s.desk ∧ FlightOk s ∧ AcceptedOk s

theorem flightOk_of_same (hrole : t.role = s.role) (hlink : t.link.state = s.link.state)
    (hreturn : t.link.returnTo = s.link.returnTo) (hflight : s.desk.inFlight = [] → t.desk.inFlight = [])
    (h : FlightOk s) : FlightOk t where
  link := fun hfly => hflight (h.link fun hbefore => hfly (by unfold mayFly at *; rwa [hlink, hreturn]))
  role := fun hstage => hflight (h.role (hrole.symm.trans hstage))

/-- An operation on the desk's lists alone. -/
theorem replicates_desk {v : DeskRepl} (hdesk : DeskOk v) (hflight : s.desk.inFlight = [] → v.inFlight = [])
    (htracks : Tracks s.desk v) (hrole : t.role = s.role) (hlink : t.link = s.link)
    (hscanner : t.scanner = s.scanner) (ht : t.desk = v) (hs : Replicates s) : Replicates t := by
  obtain ⟨-, hfly, haccepted⟩ := hs
  subst ht
  exact ⟨hdesk, flightOk_of_same hrole (congrArg Link.state hlink) (congrArg Link.returnTo hlink) hflight hfly,
    acceptedOk_of_tracks (congrArg Scanner.accepted hscanner) htracks haccepted⟩

theorem replicates_accepted {i : Nat} {o : Option Accepted} (hs : Replicates s)
    (h : ∀ a, o = some a → a.record < recordCount ∧ isDirty s.desk a.record = true) :
    Replicates (setAccepted i o s) := by
  obtain ⟨hdesk, hfly, hlength, hall⟩ := hs
  refine ⟨hdesk, flightOk_of_same (s := s) rfl rfl rfl id hfly, List.length_set.trans hlength, fun j a ha => ?_⟩
  by_cases hj : j = i
  case neg =>
    rw [acceptedAt_setAccepted_other o s hj] at ha
    exact hall j a ha
  subst hj
  rcases lt_or_ge j s.scanner.accepted.length with hlt | hge
  · have hat : acceptedAt (setAccepted j o s) j = o := by simp [acceptedAt, setAccepted, hlt]
    obtain ⟨hr, hdirty⟩ := h a (hat ▸ ha)
    exact ⟨hr, .inl hdirty⟩
  · have hlength' : (setAccepted j o s).scanner.accepted.length = 32 := List.length_set.trans hlength
    rw [acceptedAt_of_ge hlength' (hlength ▸ hge)] at ha
    cases ha

theorem replicates_step {audio : Bool} {T : List Part} (h : StateStep audio T s t) (hs : Replicates s) :
    Replicates t := by
  obtain ⟨hdesk, hfly, haccepted⟩ := hs
  by_cases hT : Part.link ∈ T ∨ Part.desk ∈ T ∨ Part.scanner ∈ T
  case neg =>
    obtain ⟨hnlink, hndesk, hnscanner⟩ : _ ∧ _ ∧ _ := by simpa only [not_or] using hT
    exact replicates_desk hdesk id (fun _ => id) h.role (h.part .link hnlink (by decide))
      (h.part .scanner hnscanner (by decide)) (h.part .desk hndesk (by decide)) ⟨hdesk, hfly, haccepted⟩
  have hlists : ∀ {v : DeskRepl}, DeskOk v → (s.desk.inFlight = [] → v.inFlight = []) → Tracks s.desk v →
      Part.link ∉ T → Part.scanner ∉ T → t.desk = v → Replicates t := fun hv hflight htracks hnlink hnscanner ht =>
    replicates_desk hv hflight htracks h.role (h.part .link hnlink (by decide))
      (h.part .scanner hnscanner (by decide)) ht ⟨hdesk, hfly, haccepted⟩
  cases h with
  | act h =>
    cases h with
    | link _ l hstate hreturn =>
      exact ⟨hdesk, flightOk_of_same (s := s) rfl hstate hreturn id hfly, haccepted⟩
    | changeLink _ new hstep =>
      obtain ⟨hnew, htracks⟩ := deskOk_changeLink new hdesk hfly
      exact ⟨hnew, flightOk_changeLink hstep hfly, acceptedOk_of_tracks
        (congrArg Scanner.accepted ((changeLink_keeps new s).part .scanner (by decide))) htracks haccepted⟩
    | push _ r hrole hlink hcount hr =>
      have hnew := deskOk_push hdesk hcount hr
      refine ⟨hnew, ⟨fun hnot => absurd (.inl hlink) hnot, fun hstage => ?_⟩,
        acceptedOk_of_tracks (s := s) rfl (tracks_push r s) haccepted⟩
      exact absurd (hrole.symm.trans hstage) (by decide)
    | pull _ r stamp =>
      exact hlists (hdesk.of_adoption fun e he => mem_setPulled he) id (.of_same rfl rfl) (by decide) (by decide) rfl
    | inFlightTimeout =>
      refine hlists (deskOk_inFlightTimeout hdesk) (fun hnone => ?_) (tracks_inFlightTimeout s) (by decide)
        (by decide) rfl
      obtain hsame | ⟨e, he, -⟩ := inFlightTimeout_cases s
      · rwa [hsame]
      · exact absurd (hnone ▸ he : e ∈ []) List.not_mem_nil
    | edit _ r requested hr =>
      refine hlists (deskOk_edit hr requested hdesk) (fun hnone => ?_) (tracks_edit r requested s) (by decide)
        (by decide) rfl
      rw [editRecord_desk]
      exact hnone
    | replay =>
      refine hlists (deskOk_replay hdesk) (fun hnone => ?_) (tracks_replay s) (by decide) (by decide) rfl
      rw [markReplay_desk]
      exact hnone
    | acknowledge _ r v =>
      have hkeeps := acknowledge_keeps r v s
      have hlink : (acknowledge r v s).link = s.link := hkeeps.part .link (by decide)
      exact ⟨deskOk_acknowledge r v hdesk,
        flightOk_of_same (hkeeps.part .role (by decide)) (congrArg Link.state hlink) (congrArg Link.returnTo hlink)
          (inFlight_acknowledge r v) hfly,
        acceptedOk_acknowledge r v hdesk haccepted⟩
    | adopt _ r contents =>
      obtain hsame | ⟨shadow, adopted, hleft⟩ := adoptReport_desk_cases r contents s
      · exact hlists hdesk id (fun _ => id) (by decide) (by decide) hsame
      · have hfewer := hdesk.of_adoption (l := s.desk.adoption.filter fun e => e.record != r) fun e he =>
          ⟨e, List.mem_of_mem_filter he, rfl⟩
        refine hlists (hfewer.of_same (d' := (adoptReport r contents s).desk) ?_ ?_ ?_) ?_ (.of_same ?_ ?_)
          (by decide) (by decide) rfl
        all_goals rw [hleft]
        exact id
    | accept _ i a hr hdirty =>
      exact replicates_accepted ⟨hdesk, hfly, haccepted⟩ fun b hb => Option.some.inj hb ▸ ⟨hr, hdirty⟩
    | drop _ i => exact replicates_accepted ⟨hdesk, hfly, haccepted⟩ fun b hb => absurd hb (by simp)
    | scanner _ c hc =>
      exact ⟨hdesk, flightOk_of_same (s := s) rfl rfl rfl id hfly,
        acceptedOk_of_tracks (s := s) hc (fun _ => id) haccepted⟩
    | _ => exact absurd hT (by decide)
  | _ => exact absurd hT (by decide)

theorem replicates_initial (role : Role) (losA losB pinLow : Bool) (pending : List Instr) :
    Replicates (.initial role losA losB pinLow pending) := by
  have haccepted : ∀ i, acceptedAt (.initial role losA losB pinLow pending) i = none := fun i => by
    rw [acceptedAt, List.getD_eq_getElem?_getD]
    exact List.getElem?_getD_replicate_default_eq none 32 i
  refine ⟨⟨List.nodup_nil, ?_, List.nodup_nil, ?_, Nat.zero_le 8, ?_, ?_⟩, ⟨fun _ => rfl, fun _ => rfl⟩,
    List.length_replicate, fun i a ha => absurd ((haccepted i).symm.trans ha) (by simp)⟩
  all_goals exact fun x hx => absurd hx List.not_mem_nil

/-- Settles O3: the lists by the operation that writes them, the accepted records because a record leaves the lists by
an ACK alone, which completes what is accepted against it. -/
theorem replicationInvariant : Obligations.ReplicationInvariant := by
  unfold Obligations.ReplicationInvariant
  intro s t hlists haccepted h
  obtain ⟨hdesk, hfly⟩ := (listsOk_iff s).1 hlists
  obtain ⟨hdesk', hfly', haccepted'⟩ := step_invariant (P := Replicates) replicates_initial (fun _ _ ⟨h1, h2, h3⟩ =>
    ⟨h1, ⟨h2.link, h2.role⟩, h3⟩) (fun _ _ _ _ => replicates_step) ⟨hdesk, hfly, haccepted⟩ h
  exact ⟨(listsOk_iff t).2 ⟨hdesk', hfly'⟩, haccepted'⟩

/-- Settles O10: what a reset establishes for any role and LOS levels. -/
theorem resetMeetsInvariants : Obligations.ResetMeetsInvariants := by
  obtain ⟨hdesk, hfly, haccepted⟩ := replicates_initial .desk true true false []
  obtain ⟨hmask, hisland, hsilent⟩ := linkMeans_initial .desk true true false []
  obtain ⟨hramps, htrim, hindex⟩ := inRanges_initial .desk true true false []
  exact ⟨(listsOk_iff _).2 ⟨hdesk, hfly⟩, haccepted, boardOk_initial .., queueOk_initial .., rfl, hmask, hisland,
    hsilent, hramps, htrim, hindex, sized_initial ..⟩

end Sys2Proof.Machine
end


section
/-! The host's registers (section 9.6) and the resets (section 9.8): NOTICE, NOTICE_EN, LINKSTAT, whole-word writes of
CTRL with the release of the meter hold (section 5.2), and what a reset leaves. -/

namespace Sys2Proof.Machine

variable {s t u : State}

/-- Settles O1, by the two cases of `step`. -/
theorem stepRunsFrontCommand : Obligations.StepRunsFrontCommand := by
  unfold Obligations.StepRunsFrontCommand
  refine ⟨fun c rest s h => ?_, fun s h => ?_⟩
  · simp only [step, h]
  · simp only [step, h]

/-! ## NOTICE and NOTICE_EN (R178, R179) -/

theorem getLsbD_and_not {w : Nat} (x c : BitVec w) {b : Nat} (hb : b < w) :
    (x &&& ~~~c).getLsbD b = (x.getLsbD b && !c.getLsbD b) := by simp [hb]

theorem getLsbD_noticeCleared (written snapshot : BitVec 7) {b : Nat} (hb : b < 7) :
    (noticeCleared written snapshot).getLsbD b = (!written.getLsbD b && snapshot.getLsbD b) := by
  simp [noticeCleared, hb]

theorem interruptPin_iff (s : State) :
    interruptPin s = true ↔ ∃ b < 7, s.regs.notice.getLsbD b = true ∧ s.regs.enable.getLsbD b = true := by
  rw [interruptPin, bne_iff_ne]
  constructor
  · intro hset
    by_contra hnone
    refine hset (BitVec.eq_of_getLsbD_eq fun b hb => ?_)
    have hclear : (0 : BitVec 7).getLsbD b = false := BitVec.getLsbD_zero
    rw [BitVec.getLsbD_and, hclear]
    by_contra hbit
    rw [Bool.not_eq_false, Bool.and_eq_true] at hbit
    exact hnone ⟨b, hb, hbit⟩
  · rintro ⟨b, -, hnotice, henable⟩ hzero
    have hbit : (s.regs.notice &&& s.regs.enable).getLsbD b = true := by
      rw [BitVec.getLsbD_and, hnotice, henable]
      rfl
    rw [hzero] at hbit
    simp at hbit

/-- Settles O21, register by register. -/
theorem notices : Obligations.Notices := by
  unfold Obligations.Notices
  refine ⟨fun s => ⟨_, rfl, readNotice_keeps s, rfl⟩, fun w s => ?_,
    fun w s => ⟨_, rfl, writeEnable_keeps w s, rfl⟩, interruptPin_iff⟩
  refine ⟨_, rfl, writeNotice_keeps w s, fun b hb => ?_, rfl, rfl, rfl⟩
  have hw : (w.setWidth 7).getLsbD b = w.getLsbD b := by simp [hb]
  constructor
  · change (s.regs.notice &&& ~~~noticeCleared (w.setWidth 7) s.regs.snapshot).getLsbD b = _
    rw [getLsbD_and_not _ _ hb, getLsbD_noticeCleared _ _ hb, hw]
    simp
  · change (s.regs.snapshot &&& ~~~noticeCleared (w.setWidth 7) s.regs.snapshot).getLsbD b = _
    rw [getLsbD_and_not _ _ hb, getLsbD_noticeCleared _ _ hb, hw]
    cases s.regs.snapshot.getLsbD b <;> simp

/-! ## CTRL (R177) -/

/-- A bit forced to the level it has. -/
theorem forceBit_of_same {k : Nat} {b : Bool} {w : Word} (hk : k < 32) (h : w.getLsbD k = b) : forceBit k b w = w := by
  refine BitVec.eq_of_getLsbD_eq fun j hj => ?_
  rw [getLsbD_forceBit k j b w hk hj]
  split
  case isTrue hjk => rw [hjk, h]
  case isFalse => rfl

theorem noReset_of_clear {w : Word} (h : w.getLsbD 7 = false) : noReset w = w := forceBit_of_same (by decide) h

/-- `s` with the fields of a written CTRL word. -/
def ctrlStored (w : Word) (s : State) : State := s.setRegs { s.regs with ctrl := ctrlOfWord w }

/-- A CTRL row that carries the word its name describes stores that word. -/
theorem exec_of_ctrlRow {w : Word} {i : Instr} (hi : i ∈ ctrlRows w) (hwell : wellFormed i = true) (s : State) :
    exec i s = .next (ctrlEffects s.regs.ctrl (ctrlStored w s)) := by
  have hstore : ∀ {w' : Word}, w' = w → w.getLsbD 7 = false →
      writeCtrl .word w' s = ctrlEffects s.regs.ctrl (ctrlStored w s) := fun hw hreset => by
    rw [hw, writeCtrl_of_not_reset hreset]
    rfl
  have hforced : ∀ {k : Nat} {b : Bool}, w.getLsbD k = b → w.getLsbD 7 = false → k < 32 →
      forceBit k b (noReset w) = w := fun hbit hreset hk => by
    rw [noReset_of_clear hreset, forceBit_of_same hk hbit]
  simp only [ctrlRows, List.mem_cons, List.not_mem_nil, or_false] at hi
  rcases hi with rfl | rfl | rfl | rfl | rfl | rfl | rfl <;>
    simp only [wellFormed, Bool.and_eq_true, Bool.not_eq_true'] at hwell
  · exact congrArg _ (hstore (hforced hwell.1 hwell.2 (by decide)) hwell.2)
  · exact congrArg _ (hstore (hforced hwell.1 hwell.2 (by decide)) hwell.2)
  · exact congrArg _ (hstore (noReset_of_clear hwell) hwell)
  · exact congrArg _ (hstore (noReset_of_clear hwell) hwell)
  · exact congrArg _ (hstore (hforced hwell.1 hwell.2 (by decide)) hwell.2)
  · exact congrArg _ (hstore (hforced hwell.1 hwell.2 (by decide)) hwell.2)
  · exact congrArg _ (hstore (noReset_of_clear hwell) hwell)

/-- What CTRL reads as after a word is stored. -/
theorem ctrlWord_ctrlOfWord (role : Role) (w : Word) :
    ctrlWord role (ctrlOfWord w) = (w &&& 0x7F#32) ||| (if role = .stage then 0x100#32 else 0#32) := by
  refine BitVec.eq_of_getLsbD_eq fun k hk => ?_
  have hpolicy : policyCode (ctrlOfWord w).policy = BitVec.ofBool (w.getLsbD 6) := by
    rw [ctrlOfWord]
    cases w.getLsbD 6 <;> rfl
  rw [ctrlWord, hpolicy]
  simp only [ctrlOfWord, BitVec.getLsbD_append, BitVec.getLsbD_or, BitVec.getLsbD_and]
  cases role <;> interval_cases k <;> simp [roleCode]

/-- The hold is released by this write. -/
def Releases (w : Word) (s : State) : Prop := s.role = .desk ∧ s.regs.ctrl.hold = true ∧ w.getLsbD 5 = false

theorem runChange_scanner (old : Ctrl) (s : State) : (runChange old s).scanner =
    if old.run = false ∧ s.regs.ctrl.run = true then { s.scanner with timer := 0 } else s.scanner := by
  unfold runChange
  by_cases h : old.run = false ∧ s.regs.ctrl.run = true
  · rw [if_pos h, if_pos (by simp [h])]
    rfl
  · rw [if_neg h, if_neg (by simpa using h)]

theorem ctrlEffects_scanner (w : Word) (s : State) : (ctrlEffects s.regs.ctrl (ctrlStored w s)).scanner =
    if s.role = .desk ∧ s.regs.ctrl.run = false ∧ w.getLsbD 0 = true then { s.scanner with timer := 0 }
    else s.scanner := by
  cases hrole : s.role
  case stage => simp only [ctrlEffects, ctrlStored, State.setRegs_role, hrole]; simp
  case desk =>
    have heffects : ctrlEffects s.regs.ctrl (ctrlStored w s) =
        holdChange s.regs.ctrl (runChange s.regs.ctrl (ctrlStored w s)) := by
      simp only [ctrlEffects, ctrlStored, State.setRegs_role, hrole]
    rw [heffects, (holdChange_keeps _ _).part .scanner (by decide), runChange_scanner]
    simp [ctrlStored, ctrlOfWord]

theorem runChange_ctrl (old : Ctrl) (s : State) : (runChange old s).regs = s.regs :=
  (runChange_keeps old s).part .regs (by decide)

/-- The effects at the desk: the scan count, then the hold. -/
theorem ctrlEffects_of_desk (hrole : s.role = .desk) (w : Word) : ctrlEffects s.regs.ctrl (ctrlStored w s) =
    if s.regs.ctrl.hold = true ∧ w.getLsbD 5 = false then releaseHold (runChange s.regs.ctrl (ctrlStored w s))
    else runChange s.regs.ctrl (ctrlStored w s) := by
  have heffects : ctrlEffects s.regs.ctrl (ctrlStored w s) =
      holdChange s.regs.ctrl (runChange s.regs.ctrl (ctrlStored w s)) := by
    simp only [ctrlEffects, ctrlStored, State.setRegs_role, hrole]
  have hkept : (ctrlStored w s).regs.ctrl.hold = w.getLsbD 5 := rfl
  rw [heffects, holdChange, runChange_ctrl, hkept]
  simp only [Bool.and_eq_true, Bool.not_eq_true']

theorem ctrlEffects_of_release {w : Word} (h : Releases w s) : ctrlEffects s.regs.ctrl (ctrlStored w s) =
    releaseHold (runChange s.regs.ctrl (ctrlStored w s)) := by
  rw [ctrlEffects_of_desk h.1, if_pos h.2]

theorem ctrlEffects_of_no_release {w : Word} (h : ¬ Releases w s) :
    (ctrlEffects s.regs.ctrl (ctrlStored w s)).meters = s.meters ∧
      (ctrlEffects s.regs.ctrl (ctrlStored w s)).regs = { s.regs with ctrl := ctrlOfWord w } := by
  cases hrole : s.role
  case stage => simp [ctrlEffects, ctrlStored, hrole]
  case desk =>
    rw [ctrlEffects_of_desk hrole, if_neg fun hreleased => h ⟨hrole, hreleased⟩]
    exact ⟨(runChange_keeps _ _).part .meters (by decide), runChange_ctrl _ _⟩

/-! ## The release of the hold (R85, R87) -/

/-- The comparison of the counter with the cadence: reached, or not. -/
theorem compareCadence_cases (s : State) :
    (meterCadence s ≤ s.meters.sweeps ∧ (compareCadence s).meters = { s.meters with sweeps := 0 } ∧
      (compareCadence s).regs = { s.regs with notice := s.regs.notice ||| noticeBit .meter }) ∨
    (s.meters.sweeps < meterCadence s ∧ (compareCadence s).meters = s.meters ∧
      (compareCadence s).regs = s.regs) := by
  rcases le_or_gt (meterCadence s) s.meters.sweeps with h | h
  · rw [compareCadence, if_pos h]
    exact .inl ⟨h, rfl, rfl⟩
  · rw [compareCadence, if_neg (Nat.not_le_of_lt h)]
    exact .inr ⟨h, rfl, rfl⟩

theorem getD_releaseWords (table : List Word) (store : List (Option Word)) (i : Nat)
    (h : table.length = store.length) :
    (releaseWords table store).getD i 0 = (store.getD i none).getD (table.getD i 0) := by
  induction table generalizing store i with
  | nil =>
    cases store with
    | nil => simp [releaseWords]
    | cons e es => cases h
  | cons w table ih =>
    cases store with
    | nil => cases h
    | cons e es =>
      cases i with
      | zero => rfl
      | succ i => exact ih es i (Nat.succ.inj h)

/-- The meters with the pending entries written to the table (R85). -/
def released (m : Meters) : Meters :=
  { m with table := releaseWords m.table m.store, store := List.replicate m.store.length none }

theorem releaseHold_cases (s : State) :
    (meterCadence s ≤ s.meters.sweeps ∧ (releaseHold s).meters = { released s.meters with sweeps := 0 } ∧
      (releaseHold s).regs = { s.regs with notice := s.regs.notice ||| noticeBit .meter }) ∨
    (s.meters.sweeps < meterCadence s ∧ (releaseHold s).meters = released s.meters ∧
      (releaseHold s).regs = s.regs) :=
  compareCadence_cases (s.setMeters (released s.meters))

theorem ctrlEffects_stored_keeps (w : Word) (s : State) :
    Keeps [.regs, .scanner, .meters] s (ctrlEffects s.regs.ctrl (ctrlStored w s)) :=
  (setRegs_keeps s { s.regs with ctrl := ctrlOfWord w }).mono (by decide) |>.next
    (ctrlEffects_keeps s.regs.ctrl (ctrlStored w s)) (by decide)

/-- Settles O18, by whether the write releases the hold. -/
theorem ctrlWrites : Obligations.CtrlWrites := by
  unfold Obligations.CtrlWrites
  intro w i s hi hwell
  have hkeeps := ctrlEffects_stored_keeps w s
  refine ⟨_, exec_of_ctrlRow hi hwell s, hkeeps, ?_⟩
  have hrole : (ctrlEffects s.regs.ctrl (ctrlStored w s)).role = s.role := hkeeps.part .role (by decide)
  have hread : (ctrlEffects s.regs.ctrl (ctrlStored w s)).regs.ctrl = ctrlOfWord w →
      readCtrl (ctrlEffects s.regs.ctrl (ctrlStored w s)) =
        (w &&& 0x7F#32) ||| (if s.role = .stage then 0x100#32 else 0#32) := fun hctrl => by
    rw [readCtrl, hctrl, hrole, ctrlWord_ctrlOfWord]
  by_cases h : Releases w s
  · have hregs := releaseHold_cases (runChange s.regs.ctrl (ctrlStored w s))
    rw [← ctrlEffects_of_release h, runChange_ctrl] at hregs
    refine ⟨hread ?_, ctrlEffects_scanner w s, ?_, ?_, fun hnot => absurd h hnot⟩
    all_goals rcases hregs with ⟨-, -, hregs⟩ | ⟨-, -, hregs⟩ <;> rw [hregs]
    · rfl
    · rfl
    · rfl
    · rfl
    · exact .inr rfl
    · exact .inl rfl
  · obtain ⟨hmeters, hregs⟩ := ctrlEffects_of_no_release h
    exact ⟨hread (by rw [hregs]), ctrlEffects_scanner w s, by rw [hregs], .inl (by rw [hregs]),
      fun _ => ⟨hmeters, by rw [hregs]⟩⟩

/-- Settles O19: the write of the pending entries, and the comparison with the cadence just written. -/
theorem holdReleased : Obligations.HoldReleased := by
  unfold Obligations.HoldReleased
  intro w c s hc hwell hw hrole hhold htable hstore
  have hcases := releaseHold_cases (runChange s.regs.ctrl (ctrlStored w s))
  rw [← ctrlEffects_of_release ⟨hrole, hhold, hw⟩, runChange_ctrl, meterCadence, runChange_ctrl,
    (runChange_keeps _ _).part .meters (by decide)] at hcases
  change (2 ^ (w.extractLsb' 3 2).toNat ≤ s.meters.sweeps ∧ _) ∨
    (s.meters.sweeps < 2 ^ (w.extractLsb' 3 2).toNat ∧ _) at hcases
  have hentries : ∀ i < 112, (releaseWords s.meters.table s.meters.store).getD i 0 =
      (s.meters.store.getD i none).getD (s.meters.table.getD i 0) := fun i _ =>
    getD_releaseWords _ _ i (htable.trans hstore.symm)
  have hempty : List.replicate s.meters.store.length (none : Option Word) = List.replicate 112 none := by rw [hstore]
  refine ⟨_, exec_of_ctrlRow hc hwell s, ctrlEffects_stored_keeps w s, ?_⟩
  obtain ⟨hreached, hmeters, hregs⟩ | ⟨hearly, hmeters, hregs⟩ := hcases <;> rw [hmeters, hregs]
  · exact ⟨hentries, hempty, rfl, rfl, rfl, fun _ => ⟨rfl, rfl⟩, fun hnot => absurd hnot (by omega)⟩
  · exact ⟨hentries, hempty, rfl, rfl, rfl, fun hnot => absurd hnot (by omega), fun _ => ⟨rfl, rfl⟩⟩

end Sys2Proof.Machine
end


section
/-! What a reset leaves (section 9.8), and that the blocks of one role take no events in the other. -/

namespace Sys2Proof.Machine

variable {s t u : State}

/-! ## The resets -/

theorem getD_map_range {α : Type} (f : Nat → α) (d : α) {n r : Nat} (hr : r < n) :
    ((List.range n).map f).getD r d = f r := by
  simp [hr]

theorem statusWord_initial (role : Role) (losA losB pinLow : Bool) (pending : List Instr) (k : Nat) :
    statusWord (.initial role losA losB pinLow pending) k = 0 := by
  unfold statusWord
  split <;> simp [State.initial, DeskRepl.initial, decisionCode, bindingCode, boolByte, wordOfBytes, byteAt, Port.initial]

theorem portAfterReset_initial (los : Bool) : PortAfterReset los (.initial los) :=
  ⟨rfl, rfl, rfl, rfl, rfl, rfl, rfl, rfl, rfl, fun _ h => List.eq_of_mem_replicate h⟩

theorem readCtrl_initial (role : Role) (losA losB pinLow : Bool) (pending : List Instr) :
    readCtrl (.initial role losA losB pinLow pending) = if role = .stage then 0x100 else 0 := by
  change ctrlWord role { run := false, period := 0, cadence := 0, hold := false, policy := .adopt } = _
  cases role <;> decide

theorem afterReset_initial (role : Role) (losA losB pinLow : Bool) (pending : List Instr) :
    AfterReset role losA losB (.initial role losA losB pinLow pending) where
  role := rfl
  sizes := sized_initial ..
  counts := ⟨rfl, rfl⟩
  board := fun _ => rfl
  scanner := ⟨fun i => by
    rw [acceptedAt, List.getD_eq_getElem?_getD]
    exact List.getElem?_getD_replicate_default_eq none 32 i, rfl, rfl, rfl, rfl⟩
  status := fun k => statusWord_initial role losA losB pinLow pending k
  ring := ⟨rfl, fun _ h => List.eq_of_mem_replicate h⟩
  meterTable := ⟨fun _ h => List.eq_of_mem_replicate h, fun _ h => List.eq_of_mem_replicate h⟩
  collector := ⟨rfl, rfl, rfl⟩
  shadow := fun _ hr => getD_map_range _ _ hr
  lists := ⟨rfl, rfl, rfl, rfl, rfl, rfl, rfl⟩
  live := ⟨fun r hr => by simp [State.initial, StageRepl.initial, hr], rfl⟩
  ctrl := readCtrl_initial ..
  notices := ⟨rfl, rfl, rfl, rfl⟩
  ports := ⟨portAfterReset_initial losA, portAfterReset_initial losB⟩
  link := ⟨rfl, rfl, rfl, rfl, rfl, rfl, rfl⟩
  selector := ⟨rfl, rfl⟩
  audio := ⟨fun _ h => List.eq_of_mem_replicate h, rfl, rfl, rfl⟩
  delivery := ⟨rfl, rfl, rfl, rfl⟩
  talk := ⟨⟨rfl, rfl, rfl, rfl, rfl⟩, ⟨rfl, rfl, rfl, rfl, rfl⟩, rfl, rfl, rfl, rfl⟩
  channels := fun c h => by
    obtain rfl : c = .initial := List.eq_of_mem_replicate h
    exact ⟨rfl, rfl, rfl, rfl, rfl, rfl, rfl, rfl, rfl, rfl, rfl⟩
  stepper := rfl
  preamp := ⟨rfl, rfl, fun _ h => List.eq_of_mem_replicate h⟩
  mixes := fun x h => by
    obtain rfl : x = .initial := List.eq_of_mem_replicate h
    exact ⟨fun _ hg => List.eq_of_mem_replicate hg, rfl, rfl, rfl, rfl, rfl⟩
  island := ⟨rfl, rfl, rfl, rfl⟩
  clock := ⟨rfl, rfl, rfl, rfl, rfl, rfl, rfl, rfl⟩
  channel := ⟨rfl, rfl, rfl, rfl, rfl, rfl, rfl, rfl⟩
  output := ⟨by cases role <;> rfl, rfl⟩

/-- Settles O17: both resets leave `State.initial`. -/
theorem resets : Obligations.Resets := by
  unfold Obligations.Resets
  refine ⟨fun strapHigh losA losB s => ⟨_, rfl, afterReset_initial ..⟩, fun w s _ => ?_⟩
  have hreset : ctrlReset (forceBit 7 true w) = true := getLsbD_forceBit 7 7 true w (by decide) (by decide)
  exact ⟨_, congrArg Host.Outcome.next (writeCtrl_of_reset hreset s), afterReset_initial ..⟩

/-! ## The blocks of one role in the other -/

/-- No operation touches the island at the desk (R56). -/
theorem Acts.island_of_desk (h : Acts s t) : s.role = .desk → t.role = .desk ∧ t.island = s.island := by
  refine Acts.relates (R := fun s t => s.role = .desk → t.role = .desk ∧ t.island = s.island)
    (fun s hs => ⟨hs, rfl⟩) (fun s t u h g hs => ?_) (fun T s t h hs => ?_) h
  · obtain ⟨ht, hisland⟩ := h hs
    obtain ⟨hu, hisland'⟩ := g ht
    exact ⟨hu, hisland'.trans hisland⟩
  · refine ⟨(h.part .role (by cases h <;> decide) (by decide)).trans hs, ?_⟩
    by_cases hT : Part.island ∈ T
    case neg => exact h.part .island hT (by decide)
    cases h with
    | engageIsland =>
      rw [engageIsland, if_neg]
      simp [islandDue, hs]
    | countIsland =>
      rw [countIsland, if_neg]
      simp [hs]
    | changeLink => exact changeLink_island_desk hs _
    | _ => exact absurd hT (by decide)

theorem superframeStep_button_of_desk (pinLow : Bool) (h : s.role = .desk) :
    (superframeStep pinLow s).button = s.button := by
  have hrole : (boundaryHello (closePorts (advanceSuperframe (endSuperframe s)))).role = .desk := by
    rw [(boundaryHello_keeps _).part .role (by decide), (closePorts_keeps _).part .role (by decide),
      (advanceSuperframe_keeps _).part .role (by decide), (endSuperframe_keeps s).part .role (by decide), h]
  rw [superframeStep, boundary]
  simp only [hrole]
  rw [(countScan_keeps _).part .button (by decide), (boundaryHello_keeps _).part .button (by decide),
    (closePorts_keeps _).part .button (by decide), (advanceSuperframe_keeps _).part .button (by decide),
    (endSuperframe_keeps s).part .button (by decide)]

theorem pick_of_desk (h : s.role = .desk) : pick s = pickDesk s := by simp only [pick, h]

theorem pick_of_stage (h : s.role = .stage) : pick s = pickStage s := by simp only [pick, h]

/-- What the desk's scheduler can pick (R109). -/
theorem pickDesk_cases {k : Pick} (h : pickDesk s = some k) : k = .hello ∨ (∃ r, k = .pull r) ∨ ∃ r, k = .push r := by
  unfold pickDesk at h
  split at h
  · exact .inl (Option.some.inj h).symm
  · split at h
    · split at h
      · exact .inr (.inl ⟨_, (Option.some.inj h).symm⟩)
      · obtain ⟨r, -, hr⟩ := Option.map_eq_some_iff.1 h
        exact .inr (.inr ⟨r, hr.symm⟩)
    · cases h

/-- What the stage's scheduler can pick (R106). -/
theorem pickStage_cases {k : Pick} (h : pickStage s = some k) :
    k = .hello ∨ k = .reply ∨ k = .note ∨ k = .status ∨ k = .meter := by
  unfold pickStage at h
  split_ifs at h <;> simp [← Option.some.inj h]

/-- A stage message is never begun at the desk. -/
theorem mayBegin_of_desk (h : s.role = .desk) {k : Pick} (hk : k = .reply ∨ k = .note ∨ k = .status ∨ k = .meter) :
    mayBegin k s = false := by
  rw [mayBegin, Bool.and_eq_false_iff]
  refine .inr (beq_eq_false_iff_ne.2 fun hpick => ?_)
  rcases pickDesk_cases (pick_of_desk h ▸ hpick) with rfl | ⟨r, rfl⟩ | ⟨r, rfl⟩ <;> simp at hk

theorem phantomExpiry_of_desk (h : s.role = .desk) (n : Nat) : phantomExpiry n s = s := if_neg (by simp [h])

theorem gateClosedReaction_of_desk (h : s.role = .desk) (n : Nat) : gateClosedReaction n s = s := if_neg (by simp [h])

theorem stepperExpiry_of_desk (h : s.role = .desk) : stepperExpiry s = s := if_neg (by simp [h])

theorem endTrimPeriod_of_desk (h : s.role = .desk) : endTrimPeriod s = s := if_neg (by simp [h])

theorem startTransfer_of_desk (h : s.role = .desk) : startTransfer s = s := by simp only [startTransfer, h]

theorem completeTransfer_of_desk (h : s.role = .desk) (w : Half) : completeTransfer w s = s := by
  simp only [completeTransfer, h]

theorem renewExpiry_of_stage (h : s.role = .stage) (src : TalkSource) : renewExpiry src s = s := if_neg (by simp [h])

theorem limitExpiry_of_stage (h : s.role = .stage) (src : TalkSource) : limitExpiry src s = s := if_neg (by simp [h])

theorem deadlineExpiry_of_stage (h : s.role = .stage) (i : Nat) : deadlineExpiry i s = s := by
  unfold deadlineExpiry
  split
  · exact if_neg (by simp [h])
  · rfl

theorem inFlightTimeout_of_stage (h : s.role = .stage) : inFlightTimeout s = s := by simp only [inFlightTimeout, h]

theorem pullTimeout_of_stage (h : s.role = .stage) (r : Nat) : pullTimeout r s = s := if_neg (by simp [h])

theorem finishScan_of_stage (h : s.role = .stage) : finishScan s = s := by simp only [finishScan, h]

theorem scanStep_of_stage (h : s.role = .stage) (i : Nat) (kind : RequestKind) : scanStep i kind s = s :=
  if_neg (by simp [scanMeets, h])

theorem exec_islandEngage_of_desk (h : s.role = .desk) : exec .islandEngage s = .next s := by
  have hisland := ((superframeStep_acts s.button.pinLow s).island_of_desk h).2.trans
    ((settle_acts s).island_of_desk h).2.symm
  change Host.Outcome.next (if _ then _ else _) = _
  rw [hisland, Bool.and_assoc, Bool.and_not_self, Bool.and_false, if_neg Bool.false_ne_true]

theorem exec_debounceChange_of_desk (h : s.role = .desk) : exec .debounceChange s = .next s := by
  change Host.Outcome.next (if _ then _ else _) = _
  rw [superframeStep_button_of_desk _ h, bne_self_eq_false, Bool.and_false, if_neg Bool.false_ne_true]

/-- The rows of the stage's blocks at the desk. -/
theorem exec_stage_row_of_desk (h : s.role = .desk) {c : Instr}
    (hc : c ∈ [.gainStepperExpiry, .transferStart, .islandEngage, .trimPeriodEnd, .debounceChange, .replyBegin,
        .noteBegin, .statusBegin, .meterTake] ∨ (∃ n, c = .gateClosed n ∨ c = .phantomTimerExpiry n) ∨
      ∃ w, c = .transferComplete w) : exec c s = .next s := by
  have hbegin : ∀ (k : Pick) (t : State), k = .reply ∨ k = .note ∨ k = .status ∨ k = .meter →
      (if mayBegin k s = true then t else s) = s := fun k t hk =>
    if_neg (by rw [mayBegin_of_desk h hk]; exact Bool.false_ne_true)
  rcases hc with hc | ⟨n, rfl | rfl⟩ | ⟨w, rfl⟩
  · simp only [List.mem_cons, List.not_mem_nil, or_false] at hc
    rcases hc with rfl | rfl | rfl | rfl | rfl | rfl | rfl | rfl | rfl
    · exact congrArg _ (stepperExpiry_of_desk h)
    · exact congrArg _ (startTransfer_of_desk h)
    · exact exec_islandEngage_of_desk h
    · exact congrArg _ (endTrimPeriod_of_desk h)
    · exact exec_debounceChange_of_desk h
    · exact congrArg _ (hbegin .reply _ (by simp))
    · exact congrArg _ (hbegin .note _ (by simp))
    · exact congrArg _ (hbegin .status _ (by simp))
    · exact congrArg _ (hbegin .meter _ (by simp))
  · exact congrArg _ (gateClosedReaction_of_desk h n)
  · exact congrArg _ (phantomExpiry_of_desk h n)
  · exact congrArg _ (completeTransfer_of_desk h w)

theorem exec_pushBegin_of_stage (h : s.role = .stage) : exec .pushBegin s = .next s := by
  change execPushBegin s = _
  unfold execPushBegin
  split
  next r hpick => rcases pickStage_cases (pick_of_stage h ▸ hpick) with hk | hk | hk | hk | hk <;> cases hk
  next => rfl

theorem exec_pullBegin_of_stage (h : s.role = .stage) : exec .pullBegin s = .next s := by
  change execPullBegin s = _
  unfold execPullBegin
  split
  next r hpick => rcases pickStage_cases (pick_of_stage h ▸ hpick) with hk | hk | hk | hk | hk <;> cases hk
  next => rfl

/-- The rows of the desk's blocks at the stage. -/
theorem exec_desk_row_of_stage (h : s.role = .stage) {c : Instr}
    (hc : c ∈ [.inFlightTimeout, .pushBegin, .pullBegin, .boardScan] ∨
      (∃ src, c = .talkRenewExpiry src ∨ c = .talkLimitExpiry src) ∨
      (∃ i, c = .deadlineExpiry i ∨ c = .setRecord i ∨ c = .setField i ∨ c = .talkPress i ∨ c = .talkRelease i ∨
        c = .replayAll i) ∨ (∃ r, c = .pullTimeout r)) : exec c s = .next s := by
  rcases hc with hc | ⟨src, rfl | rfl⟩ | ⟨i, rfl | rfl | rfl | rfl | rfl | rfl⟩ | ⟨r, rfl⟩
  · simp only [List.mem_cons, List.not_mem_nil, or_false] at hc
    rcases hc with rfl | rfl | rfl | rfl
    · exact congrArg _ (inFlightTimeout_of_stage h)
    · exact exec_pushBegin_of_stage h
    · exact exec_pullBegin_of_stage h
    · exact congrArg _ (finishScan_of_stage h)
  · exact congrArg _ (renewExpiry_of_stage h src)
  · exact congrArg _ (limitExpiry_of_stage h src)
  · exact congrArg _ (deadlineExpiry_of_stage h i)
  · exact congrArg _ (scanStep_of_stage h i _)
  · exact congrArg _ (scanStep_of_stage h i _)
  · exact congrArg _ (scanStep_of_stage h i _)
  · exact congrArg _ (scanStep_of_stage h i _)
  · exact congrArg _ (scanStep_of_stage h i _)
  · exact congrArg _ (pullTimeout_of_stage h r)

/-- A message type whose consumer is a block of the other role. -/
def ForeignType (role : Role) (type : MsgType) : Prop :=
  (role = .desk ∧ (type = .push ∨ type = .pull)) ∨
    (role = .stage ∧ (type = .ack ∨ type = .report ∨ type = .note ∨ type = .status ∨ type = .meter))

theorem consume_of_foreign {m : Msg} (h : ForeignType s.role m.type) : consume m s = s := by
  unfold consume
  rcases h with ⟨hrole, htype | htype⟩ | ⟨hrole, htype | htype | htype | htype | htype⟩ <;> rw [htype]
  · exact if_neg (by simp [hrole])
  · exact if_neg (by simp [hrole])
  · exact if_neg (by simp [hrole])
  · exact if_neg (by simp [hrole])
  · exact if_neg (by simp [hrole])
  · exact if_neg (by simp [hrole])
  · exact if_neg (by simp [hrole])

theorem consumeHead_of_foreign {m : Msg} {rest : List Msg} (h : ForeignType s.role m.type)
    (hinbox : s.receiver.inbox = m :: rest) :
    consumeHead m.type s = s.setReceiver { s.receiver with inbox := rest } := by
  rw [consumeHead_of_head hinbox]
  exact consume_of_foreign (s := s.setReceiver _) h

theorem consumeHead_of_other {type : MsgType} (h : ∀ m rest, s.receiver.inbox = m :: rest → m.type ≠ type) :
    consumeHead type s = s := by
  unfold consumeHead
  split
  next m rest hinbox => exact if_neg (h m rest hinbox)
  next => rfl

/-- A message row takes the head of its type out of the inbox. -/
theorem exec_foreign_row {c : Instr} {type : MsgType} (h : ForeignType s.role type)
    (hc : exec c s = .next (consumeHead type s)) :
    (∀ m rest, s.receiver.inbox = m :: rest → m.type = type →
        exec c s = .next (s.setReceiver { s.receiver with inbox := rest })) ∧
      ((∀ m rest, s.receiver.inbox = m :: rest → m.type ≠ type) → exec c s = .next s) := by
  refine ⟨fun m rest hinbox htype => ?_, fun hother => ?_⟩
  · subst htype
    rw [hc, consumeHead_of_foreign h hinbox]
  · rw [hc, consumeHead_of_other hother]

/-- Settles O60, by the role guards of the blocks. -/
theorem otherRoleIdle : Obligations.OtherRoleIdle := by
  unfold Obligations.OtherRoleIdle
  refine fun c s => ⟨fun h hc => exec_stage_row_of_desk h hc, fun h hc => exec_desk_row_of_stage h hc, ?_⟩
  rintro type (⟨hrole, hc⟩ | ⟨hrole, hc⟩) <;>
    simp only [List.mem_cons, Prod.mk.injEq, List.not_mem_nil, or_false] at hc
  · rcases hc with ⟨rfl, rfl⟩ | ⟨rfl, rfl⟩
    · exact exec_foreign_row (.inl ⟨hrole, by simp⟩) rfl
    · exact exec_foreign_row (.inl ⟨hrole, by simp⟩) rfl
  · rcases hc with ⟨rfl, rfl⟩ | ⟨rfl, rfl⟩ | ⟨rfl, rfl⟩ | ⟨rfl, rfl⟩ | ⟨rfl, rfl⟩
    · exact exec_foreign_row (.inr ⟨hrole, by simp⟩) rfl
    · exact exec_foreign_row (.inr ⟨hrole, by simp⟩) rfl
    · exact exec_foreign_row (.inr ⟨hrole, by simp⟩) rfl
    · exact exec_foreign_row (.inr ⟨hrole, by simp⟩) rfl
    · exact exec_foreign_row (.inr ⟨hrole, by simp⟩) rfl

end Sys2Proof.Machine
end


section
/-! What the host reads (sections 9.1, 9.5, 9.6, 11.5 to 11.9): the fields of LINKSTAT, and every region of the window in
its place. -/

namespace Sys2Proof.Machine

variable {s t u : State}

/-! ## LINKSTAT (R180) -/

theorem linkstatWord_fields (s : State) :
    (linkstatWord s).extractLsb' 0 2 = portCode s.portA ∧ (linkstatWord s).extractLsb' 2 2 = portCode s.portB ∧
      (linkstatWord s).extractLsb' 4 2 = activeCode s.selector.active ∧
      (linkstatWord s).extractLsb' 6 3 = linkCode s.link.state ∧ (linkstatWord s).getLsbD 9 = stageTalkField s ∧
      (linkstatWord s).extractLsb' 10 2 = carriedCode s.arbiter.carried ∧
      (linkstatWord s).extractLsb' 16 5 = s.regs.change := by
  unfold linkstatWord
  refine ⟨?_, ?_, ?_, ?_, ?_, ?_, ?_⟩
  case _ => exact BitVec.extractLsb'_append_eq_right
  case refine_5 => simp only [BitVec.getLsbD_append]; simp
  all_goals
    repeat rw [BitVec.extractLsb'_append_eq_of_le (by decide)]
    exact BitVec.extractLsb'_append_eq_right

/-! ## Words and bytes (R160) -/

/-- Byte `b` of a word made of four bytes. -/
theorem extractLsb'_wordOfBytes (b0 b1 b2 b3 : Byte) :
    (wordOfBytes b0 b1 b2 b3).extractLsb' 0 8 = b0 ∧ (wordOfBytes b0 b1 b2 b3).extractLsb' 8 8 = b1 ∧
      (wordOfBytes b0 b1 b2 b3).extractLsb' 16 8 = b2 ∧ (wordOfBytes b0 b1 b2 b3).extractLsb' 24 8 = b3 := by
  unfold wordOfBytes
  refine ⟨BitVec.extractLsb'_append_eq_right, ?_, ?_, ?_⟩
  all_goals repeat rw [BitVec.extractLsb'_append_eq_of_le (by decide)]
  · exact BitVec.extractLsb'_append_eq_right
  · exact BitVec.extractLsb'_append_eq_right
  · exact BitVec.extractLsb'_eq_self

theorem extractLsb'_readWord (m : Memory) (a : Nat) {b : Nat} (hb : b < 4) :
    (m.readWord a).extractLsb' (8 * b) 8 = m.readByte (a + b) := by
  obtain ⟨h0, h1, h2, h3⟩ := extractLsb'_wordOfBytes (m.readByte a) (m.readByte (a + 1)) (m.readByte (a + 2))
    (m.readByte (a + 3))
  interval_cases b
  · exact h0
  · exact h1
  · exact h2
  · exact h3

theorem extractLsb'_contentWord (c : List Byte) (k : Nat) {b : Nat} (hb : b < 4) :
    (contentWord c k).extractLsb' (8 * b) 8 = byteAt c (4 * k + b) := by
  obtain ⟨h0, h1, h2, h3⟩ := extractLsb'_wordOfBytes (byteAt c (4 * k)) (byteAt c (4 * k + 1)) (byteAt c (4 * k + 2))
    (byteAt c (4 * k + 3))
  interval_cases b
  · exact h0
  · exact h1
  · exact h2
  · exact h3

/-! ## The regions of the window (section 9.1) -/

theorem readWindow_board (s : State) {offset : Nat} (h : offset < 0x400) :
    readWindow s offset = s.board.readWord offset := if_pos h

theorem readWindow_status (s : State) (k : Nat) {offset : Nat} (hk : k < 16) (h : offset = 0x400 + 4 * k) :
    readWindow s offset = statusWord s k := by
  have hword : (offset - 0x400) / 4 = k := by omega
  rw [readWindow, if_neg (by omega), if_pos (by omega), hword]

theorem readWindow_event (s : State) {k j : Nat} (hk : k < 64) (hj : j < 4) :
    readWindow s (0x440 + 16 * k + 4 * j) = eventWord (s.ring.records.getD k .initial) j := by
  have hrecord : (0x440 + 16 * k + 4 * j - 0x440) / 16 = k := by omega
  have hword : (0x440 + 16 * k + 4 * j - 0x440) / 4 % 4 = j := by omega
  rw [readWindow, if_neg (by omega), if_neg (by omega), if_pos (by omega), hrecord, hword]

theorem readWindow_meter (s : State) {i : Nat} (h : i < 112) :
    readWindow s (0x840 + 4 * i) = s.meters.table.getD i 0 := by
  have hindex : (0x840 + 4 * i - 0x840) / 4 = i := by omega
  rw [readWindow, if_neg (by omega), if_neg (by omega), if_neg (by omega), if_pos (by omega), hindex]

theorem readWindow_record (s : State) {r k : Nat} (hr : r < 226) (hk : k < 8) :
    readWindow s (0xA00 + 32 * r + 4 * k) = recordWord s r k := by
  have hrecord : (0xA00 + 32 * r + 4 * k - 0xA00) / 32 = r := by omega
  have hword : (0xA00 + 32 * r + 4 * k - 0xA00) / 4 % 8 = k := by omega
  rw [readWindow, if_neg (by omega), if_neg (by omega), if_neg (by omega), if_neg (by omega), if_pos (by omega),
    hrecord, hword]

theorem readWindow_beyond (s : State) {offset : Nat} (h : 0x2640 ≤ offset) : readWindow s offset = 0 := by
  rw [readWindow, if_neg (by omega), if_neg (by omega), if_neg (by omega), if_neg (by omega), if_neg (by omega)]

/-! ## The status block (R176, 11.9) -/

theorem statusWord_two (s : State) : statusWord s 2 =
    0#8 ++ BitVec.ofNat 8 s.desk.inFlight.length ++ BitVec.ofNat 16 s.desk.dirty.length := rfl

theorem statusWord_three (s : State) : statusWord s 3 =
    BitVec.ofNat 16 s.desk.adopted ++ BitVec.ofNat 16 s.desk.adoption.length := rfl

theorem statusWord_eight (s : State) : statusWord s 8 = decisionCode s.desk.decision ++ bindingCode s.desk.binding ++
    (0#5 ++ s.status.farLink) ++ boolByte s.status.farIsland := rfl

theorem statusWord_two_fields (s : State) :
    (statusWord s 2).extractLsb' 0 16 = BitVec.ofNat 16 s.desk.dirty.length ∧
      (statusWord s 2).extractLsb' 16 8 = BitVec.ofNat 8 s.desk.inFlight.length ∧
      (statusWord s 2).extractLsb' 24 8 = 0#8 := by
  rw [statusWord_two]
  refine ⟨BitVec.extractLsb'_append_eq_right, ?_, ?_⟩
  all_goals repeat rw [BitVec.extractLsb'_append_eq_of_le (by decide)]
  · exact BitVec.extractLsb'_append_eq_right
  · exact BitVec.extractLsb'_eq_self

theorem statusWord_three_fields (s : State) :
    (statusWord s 3).extractLsb' 0 16 = BitVec.ofNat 16 s.desk.adoption.length ∧
      (statusWord s 3).extractLsb' 16 16 = BitVec.ofNat 16 s.desk.adopted := by
  rw [statusWord_three]
  exact ⟨BitVec.extractLsb'_append_eq_right, BitVec.extractLsb'_append_eq_left⟩

theorem statusWord_eight_fields (s : State) :
    (statusWord s 8).extractLsb' 0 8 = boolByte s.status.farIsland ∧
      (statusWord s 8).extractLsb' 8 8 = 0#5 ++ s.status.farLink ∧
      (statusWord s 8).extractLsb' 16 8 = bindingCode s.desk.binding ∧
      (statusWord s 8).extractLsb' 24 8 = decisionCode s.desk.decision := by
  rw [statusWord_eight]
  refine ⟨BitVec.extractLsb'_append_eq_right, ?_, ?_, ?_⟩
  all_goals repeat rw [BitVec.extractLsb'_append_eq_of_le (by decide)]
  · exact BitVec.extractLsb'_append_eq_right
  · exact BitVec.extractLsb'_append_eq_right
  · exact BitVec.extractLsb'_eq_self

/-- The eight bytes of the stage's status, four to a word. -/
theorem extractLsb'_stageStatus (s : State) {b : Nat} (hb : b < 8) :
    (statusWord s (9 + b / 4)).extractLsb' (8 * (b % 4)) 8 = byteAt s.status.stageStatus b := by
  have hword : statusWord s (9 + b / 4) = contentWord s.status.stageStatus (b / 4) := by
    have hhalf : b / 4 = 0 ∨ b / 4 = 1 := by omega
    rcases hhalf with h | h <;> rw [h] <;> rfl
  rw [hword, extractLsb'_contentWord _ _ (Nat.mod_lt b (by decide)), Nat.div_add_mod]

/-! ## The shadow table (R135, R159, 11.6) -/

theorem fieldCount_eq (r : Nat) : fieldCount (recordKind r) =
    if r < 112 then 4 else if r < 224 then 16 else if r = 224 then 3 else 2 := by
  unfold recordKind
  split_ifs <;> first | rfl | omega

theorem recordWord_of_desk (h : s.role = .desk) (r k : Nat) : recordWord s r k = shadowWord s r k := by
  simp only [recordWord, h]

theorem recordWord_of_stage (h : s.role = .stage) (r k : Nat) : recordWord s r k = liveWord s r k := by
  simp only [recordWord, h]

theorem shadowWord_contents (s : State) (r : Nat) {k : Nat} (hk : k < 4) :
    shadowWord s r k = contentWord (shadowContents s r) k := by
  interval_cases k <;> rfl

theorem liveWord_contents (s : State) (r : Nat) {k : Nat} (hk : k < 4) :
    liveWord s r k = contentWord (liveContents s r) k := by
  interval_cases k <;> rfl

/-- A content byte of the shadow table: a byte beyond the fields of its kind reads 0 (R183). -/
theorem extractLsb'_shadowWord (s : State) (r : Nat) {k : Nat} (hk : k < 16) :
    (shadowWord s r (k / 4)).extractLsb' (8 * (k % 4)) 8 =
      if k < fieldCount (recordKind r) then byteAt (shadowAt s r).contents k else 0 := by
  rw [shadowWord_contents s r (by omega), extractLsb'_contentWord _ _ (Nat.mod_lt k (by decide)), Nat.div_add_mod,
    shadowContents, byteAt_layoutContents _ _ _ hk]

/-- The replication state of a record as the window shows it, by the lists it is in (R135). -/
theorem replCode_word (d : DeskRepl) (r : Nat) : (0#24 ++ replCode (replState d r) : Word) =
    if isDirty d r && isInFlight d r then 3 else if isDirty d r then 1 else if isInFlight d r then 2
      else if isAdopting d r then 4 else 0 := by
  unfold replState
  cases isDirty d r <;> cases isInFlight d r <;> cases isAdopting d r <;> decide

/-- A live record as the stage shows it (R159). -/
theorem liveWord_of_live {r : Nat} {live : Live} (h : s.stage.live[r]? = some live) :
    liveContents s r = live.contents ∧ liveWord s r 4 = live.version ∧ liveWord s r 5 = live.version ∧
      liveWord s r 6 = 0 ∧ liveWord s r 7 = live.stamp := by
  refine ⟨?_, ?_, ?_, rfl, ?_⟩
  · rw [liveContents, h]
    rfl
  all_goals
    unfold liveWord
    rw [h]
    rfl

/-- Settles O22, region by region. -/
theorem hostReads : Obligations.HostReads := by
  unfold Obligations.HostReads
  refine ⟨fun s => ⟨_, rfl, readLinkstat_keeps s, rfl, ?_⟩, fun s => ?_⟩
  · exact linkstatWord_fields s
  have hword2 : readWindow s 0x408 = statusWord s 2 := readWindow_status s 2 (by decide) rfl
  have hword3 : readWindow s 0x40C = statusWord s 3 := readWindow_status s 3 (by decide) rfl
  have hword8 : readWindow s 0x420 = statusWord s 8 := readWindow_status s 8 (by decide) rfl
  obtain ⟨hdirty, hflight, hzero⟩ := statusWord_two_fields s
  obtain ⟨hadoption, hadopted⟩ := statusWord_three_fields s
  obtain ⟨hisland, hlink, hbinding, hdecision⟩ := statusWord_eight_fields s
  dsimp only
  rw [hword2, hword3, hword8]
  refine ⟨?_, readWindow_status s 0 (by decide) rfl, readWindow_status s 1 (by decide) rfl, hdirty, hflight, hzero,
    hadoption, hadopted, readWindow_status s 4 (by decide) rfl, readWindow_status s 5 (by decide) rfl,
    readWindow_status s 6 (by decide) rfl, readWindow_status s 7 (by decide) rfl, hisland, ?_, ?_, ?_, ?_,
    readWindow_status s 11 (by decide) rfl, readWindow_status s 12 (by decide) rfl, ?_, ?_, ?_, ?_, ?_,
    fun offset h _ => readWindow_beyond s h⟩
  case refine_1 =>
    intro i hi k hk b hb
    rw [readWindow_board s (by omega), extractLsb'_readWord _ _ hb]
  case refine_2 =>
    rw [hlink]
    exact (BitVec.setWidth_eq_append (by decide)).symm
  case refine_3 =>
    rw [hbinding]
    cases s.desk.binding <;> rfl
  case refine_4 =>
    rw [hdecision]
    cases s.desk.decision <;> rfl
  case refine_5 =>
    intro b hb
    rw [readWindow_status s (9 + b / 4) (by omega) (by omega), extractLsb'_stageStatus s hb]
  case refine_6 =>
    intro k hlo hhi
    rw [readWindow_status s k hhi rfl]
    interval_cases k <;> rfl
  case refine_7 =>
    intro k e hk he
    have hevent : ∀ j < 4, readWindow s (0x440 + 16 * k + 4 * j) = eventWord e j := fun j hj => by
      rw [readWindow_event s hk hj, List.getD_eq_getElem?_getD, he]
      rfl
    refine ⟨hevent 0 (by decide), hevent 1 (by decide), ?_, ?_, ?_, hevent 3 (by decide)⟩
    · rw [hevent 2 (by decide)]
      exact BitVec.extractLsb'_append_eq_right
    · rw [hevent 2 (by decide), eventWord, BitVec.extractLsb'_append_eq_of_le (by decide)]
      exact BitVec.extractLsb'_append_eq_right
    · rw [hevent 2 (by decide), eventWord]
      repeat rw [BitVec.extractLsb'_append_eq_of_le (by decide)]
      exact BitVec.extractLsb'_eq_self
  case refine_8 =>
    intro i w hi hw
    rw [readWindow_meter s hi, List.getD_eq_getElem?_getD, hw]
    rfl
  case refine_9 =>
    intro r hr hrole
    have hword : ∀ k < 8, readWindow s (0xA00 + 32 * r + 4 * k) = shadowWord s r k := fun k hk => by
      rw [readWindow_record s hr hk, recordWord_of_desk hrole]
    refine ⟨fun k hk => ?_, hword 4 (by decide), hword 5 (by decide), ?_, hword 7 (by decide)⟩
    · rw [hword (k / 4) (by omega), extractLsb'_shadowWord s r hk, fieldCount_eq]
    · exact (hword 6 (by decide)).trans (replCode_word s.desk r)
  case refine_10 =>
    intro r live hr hrole hlive
    have hword : ∀ k < 8, readWindow s (0xA00 + 32 * r + 4 * k) = liveWord s r k := fun k hk => by
      rw [readWindow_record s hr hk, recordWord_of_stage hrole]
    obtain ⟨hcontents, hversion, hconfirmed, hstate, hstamp⟩ := liveWord_of_live hlive
    refine ⟨fun k hk => ?_, (hword 4 (by decide)).trans hversion, (hword 5 (by decide)).trans hconfirmed,
      (hword 6 (by decide)).trans hstate, (hword 7 (by decide)).trans hstamp⟩
    rw [hword (k / 4) (by omega), liveWord_contents s r (by omega),
      extractLsb'_contentWord _ _ (Nat.mod_lt k (by decide)), Nat.div_add_mod, hcontents]

end Sys2Proof.Machine
end


section
/-! The layouts of chapter 11: the preamp word and its parity, and the clamp of a record. -/

namespace Sys2Proof.Machine

/-! ## The preamp word (section 1.7, 11.2) -/

/-- The parity bit adds itself to the ones of the bits above it. -/
theorem onesCount_append (upper : BitVec 15) (b : Bool) :
    onesCount (upper ++ BitVec.ofBool b) = b.toNat + onesCount (upper ++ 0#1) := by
  have hlow : ∀ c : Bool, (upper ++ BitVec.ofBool c).getLsbD 0 = c := fun c => by
    rw [BitVec.getLsbD_append]
    simp
  have hhigh : ∀ (c : Bool) (k : Nat), (upper ++ BitVec.ofBool c).getLsbD (k + 1) = upper.getLsbD k := fun c k => by
    rw [BitVec.getLsbD_append, if_neg (by omega), Nat.add_sub_cancel]
  have hcount : ∀ c : Bool, onesCount (upper ++ BitVec.ofBool c) =
      c.toNat + (List.range 15).countP fun k => upper.getLsbD k := fun c => by
    rw [onesCount, List.range_succ_eq_map, List.countP_cons, List.countP_map, hlow, Nat.add_comm]
    congr 1
    · cases c <;> rfl
    · exact List.countP_congr fun k _ => by rw [Function.comp, hhigh]
  rw [hcount b, show (0#1 : BitVec 1) = BitVec.ofBool false from rfl, hcount false, Bool.toNat_false, Nat.zero_add]

/-- Any upper bits with their parity bit have an odd number of ones. -/
theorem onesCount_parity (upper : BitVec 15) :
    onesCount (upper ++ BitVec.ofBool (decide (onesCount (upper ++ 0#1) % 2 = 0))) % 2 = 1 := by
  rw [onesCount_append]
  rcases Nat.mod_two_eq_zero_or_one (onesCount (upper ++ 0#1)) with h | h
  · rw [decide_eq_true h, Bool.toNat_true]
    omega
  · rw [decide_eq_false (by omega), Bool.toNat_false]
    omega

/-- The word has odd parity over all 16 bits (R18). -/
theorem preampWord_odd (channel gain : Nat) (pad phantom : Bool) :
    onesCount (preampWord channel gain pad phantom) % 2 = 1 := onesCount_parity _

/-- Settles O13, field by field. -/
theorem preampWordLayout : Obligations.PreampWordLayout := by
  unfold Obligations.PreampWordLayout
  intro channel gain pad phantom hchannel hgain
  refine ⟨?_, ?_, ?_, ?_, ?_, preampWord_odd channel gain pad phantom⟩ <;> unfold preampWord <;> dsimp only
  case refine_4 => simp only [BitVec.getLsbD_append]; simp
  case refine_5 => simp only [BitVec.getLsbD_append]; simp
  all_goals repeat rw [BitVec.extractLsb'_append_eq_of_le (by decide)]
  · change (BitVec.extractLsb' 0 4 (BitVec.ofNat 4 (channel / 8))).toNat = _
    rw [BitVec.extractLsb'_eq_self, BitVec.toNat_ofNat, Nat.mod_eq_of_lt (by omega)]
  · change (BitVec.extractLsb' 0 3 (BitVec.ofNat 4 (channel / 8) ++ BitVec.ofNat 3 (channel % 8))).toNat = _
    rw [BitVec.extractLsb'_append_eq_right, BitVec.toNat_ofNat, Nat.mod_eq_of_lt (by omega)]
  · change (BitVec.extractLsb' 0 6
      (BitVec.ofNat 4 (channel / 8) ++ BitVec.ofNat 3 (channel % 8) ++ BitVec.ofNat 6 gain)).toNat = _
    rw [BitVec.extractLsb'_append_eq_right, BitVec.toNat_ofNat, Nat.mod_eq_of_lt (by omega)]

/-! ## The clamp (section 8.1) -/

theorem byteAt_map_range (f : Nat → Byte) {n k : Nat} (hk : k < n) : byteAt ((List.range n).map f) k = f k :=
  getD_map_range f 0 hk

theorem byteAt_clampContents (record : Nat) (b : List Byte) {k : Nat} (hk : k < 16) :
    byteAt (clampContents record b) k = clampByte (recordKind record) k (byteAt b k) := byteAt_map_range _ hk

theorem sixty_toNat : (60 : Byte).toNat = 60 := rfl

theorem clampByte_clampByte (kind : RecordKind) (k : Nat) (b : Byte) :
    clampByte kind k (clampByte kind k b) = clampByte kind k b := by
  cases kind <;> simp only [clampByte] <;> split_ifs <;> first | rfl | simp_all

theorem clampContents_clampContents (record : Nat) (b : List Byte) :
    clampContents record (clampContents record b) = clampContents record b := by
  refine List.map_congr_left fun k hk => ?_
  rw [byteAt_clampContents record b (List.mem_range.1 hk), clampByte_clampByte]

theorem isClamped_iff (record : Nat) (b : List Byte) :
    isClamped record b = true ↔ ∃ k < 16, byteAt (clampContents record b) k ≠ byteAt b k := by
  simp only [isClamped, List.any_eq_true, List.mem_range, bne_iff_ne]
  exact exists_congr fun k => and_congr_right fun hk => by rw [byteAt_clampContents record b hk]

theorem toNat_limit_sixty (b : Byte) : (if 60 < b.toNat then (60 : Byte) else b).toNat = min 60 b.toNat := by
  split_ifs with h
  · rw [sixty_toNat]
    omega
  · omega

/-- Settles O16, kind by kind. -/
theorem clampLaw : Obligations.ClampLaw := by
  unfold Obligations.ClampLaw
  intro record b hrecord
  have hbyte : ∀ k < 16, byteAt (clampContents record b) k = clampByte (recordKind record) k (byteAt b k) :=
    fun k => byteAt_clampContents record b
  refine ⟨length_clampContents record b, clampContents_clampContents record b, isClamped_iff record b, ?_, ?_, ?_, ?_,
    ?_, ?_, ?_, ?_⟩
  · intro h
    have hkind : recordKind record = .channel := if_pos h
    rw [hkind] at hbyte
    refine ⟨?_, fun k hlo hhi => ?_⟩
    · rw [hbyte 0 (by decide)]
      exact toNat_limit_sixty _
    · rw [hbyte k (by omega)]
      simp only [clampByte, if_neg (show ¬ k = 0 by omega), if_pos (show k < 4 by omega)]
  · intro hlo hhi
    have hkind : recordKind record = .mix := by rw [recordKind, if_neg (by omega), if_pos hhi]
    rw [hkind] at hbyte
    refine ⟨?_, fun k hk => ?_⟩
    · rw [hbyte 1 (by decide)]
      exact toNat_limit_sixty _
    · rw [hbyte k (by omega)]
      simp only [clampByte, if_neg (show ¬ k = 1 by omega), if_pos (show k < 4 by omega)]
  · intro hlo hhi k hk
    have hkind : recordKind record = .send := by rw [recordKind, if_neg (by omega), if_neg (by omega), if_pos hhi]
    rw [hbyte k hk, hkind]
    rfl
  · rintro rfl
    exact ⟨hbyte 0 (by decide), hbyte 1 (by decide), hbyte 2 (by decide)⟩
  · rintro rfl
    exact ⟨hbyte 0 (by decide), hbyte 1 (by decide)⟩
  · intro h k hlo hhi
    rw [hbyte k hhi]
    by_cases hchannel : record < 96
    · rw [show recordKind record = .channel from if_pos hchannel]
      simp only [clampByte, if_neg (show ¬ k = 0 by omega), if_neg (show ¬ k < 4 by omega)]
    · rw [show recordKind record = .mix by rw [recordKind, if_neg hchannel, if_pos h]]
      simp only [clampByte, if_neg (show ¬ k = 1 by omega), if_neg (show ¬ k < 4 by omega)]
  · rintro rfl k hlo hhi
    rw [hbyte k hhi, show recordKind 224 = .talkRoute from rfl]
    simp only [clampByte, if_neg (show ¬ k = 0 by omega), if_neg (show ¬ k < 3 by omega)]
  · rintro rfl k hlo hhi
    rw [hbyte k hhi, show recordKind 225 = .island from rfl]
    simp only [clampByte, if_neg (show ¬ k = 0 by omega), if_neg (show ¬ k = 1 by omega)]

end Sys2Proof.Machine
end


section
/-! The control channel receiver (section 6.3): its loop does not depend on its bound, one equation for each way it takes
a byte, and that a message laid out is recovered whole. -/

namespace Sys2Proof.Machine

variable {s t u : State}

/-! ## The bound of the loop -/

/-- Every taking of the receiver spends from this. -/
def takings (held queue : List Byte) : Nat :=
  (held.length + queue.length) * (held.length + queue.length) + queue.length

theorem takings_consume {held held' queue : List Byte} {b : Byte} (h : held'.length ≤ held.length + 1) :
    takings held' queue < takings held (b :: queue) := by
  unfold takings
  rw [List.length_cons]
  have hmul := Nat.mul_le_mul (show held'.length + queue.length ≤ held.length + (queue.length + 1) by omega)
    (show held'.length + queue.length ≤ held.length + (queue.length + 1) by omega)
  omega

/-- Bytes taken again are fewer than the bytes before: one is dropped. -/
theorem takings_retake {held queue queue' : List Byte} {b : Byte}
    (h : queue'.length ≤ held.length + queue.length) : takings [] queue' < takings held (b :: queue) := by
  unfold takings
  rw [List.length_cons, List.length_nil, Nat.zero_add]
  have hmul := Nat.mul_le_mul h h
  have hsquare : (held.length + (queue.length + 1)) * (held.length + (queue.length + 1)) =
      (held.length + queue.length) * (held.length + queue.length) + 2 * (held.length + queue.length) + 1 := by ring
  omega

theorem takings_le_receiveFuel (held queue : List Byte) : takings held queue ≤ receiveFuel held queue := by
  unfold takings receiveFuel
  have hsquare : (held.length + queue.length + 1) * (held.length + queue.length + 1) =
      (held.length + queue.length) * (held.length + queue.length) + 2 * (held.length + queue.length) + 1 := by ring
  omega

/-! ## One taking (R102, R103) -/

theorem receiveLoop_hunt (f : Nat) (b : Byte) (rest : List Byte) : receiveLoop (f + 1) [] (b :: rest) =
    if (MsgType.ofHeader b).isSome then receiveLoop f [b] rest else receiveLoop f [] rest := rfl

theorem receiveLoop_stray {h : Byte} (hh : MsgType.ofHeader h = none) (f : Nat) (body : List Byte) (b : Byte)
    (rest : List Byte) : receiveLoop (f + 1) (h :: body) (b :: rest) = receiveLoop f [] (body ++ b :: rest) := by
  conv_lhs => unfold receiveLoop
  simp only [hh]

theorem receiveLoop_length {h : Byte} {t : MsgType} (hh : MsgType.ofHeader h = some t) (f : Nat) (b : Byte)
    (rest : List Byte) : receiveLoop (f + 1) [h] (b :: rest) =
      if b.toNat ≤ t.maxPayload then receiveLoop f [h, b] rest else receiveLoop f [] (b :: rest) := by
  conv_lhs => unfold receiveLoop
  simp only [hh]

theorem receiveLoop_collect {h : Byte} {t : MsgType} (hh : MsgType.ofHeader h = some t) (f : Nat) (len : Byte)
    (body : List Byte) (b : Byte) (rest : List Byte) : receiveLoop (f + 1) (h :: len :: body) (b :: rest) =
      if body.length + 3 < len.toNat + 4 then receiveLoop f (h :: len :: (body ++ [b])) rest
      else if checkGood (h :: len :: (body ++ [b])) then
        ((receiveLoop f [] rest).1, heldMessage t (h :: len :: (body ++ [b])) :: (receiveLoop f [] rest).2)
      else receiveLoop f [] (len :: (body ++ [b]) ++ rest) := by
  conv_lhs => unfold receiveLoop
  simp only [hh, List.cons_append, List.length_cons, List.length_append, List.length_nil]
  rfl

theorem receiveLoop_nil (fuel : Nat) (held : List Byte) : receiveLoop fuel held [] = (held, []) := by
  cases fuel <;> rfl

/-- With enough takings the bound does not matter. -/
theorem receiveLoop_congr {f g : Nat} {held queue : List Byte} (hf : takings held queue ≤ f)
    (hg : takings held queue ≤ g) : receiveLoop f held queue = receiveLoop g held queue := by
  induction f generalizing g held queue with
  | zero =>
    have hqueue : queue = [] := List.length_eq_zero_iff.1 (by unfold takings at hf; omega)
    rw [hqueue, receiveLoop_nil, receiveLoop_nil]
  | succ f ih =>
    cases queue with
    | nil => rw [receiveLoop_nil, receiveLoop_nil]
    | cons b rest =>
      cases g with
      | zero =>
        rw [takings, List.length_cons] at hg
        omega
      | succ g =>
        have hstep : ∀ {held' queue' : List Byte}, takings held' queue' < takings held (b :: rest) →
            receiveLoop f held' queue' = receiveLoop g held' queue' := fun h => ih (by omega) (by omega)
        cases held with
        | nil => rw [receiveLoop_hunt, receiveLoop_hunt, hstep (takings_consume (held' := [b]) (by simp)),
            hstep (takings_consume (held' := []) (by simp))]
        | cons h body =>
          cases hh : MsgType.ofHeader h with
          | none => rw [receiveLoop_stray hh, receiveLoop_stray hh, hstep (takings_retake (by simp; omega))]
          | some t =>
            cases body with
            | nil =>
              rw [receiveLoop_length hh, receiveLoop_length hh, hstep (takings_consume (held' := [h, b]) (by simp)),
                hstep (takings_retake (queue' := b :: rest) (by simp))]
            | cons len body =>
              rw [receiveLoop_collect hh, receiveLoop_collect hh,
                hstep (takings_consume (held' := h :: len :: (body ++ [b])) (by simp)),
                hstep (takings_consume (held' := []) (by simp)),
                hstep (takings_retake (queue' := len :: (body ++ [b]) ++ rest) (by simp; omega))]

/-! ## The receiver, taking by taking (R102, R103) -/

/-- The receiver over a run of bytes. -/
def receive (held queue : List Byte) : List Byte × List Msg := receiveLoop (receiveFuel held queue) held queue

theorem receiveLoop_eq_receive {f : Nat} {held queue : List Byte} (h : takings held queue ≤ f) :
    receiveLoop f held queue = receive held queue := receiveLoop_congr h (takings_le_receiveFuel held queue)

theorem receive_nil (held : List Byte) : receive held [] = (held, []) := receiveLoop_nil _ held

/-- One taking with the rest of the run as `receive` does it. -/
theorem receive_cons (held : List Byte) (b : Byte) (rest : List Byte) :
    receive held (b :: rest) = receiveLoop (takings held (b :: rest) + 1) held (b :: rest) :=
  (receiveLoop_eq_receive (Nat.le_succ _)).symm

/-- A fill byte in HUNT is dropped. -/
theorem receive_fill (rest : List Byte) : receive [] (0 :: rest) = receive [] rest := by
  rw [receive_cons, receiveLoop_hunt, if_neg (by decide),
    receiveLoop_eq_receive (takings_consume (held' := []) (by simp)).le]

theorem ofHeader_header (t : MsgType) : MsgType.ofHeader t.header = some t := by cases t <;> decide

theorem receive_header (t : MsgType) (rest : List Byte) : receive [] (t.header :: rest) = receive [t.header] rest := by
  rw [receive_cons, receiveLoop_hunt, ofHeader_header, if_pos Option.isSome_some,
    receiveLoop_eq_receive (takings_consume (held' := [t.header]) (by simp)).le]

theorem receive_length (t : MsgType) {len : Byte} (rest : List Byte) (h : len.toNat ≤ t.maxPayload) :
    receive [t.header] (len :: rest) = receive [t.header, len] rest := by
  rw [receive_cons, receiveLoop_length (ofHeader_header t), if_pos h,
    receiveLoop_eq_receive (takings_consume (held' := [t.header, len]) (by simp)).le]

theorem receive_length_rejected (t : MsgType) {len : Byte} (rest : List Byte) (h : t.maxPayload < len.toNat) :
    receive [t.header] (len :: rest) = receive [] (len :: rest) := by
  rw [receive_cons, receiveLoop_length (ofHeader_header t), if_neg (Nat.not_le_of_lt h),
    receiveLoop_eq_receive (takings_retake (queue' := len :: rest) (by simp)).le]

/-- What a receiver in COLLECT does with the last byte of a message. -/
def receiveLast (t : MsgType) (all rest : List Byte) : List Byte × List Msg :=
  if checkGood all then ((receive [] rest).1, heldMessage t all :: (receive [] rest).2)
  else receive [] (all.drop 1 ++ rest)

theorem receive_collect (t : MsgType) {len : Byte} (body : List Byte) (b : Byte) (rest : List Byte) :
    receive (t.header :: len :: body) (b :: rest) =
      if body.length + 3 < len.toNat + 4 then receive (t.header :: len :: (body ++ [b])) rest
      else receiveLast t (t.header :: len :: (body ++ [b])) rest := by
  rw [receive_cons, receiveLoop_collect (ofHeader_header t),
    receiveLoop_eq_receive (takings_consume (held' := t.header :: len :: (body ++ [b])) (by simp)).le,
    receiveLoop_eq_receive (takings_consume (held' := []) (by simp)).le,
    receiveLoop_eq_receive (takings_retake (queue' := len :: (body ++ [b]) ++ rest) (by simp; omega)).le]
  rfl

/-- The receiver collects a message to its last byte. -/
theorem receive_collect_all (t : MsgType) {len : Byte} (body bytes : List Byte) (b : Byte) (rest : List Byte)
    (h : body.length + bytes.length + 1 = len.toNat + 2) :
    receive (t.header :: len :: body) (bytes ++ b :: rest) =
      receiveLast t (t.header :: len :: (body ++ bytes ++ [b])) rest := by
  induction bytes generalizing body with
  | nil =>
    rw [List.length_nil] at h
    rw [List.nil_append, receive_collect, if_neg (by omega), List.append_nil]
  | cons c bytes ih =>
    rw [List.length_cons] at h
    rw [List.cons_append, receive_collect, if_pos (by omega), ih (body ++ [c]) (by simp; omega)]
    simp

/-! ## Multi-byte fields (chapter 11) -/

theorem byteAt_append_left {l m : List Byte} {k : Nat} (h : k < l.length) : byteAt (l ++ m) k = byteAt l k :=
  List.getD_append _ _ _ _ h

theorem byteAt_append_right {l m : List Byte} {k : Nat} (h : l.length ≤ k) :
    byteAt (l ++ m) k = byteAt m (k - l.length) := List.getD_append_right _ _ _ _ h

/-- The two bytes of a field, read back. -/
theorem half16At_be16 (h : Half) : half16At (be16 h) 0 = h := by
  change h.extractLsb' 8 8 ++ h.extractLsb' 0 8 = h
  exact (BitVec.extractLsb'_append_extractLsb'_eq_extractLsb' (start₁ := 0) (start₂ := 8) (len₁ := 8) (len₂ := 8) rfl).trans
    BitVec.extractLsb'_eq_self

theorem half16At_append_be16 (l : List Byte) (h : Half) : half16At (l ++ be16 h) l.length = h := by
  rw [half16At, byteAt_append_right (Nat.le_refl _), byteAt_append_right (Nat.le_add_right _ 1), Nat.sub_self,
    Nat.add_sub_cancel_left]
  exact half16At_be16 h

theorem length_withCheck (body : List Byte) : (withCheck body).length = body.length + 2 := by simp [withCheck, be16]

theorem checkGood_append (body : List Byte) (check : Half) :
    checkGood (body ++ be16 check) = (crc16 body == check) := by
  have hlength : (body ++ be16 check).length - 2 = body.length := by simp [be16]
  rw [checkGood, hlength, List.take_left, half16At_append_be16]

/-! ## A message recovered (section 6.3, 11.4) -/

theorem maxPayload_lt (t : MsgType) : t.maxPayload < 256 := by cases t <;> decide

theorem toNat_ofNat_length {t : MsgType} {payload : List Byte} (h : payload.length ≤ t.maxPayload) :
    (BitVec.ofNat 8 payload.length).toNat = payload.length := by
  rw [BitVec.toNat_ofNat, Nat.mod_eq_of_lt (h.trans_lt (maxPayload_lt t))]

/-- The bytes of a message up to its check. -/
def messageBody (t : MsgType) (payload : List Byte) : List Byte :=
  t.header :: BitVec.ofNat 8 payload.length :: payload

/-- A receiver in HUNT takes a message with any check to its last byte. -/
theorem receive_message (t : MsgType) {payload : List Byte} (check : Half) (rest : List Byte)
    (h : payload.length ≤ t.maxPayload) :
    receive [] (messageBody t payload ++ be16 check ++ rest) =
      receiveLast t (messageBody t payload ++ be16 check) rest := by
  have hlen := toNat_ofNat_length h
  have hcollect := receive_collect_all t (len := BitVec.ofNat 8 payload.length) [] (payload ++ [check.extractLsb' 8 8])
    (check.extractLsb' 0 8) rest (by rw [hlen]; simp)
  simp only [messageBody, be16, List.cons_append, List.append_assoc, List.nil_append] at hcollect ⊢
  rw [receive_header, receive_length t _ (hlen.trans_le h), hcollect]

theorem heldMessage_message (t : MsgType) (payload : List Byte) (check : Half) :
    heldMessage t (messageBody t payload ++ be16 check) = { type := t, payload := payload } := by
  have hlength : (messageBody t payload ++ be16 check).length - 4 = payload.length := by simp [messageBody, be16]
  rw [heldMessage, hlength]
  simp [messageBody]

theorem receive_message_good (t : MsgType) {payload : List Byte} (rest : List Byte)
    (h : payload.length ≤ t.maxPayload) : receive [] (messageBytes t payload ++ rest) =
      ((receive [] rest).1, { type := t, payload := payload } :: (receive [] rest).2) := by
  change receive [] (messageBody t payload ++ be16 (crc16 (messageBody t payload)) ++ rest) = _
  rw [receive_message t _ rest h, receiveLast, checkGood_append, if_pos (by simp), heldMessage_message]

/-- Settles O12: good check, differing check, rejected length. -/
theorem messageRoundTrip : Obligations.MessageRoundTrip := by
  unfold Obligations.MessageRoundTrip
  refine ⟨fun type payload fill h => ⟨?_, ?_⟩, fun type payload rest check h hcheck => ?_,
    fun type length rest h => ?_⟩
  · rw [messageBytes, length_withCheck]
    rfl
  · change receive [] _ = _
    induction fill with
    | zero =>
      have hgood := receive_message_good type [] h
      rwa [List.append_nil, receive_nil] at hgood
    | succ fill ih =>
      rw [List.replicate_succ, List.cons_append, receive_fill, ih]
  · change receive [] (messageBody type payload ++ be16 check ++ rest) = receive [] _
    rw [receive_message type check rest h, receiveLast, checkGood_append]
    exact if_neg fun hgood => hcheck (beq_iff_eq.1 hgood).symm
  · change receive [] _ = receive [] _
    rw [receive_header, receive_length_rejected type rest h]

end Sys2Proof.Machine
end


section
/-! Frames (sections 6.1, 11.3): which frames are bad, and that what an end builds the other reads back whole. -/

namespace Sys2Proof.Machine

/-! ## Samples -/

/-- The three bytes of a word of 24 bits, read back. -/
theorem append_sampleBytes (w : Sample) : w.extractLsb' 16 8 ++ w.extractLsb' 8 8 ++ w.extractLsb' 0 8 = w := by
  have hupper : w.extractLsb' 16 8 ++ w.extractLsb' 8 8 = w.extractLsb' 8 (8 + 8) :=
    BitVec.extractLsb'_append_extractLsb'_eq_extractLsb' rfl
  rw [hupper]
  exact (BitVec.extractLsb'_append_extractLsb'_eq_extractLsb' (start₁ := 0) (start₂ := 8) (len₁ := 8) (len₂ := 16)
    rfl).trans BitVec.extractLsb'_eq_self

theorem toInt_ofInt_sample {x : Int} (h : inRange (-8388608) 8388607 x) : (BitVec.ofInt 24 x).toInt = x := by
  obtain ⟨hlo, hhi⟩ := h
  rw [BitVec.toInt_ofInt]
  exact Int.bmod_eq_of_le (by omega) (by omega)

theorem samplesOf_sampleBytes_append {x : Int} (h : inRange (-8388608) 8388607 x) (rest : List Byte) :
    samplesOf (sampleBytes x ++ rest) = x :: samplesOf rest := by
  change ((BitVec.ofInt 24 x).extractLsb' 16 8 ++ (BitVec.ofInt 24 x).extractLsb' 8 8 ++
    (BitVec.ofInt 24 x).extractLsb' 0 8 : Sample).toInt :: samplesOf rest = _
  rw [append_sampleBytes, toInt_ofInt_sample h]

theorem samplesOf_flatMap {slots : List Int} (h : ∀ x ∈ slots, inRange (-8388608) 8388607 x) :
    samplesOf (slots.flatMap sampleBytes) = slots := by
  induction slots with
  | nil => rfl
  | cons x xs ih =>
    rw [List.flatMap_cons, samplesOf_sampleBytes_append (h x List.mem_cons_self),
      ih fun y hy => h y (List.mem_cons_of_mem x hy)]

theorem length_flatMap_sampleBytes (slots : List Int) : (slots.flatMap sampleBytes).length = 3 * slots.length := by
  induction slots with
  | nil => rfl
  | cons x xs ih =>
    rw [List.flatMap_cons, List.length_append, ih, List.length_cons]
    change 3 + 3 * xs.length = _
    omega

/-! ## The check of a frame (R93) -/

theorem toNat_frameIndex (b : Byte) : (b.extractLsb' 0 6).toNat = b.toNat % 64 := by simp

/-- A frame long enough is bad by its check or its frame index. -/
theorem checkFrame_eq_none_iff (role : Role) {bytes : List Byte} (h : 8 ≤ bytes.length) :
    checkFrame role bytes = none ↔ crc16 (bytes.take (bytes.length - 2)) ≠ half16At bytes (bytes.length - 2) ∨
      48 ≤ ((byteAt bytes 1).extractLsb' 0 6).toNat := by
  rw [toNat_frameIndex, checkFrame]
  dsimp only
  rw [if_neg (by omega)]
  split_ifs with hcheck hindex
  · simp [hcheck]
  · simp [hindex]
  · simp only [false_iff, not_or]
    exact ⟨hcheck, hindex⟩

/-- A frame built with its check is good where its frame index is. -/
theorem checkFrame_withCheck (role : Role) {body : List Byte} (hlength : 6 ≤ body.length)
    (hindex : (byteAt body 1).toNat % 64 < 48) : checkFrame role (withCheck body) =
      some { tag := 48 * (byteAt body 0).toNat + (byteAt body 1).toNat % 64,
             header := (farContents role (withCheck body)).1, slots := (farContents role (withCheck body)).2,
             control := body.drop (body.length - 4) } := by
  have hbyte : ∀ k < 2, byteAt (withCheck body) k = byteAt body k := fun k hk => byteAt_append_left (by omega)
  have htake : (withCheck body).take body.length = body := List.take_left
  have hcheck : half16At (withCheck body) body.length = crc16 body := half16At_append_be16 body _
  rw [checkFrame]
  dsimp only
  rw [length_withCheck, Nat.add_sub_cancel, htake, hcheck, hbyte 0 (by decide), hbyte 1 (by decide),
    if_neg (by omega), if_neg fun h => h rfl, if_neg (by omega), show body.length + 2 - 6 = body.length - 4 by omega]

/-! ## What an end builds -/

theorem tagBytes_fields (superframe : Word) {index : Nat} (h : index < 48) (rest : List Byte) :
    48 * (byteAt (tagBytes superframe index ++ rest) 0).toNat +
        (byteAt (tagBytes superframe index ++ rest) 1).toNat % 64 = 48 * (superframe.toNat % 256) + index ∧
      (byteAt (tagBytes superframe index ++ rest) 1).toNat % 64 < 48 := by
  have hcount : (superframe.setWidth 8).toNat = superframe.toNat % 256 := by simp
  have hindex : ((BitVec.ofNat 6 index).setWidth 8).toNat % 64 = index := by
    simp
    omega
  change 48 * (superframe.setWidth 8).toNat + ((BitVec.ofNat 6 index).setWidth 8).toNat % 64 = _ ∧
    ((BitVec.ofNat 6 index).setWidth 8).toNat % 64 < 48
  rw [hcount, hindex]
  exact ⟨rfl, h⟩

/-- A frame laid out as tag, header bytes, slots and four control bytes is good and carries its tag and control. -/
theorem checkFrame_laidOut (role : Role) (superframe : Word) {index : Nat} (h : index < 48) (middle : List Byte)
    {control : List Byte} (hcontrol : control.length = 4) :
    checkFrame role (withCheck (tagBytes superframe index ++ middle ++ control)) =
      some { tag := 48 * (superframe.toNat % 256) + index,
             header := (farContents role (withCheck (tagBytes superframe index ++ middle ++ control))).1,
             slots := (farContents role (withCheck (tagBytes superframe index ++ middle ++ control))).2,
             control := control } := by
  obtain ⟨htag, hindex⟩ := tagBytes_fields superframe h (middle ++ control)
  rw [← List.append_assoc] at htag hindex
  have hdrop : (tagBytes superframe index ++ middle ++ control).drop
      ((tagBytes superframe index ++ middle ++ control).length - 4) = control := by
    rw [List.length_append (bs := control), hcontrol, Nat.add_sub_cancel, List.drop_left]
  rw [checkFrame_withCheck role (by simp [tagBytes, hcontrol]) hindex, htag, hdrop]

/-- What the desk reads of a stage frame. -/
theorem farContents_stageFrame (superframe : Word) (index : Nat) (header : Byte) {slots : List Int}
    {control : List Byte} (hcontrol : control.length = 4) (hslots : slots.length = 96)
    (hrange : ∀ x ∈ slots, inRange (-8388608) 8388607 x) :
    farContents .desk (stageFrame superframe index header slots control) = (0#8 ++ header, slots) := by
  have hlength : (slots.flatMap sampleBytes).length = 288 := by rw [length_flatMap_sampleBytes, hslots]
  have hwhole : stageFrame superframe index header slots control =
      tagBytes superframe index ++ [header] ++ (slots.flatMap sampleBytes ++
        (control ++ be16 (crc16 (tagBytes superframe index ++ [header] ++ slots.flatMap sampleBytes ++ control)))) := by
    simp only [stageFrame, withCheck, List.append_assoc]
  rw [hwhole, farContents, if_pos (by simp [tagBytes, be16, farFrameBytes, hlength, hcontrol])]
  rw [List.drop_left' (show (tagBytes superframe index ++ [header]).length = 3 from rfl), List.take_left' hlength,
    samplesOf_flatMap hrange]
  rfl

/-- What the stage reads of a desk frame. -/
theorem farContents_deskFrame (superframe : Word) (index : Nat) (mask : Half) {returns : List Int} {talk : Int}
    {control : List Byte} (hcontrol : control.length = 4) (hreturns : returns.length = 16)
    (hrange : ∀ x ∈ returns, inRange (-8388608) 8388607 x) (htalk : inRange (-8388608) 8388607 talk) :
    farContents .stage (deskFrame superframe index mask returns talk control) = (mask, returns ++ [talk]) := by
  have hsamples : returns.flatMap sampleBytes ++ sampleBytes talk = (returns ++ [talk]).flatMap sampleBytes := by simp
  have hlength : ((returns ++ [talk]).flatMap sampleBytes).length = 51 := by
    rw [length_flatMap_sampleBytes, List.length_append, hreturns]
    rfl
  have hall : ∀ x ∈ returns ++ [talk], inRange (-8388608) 8388607 x := fun x hx =>
    (List.mem_append.1 hx).elim (hrange x) fun hx => List.mem_singleton.1 hx ▸ htalk
  have hwhole : deskFrame superframe index mask returns talk control =
      tagBytes superframe index ++ be16 mask ++ ((returns ++ [talk]).flatMap sampleBytes ++
        (control ++ be16 (crc16 (tagBytes superframe index ++ be16 mask ++ returns.flatMap sampleBytes ++
          sampleBytes talk ++ control)))) := by
    rw [← hsamples]
    simp only [deskFrame, withCheck, List.append_assoc]
  rw [hwhole, farContents, if_pos (by simp only [List.length_append, hlength, hcontrol]; rfl)]
  rw [List.drop_left' (show (tagBytes superframe index ++ be16 mask).length = 4 from rfl), List.take_left' hlength,
    samplesOf_flatMap hall]
  exact congrArg (·, returns ++ [talk]) (half16At_be16 mask)

/-- Settles O11: the check, then the two directions. -/
theorem frameRoundTrip : Obligations.FrameRoundTrip := by
  unfold Obligations.FrameRoundTrip
  refine ⟨fun role bytes h => checkFrame_eq_none_iff role h, fun superframe index control hindex hcontrol => ⟨?_, ?_⟩⟩
  · intro talk island link slots hslots hrange
    have hfar := farContents_stageFrame superframe index (stageHeader talk island link) hcontrol hslots hrange
    have hgood := checkFrame_laidOut .desk superframe hindex
      ([stageHeader talk island link] ++ slots.flatMap sampleBytes) hcontrol
    rw [stageFrame] at hfar ⊢
    rw [← List.append_assoc] at hgood
    rw [hgood, hfar]
  · intro mask returns talk hreturns hrange htalk
    have hfar := farContents_deskFrame superframe index mask hcontrol hreturns hrange htalk
    have hgood := checkFrame_laidOut .stage superframe hindex
      (be16 mask ++ returns.flatMap sampleBytes ++ sampleBytes talk) hcontrol
    rw [deskFrame] at hfar ⊢
    rw [← List.append_assoc, ← List.append_assoc] at hgood
    rw [hgood, hfar]

end Sys2Proof.Machine
end


section
/-! The input channels and the preamp port (chapter 1): the Gain Stepper, the Phantom Sequencer, the start of a transfer,
and an applied CHANNEL record. -/

namespace Sys2Proof.Machine

variable {s t u : State}

/-! ## The start of a transfer (R18) -/

theorem startTransfer_of_head (hrole : s.role = .stage) {n : Nat} {rest : List Nat}
    (hqueue : s.preamp.queue = n :: rest) (hidle : s.preamp.transfer = none) : startTransfer s =
      setChannel n { channelAt s n with sent :=
        { gain := (channelAt s n).appliedGain, pad := (channelAt s n).appliedPad,
          phantom := (channelAt s n).appliedPhantom, valid := true } }
        (s.setPreamp { s.preamp with
          queue := rest,
          transfer := some
            { channel := n,
              word := preampWord n (channelAt s n).appliedGain (channelAt s n).appliedPad
                (channelAt s n).appliedPhantom,
              prior := (channelAt s n).sent } }) := by
  simp only [startTransfer, hrole, hqueue, hidle]

theorem startTransfer_of_busy (h : s.preamp.queue = [] ∨ s.preamp.transfer ≠ none) : startTransfer s = s := by
  unfold startTransfer
  split
  next n rest _ hidle hqueue =>
    rcases h with h | h
    · cases h.symm.trans hqueue
    · exact absurd hidle h
  next => rfl

/-- Settles O41, by whether a transfer can start. -/
theorem transferStarts : Obligations.TransferStarts := by
  unfold Obligations.TransferStarts
  refine fun s hrole => ⟨fun n rest hqueue hidle => ?_, fun h => congrArg _ (startTransfer_of_busy h)⟩
  refine ⟨startTransfer s, rfl, startTransfer_keeps s, ?_, ?_⟩
  all_goals rw [startTransfer_of_head hrole hqueue hidle]
  · rfl
  · rfl

/-! ## The Phantom Sequencer (section 1.5) -/

theorem gateIsClosed_iff (g : Ramp) : gateIsClosed g = true ↔ g.current = 0 ∧ g.target = 0 := by simp [gateIsClosed]

/-- The channel after the reaction to a closed gate (R12, R14). -/
def closedChannel (now : Word) (c : Channel) : Channel :=
  match c.phantom with
  | .mutingOn => { c with appliedPhantom := true, phantomTimer := some (now + 800#32), phantom := .charging }
  | .mutingOff => { c with appliedPhantom := false, phantomTimer := some (now + 800#32), phantom := .discharging }
  | _ => c

/-- The sequencer waits for a gate that is closed. -/
def Reacts (c : Channel) : Prop :=
  c.gate.current = 0 ∧ c.gate.target = 0 ∧ (c.phantom = .mutingOn ∨ c.phantom = .mutingOff)

theorem phantomClosed_of_reacts {n : Nat} (h : Reacts (channelAt s n)) :
    phantomClosed n s = enqueue n (setChannel n (closedChannel s.superframe (channelAt s n)) s) := by
  obtain ⟨hcurrent, htarget, hphantom⟩ := h
  unfold phantomClosed closedChannel
  rw [if_pos ((gateIsClosed_iff _).2 ⟨hcurrent, htarget⟩)]
  rcases hphantom with h | h <;> simp only [h, phantomBoundaries]

theorem phantomClosed_of_not_reacts {n : Nat} (h : ¬ Reacts (channelAt s n)) : phantomClosed n s = s := by
  unfold phantomClosed
  dsimp only
  split_ifs with hclosed
  · obtain ⟨hcurrent, htarget⟩ := (gateIsClosed_iff _).1 hclosed
    split
    next hphantom => exact absurd ⟨hcurrent, htarget, .inl hphantom⟩ h
    next hphantom => exact absurd ⟨hcurrent, htarget, .inr hphantom⟩ h
    next => rfl
  · rfl

theorem phantomExpiry_of_due {n : Nat} {e : Word} (hrole : s.role = .stage)
    (htimer : (channelAt s n).phantomTimer = some e) (hdue : reached s.superframe e = true) :
    phantomExpiry n s = phantomTimeout n s := by
  rw [phantomExpiry, if_pos ⟨hrole, by rw [phantomDue, htimer]; exact hdue⟩]

theorem phantomExpiry_of_not_due {n : Nat} {e : Word} (htimer : (channelAt s n).phantomTimer = some e)
    (hdue : reached s.superframe e = false) : phantomExpiry n s = s := by
  have hnot : phantomDue s n = false := by rw [phantomDue, htimer]; exact hdue
  rw [phantomExpiry, if_neg (by simp [hnot])]

/-- Settles O39: the two reactions, the two timers, and nothing otherwise. -/
theorem phantomReactions : Obligations.PhantomReactions := by
  unfold Obligations.PhantomReactions
  intro s n hrole _
  have hclosed : exec (.gateClosed n) s = .next (phantomClosed n s) := congrArg Host.Outcome.next (if_pos hrole)
  have hreaction : ∀ c, c = closedChannel s.superframe (channelAt s n) → Reacts (channelAt s n) →
      ∃ t, exec (.gateClosed n) s = .next t ∧ Keeps [.channels, .preamp] s t ∧
        t.preamp = { s.preamp with queue := queueWith n s.preamp.queue } ∧ t.channels = s.channels.set n c := by
    intro c hc h
    refine ⟨_, hclosed, phantomClosed_keeps _ _, ?_, ?_⟩ <;> rw [phantomClosed_of_reacts h]
    · exact enqueue_preamp _ _
    · rw [enqueue_channels, setChannel_channels, hc]
  have hexpiry : ∀ {e}, (channelAt s n).phantomTimer = some e → reached s.superframe e = true →
      exec (.phantomTimerExpiry n) s = .next (phantomTimeout n s) := fun htimer hdue =>
    congrArg Host.Outcome.next (phantomExpiry_of_due hrole htimer hdue)
  refine ⟨fun hcurrent htarget hphantom => ?_, fun hcurrent htarget hphantom => ?_, fun hopen => ?_,
    fun e htimer hdue hphantom => ?_, fun e htimer hdue hphantom => ?_,
    fun e htimer hdue => congrArg Host.Outcome.next (phantomExpiry_of_not_due htimer hdue)⟩
  · exact hreaction _ (by rw [closedChannel, hphantom]) ⟨hcurrent, htarget, .inl hphantom⟩
  · exact hreaction _ (by rw [closedChannel, hphantom]) ⟨hcurrent, htarget, .inr hphantom⟩
  · exact hclosed.trans (congrArg Host.Outcome.next
      (phantomClosed_of_not_reacts fun ⟨hcurrent, htarget, _⟩ => hopen ⟨hcurrent, htarget⟩))
  · refine ⟨_, hexpiry htimer hdue, phantomTimeout_keeps _ _, ?_⟩
    simp only [phantomTimeout, hphantom, setChannel_channels]
  · refine ⟨_, hexpiry htimer hdue, phantomTimeout_keeps _ _, ?_⟩
    simp only [phantomTimeout, hphantom, setChannel_channels]

/-! ## The Gain Stepper (section 1.4) -/

/-- The stepper moves a channel at this expiry (R9). -/
def steps (s : State) (n : Nat) : Bool :=
  decide ((channelAt s n).appliedGain ≠ liveGain s n) && decide (n ∉ s.preamp.queue) && !inTransfer s n

theorem steps_iff (s : State) (n : Nat) : steps s n = true ↔
    (channelAt s n).appliedGain ≠ (liveByte s n 0).toNat ∧ n ∉ s.preamp.queue ∧
      ∀ t ∈ s.preamp.transfer, t.channel ≠ n := by
  have htransfer : inTransfer s n = false ↔ ∀ t ∈ s.preamp.transfer, t.channel ≠ n := by
    unfold inTransfer
    cases s.preamp.transfer <;> simp
  rw [steps, Bool.and_eq_true, Bool.and_eq_true, and_assoc, decide_eq_true_iff, decide_eq_true_iff, Bool.not_eq_true',
    htransfer, liveGain]

/-- A channel moved 1 dB toward its live gain. -/
def steppedChannel (s : State) (n : Nat) : Channel :=
  { channelAt s n with appliedGain := gainToward (liveGain s n) (channelAt s n).appliedGain }

theorem stepChannel_of_steps {n : Nat} (h : steps s n = true) :
    stepChannel n s = enqueue n (setChannel n (steppedChannel s n) s) := by
  refine if_pos ?_
  simpa only [steps, Bool.and_eq_true, decide_eq_true_eq, Bool.not_eq_true', and_assoc] using h

theorem stepChannel_of_not_steps {n : Nat} (h : steps s n = false) : stepChannel n s = s := by
  refine if_neg fun hsteps => ?_
  rw [← Bool.not_eq_true, steps, Bool.and_eq_true, Bool.and_eq_true, and_assoc, decide_eq_true_eq, decide_eq_true_eq,
    Bool.not_eq_true'] at h
  exact h hsteps

/-- What the stepper's examination of one channel makes of the others. -/
theorem stepChannel_other {n m : Nat} (hm : m ≠ n) (s : State) :
    channelAt (stepChannel n s) m = channelAt s m ∧ steps (stepChannel n s) m = steps s m := by
  cases h : steps s n
  case false =>
    rw [stepChannel_of_not_steps h]
    exact ⟨rfl, rfl⟩
  case true =>
    have hstep := stepChannel_of_steps h
    have hchannel : channelAt (stepChannel n s) m = channelAt s m :=
      channelAt_of_set_other (c := steppedChannel s n) (by rw [hstep, enqueue_channels]; rfl) hm
    have hlive : liveGain (stepChannel n s) m = liveGain s m := by
      have hstage := (stepChannel_keeps n s).part .stage (by decide)
      rw [liveGain, liveByte, liveContents, hstage]
      rfl
    have hpreamp : (stepChannel n s).preamp = { s.preamp with queue := queueWith n s.preamp.queue } := by
      rw [hstep, enqueue_preamp]
      rfl
    refine ⟨hchannel, ?_⟩
    have hqueue : m ∉ queueWith n s.preamp.queue ↔ m ∉ s.preamp.queue := by
      unfold queueWith
      split <;> simp [hm]
    simp only [steps, hchannel, hlive, hpreamp, hqueue, inTransfer]

theorem stepChannel_preamp (n : Nat) (s : State) : (stepChannel n s).preamp =
    { s.preamp with queue := s.preamp.queue ++ if steps s n then [n] else [] } := by
  cases h : steps s n
  case false => simp [stepChannel_of_not_steps h]
  case true =>
    obtain ⟨-, hfree, -⟩ := (steps_iff s n).1 h
    rw [stepChannel_of_steps h, enqueue_preamp, setChannel_preamp, queueWith_of_not_mem hfree, if_pos rfl]

/-- The stepper over channels, each examined once. -/
theorem forEach_stepChannel {l : List Nat} (hl : l.Nodup) (s : State) (hlength : ∀ n ∈ l, n < s.channels.length) :
    (∀ n ∈ l, steps s n = true → channelAt (forEach stepChannel l s) n = steppedChannel s n) ∧
      (∀ n, (n ∉ l ∨ steps s n = false) → channelAt (forEach stepChannel l s) n = channelAt s n) ∧
      (forEach stepChannel l s).preamp = { s.preamp with queue := s.preamp.queue ++ l.filter (steps s) } := by
  induction l generalizing s with
  | nil => exact ⟨fun n hn => absurd hn List.not_mem_nil, fun _ _ => rfl, by simp [forEach]⟩
  | cons a l ih =>
    obtain ⟨ha, hl⟩ := List.nodup_cons.1 hl
    have hchannels : (stepChannel a s).channels.length = s.channels.length := by
      cases h : steps s a
      · rw [stepChannel_of_not_steps h]
      · rw [stepChannel_of_steps h, enqueue_channels, setChannel_channels, List.length_set]
    obtain ⟨hmoved, hkept, hpreamp⟩ := ih hl (stepChannel a s) fun n hn =>
      hchannels ▸ hlength n (List.mem_cons_of_mem a hn)
    have hother : ∀ n ∈ l, channelAt (stepChannel a s) n = channelAt s n ∧ steps (stepChannel a s) n = steps s n :=
      fun n hn => stepChannel_other (ne_of_mem_of_not_mem hn ha) s
    have hfirst : channelAt (forEach stepChannel l (stepChannel a s)) a = channelAt (stepChannel a s) a :=
      hkept a (.inl ha)
    change (∀ n ∈ a :: l, _ → channelAt (forEach stepChannel l (stepChannel a s)) n = _) ∧
      (∀ n, _ → channelAt (forEach stepChannel l (stepChannel a s)) n = _) ∧
      (forEach stepChannel l (stepChannel a s)).preamp = _
    refine ⟨fun n hn hsteps => ?_, fun n hn => ?_, ?_⟩
    · rcases List.mem_cons.1 hn with rfl | hn
      · rw [hfirst, stepChannel_of_steps hsteps]
        exact channelAt_of_set_self (enqueue_channels ..) (hlength n List.mem_cons_self)
      · obtain ⟨hsame, hsteps'⟩ := hother n hn
        have hlive : liveGain (stepChannel a s) n = liveGain s n := by
          have hstage := (stepChannel_keeps a s).part .stage (by decide)
          rw [liveGain, liveByte, liveContents, hstage]
          rfl
        rw [hmoved n hn (hsteps'.trans hsteps), steppedChannel, hsame, hlive]
        rfl
    · by_cases hna : n = a
      · subst hna
        rcases hn with hn | hn
        · exact absurd List.mem_cons_self hn
        · rw [hfirst, stepChannel_of_not_steps hn]
      · obtain ⟨hsame, hsteps'⟩ := stepChannel_other hna s
        rw [hkept n (hn.imp (fun hn h => hn (List.mem_cons_of_mem a h)) fun hn => hsteps'.trans hn), hsame]
    · have hfilter : l.filter (steps (stepChannel a s)) = l.filter (steps s) :=
        List.filter_congr fun n hn => (hother n hn).2
      rw [hpreamp, hfilter, stepChannel_preamp]
      cases h : steps s a <;> simp [h]

/-- Settles O38: every channel is examined once, in ascending number. -/
theorem gainStepper : Obligations.GainStepper := by
  unfold Obligations.GainStepper
  refine fun s hrole hlength => ⟨fun hdue => congrArg Host.Outcome.next (if_neg (by simp [hdue])), fun hdue => ?_⟩
  have hexec : exec .gainStepperExpiry s = .next (forEach stepChannel (List.range 96) (s.setStepperDue false)) :=
    congrArg Host.Outcome.next (if_pos ⟨hrole, hdue⟩)
  have hkeeps : Keeps [.channels, .stepperDue, .preamp] s (forEach stepChannel (List.range 96) (s.setStepperDue false)) :=
    ((setStepperDue_keeps s false).mono (by decide)).next
      (forEach_keeps (T := [.channels, .preamp]) stepChannel_keeps _ _) (by decide)
  have hstepper : (forEach stepChannel (List.range 96) (s.setStepperDue false)).stepperDue = false :=
    (forEach_keeps (T := [.channels, .preamp]) stepChannel_keeps _ _).part .stepperDue (by decide)
  have hids : ∀ n ∈ List.range 96, n < 96 := fun n => List.mem_range.1
  have hall : ∀ n < 96, n ∈ List.range 96 := fun n => List.mem_range.2
  have hsorted : (List.range 96).Pairwise (· < ·) := List.pairwise_lt_range
  have honce : (List.range 96).Nodup := List.nodup_range
  generalize List.range 96 = l at hexec hkeeps hstepper hids hall hsorted honce
  obtain ⟨hmoved, hkept, hpreamp⟩ := forEach_stepChannel honce (s.setStepperDue false)
    fun n hn => (hids n hn).trans_eq hlength.symm
  refine ⟨_, hexec, hkeeps, hstepper, fun n hn hsteps => ?_, fun n hsteps => ?_, by rw [hpreamp]; rfl,
    by rw [hpreamp]; rfl, l.filter (steps s), by rw [hpreamp]; rfl, hsorted.filter _, fun n => ?_⟩
  · exact hmoved n (hall n hn) ((steps_iff s n).2 hsteps)
  · exact hkept n (.inr (Bool.eq_false_iff.2 fun h => hsteps ((steps_iff s n).1 h)))
  · rw [List.mem_filter, steps_iff]
    exact and_congr_left fun _ => ⟨hids n, hall n⟩

end Sys2Proof.Machine
end


section
/-! An admitted PUSH and PULL at the stage (section 8.11), and what an applied CHANNEL record does to its channel
(sections 1.3, 1.5). -/

namespace Sys2Proof.Machine

variable {s t u : State} {n : Nat} {c d : Channel} {e f : Bool}

/-! ## One channel and the update queue -/

/-- Channel `n` becomes `c` and, where `e` says so, enters the update queue; no other channel changes. -/
def ChannelBecomes (n : Nat) (c : Channel) (e : Bool) (s t : State) : Prop :=
  t.channels = s.channels.set n c ∧
    t.preamp = { s.preamp with queue := if e then queueWith n s.preamp.queue else s.preamp.queue }

theorem ChannelBecomes.rfl : ChannelBecomes n (channelAt s n) false s s := ⟨(set_channelAt n s).symm, by simp⟩

theorem ChannelBecomes.set : ChannelBecomes n c false s (setChannel n c s) := ⟨setChannel_channels .., by simp⟩

theorem ChannelBecomes.set_enqueue : ChannelBecomes n c true s (enqueue n (setChannel n c s)) :=
  ⟨by simp, by simp⟩

theorem ChannelBecomes.channelAt (h : ChannelBecomes n c e s t) (hn : n < s.channels.length) : channelAt t n = c :=
  channelAt_of_set_self h.1 hn

theorem ChannelBecomes.length (h : ChannelBecomes n c e s t) : t.channels.length = s.channels.length := by
  rw [h.1, List.length_set]

theorem ChannelBecomes.trans (h : ChannelBecomes n c e s t) (h' : ChannelBecomes n d f t u) :
    ChannelBecomes n d (e || f) s u := by
  obtain ⟨hchannels, hqueue⟩ := h
  obtain ⟨hchannels', hqueue'⟩ := h'
  refine ⟨by rw [hchannels', hchannels, List.set_set], ?_⟩
  rw [hqueue', hqueue]
  cases e <;> cases f <;> simp

/-! ## The Phantom Sequencer's field events (R12 to R15) -/

/-- A muting channel: its gate is on the way to 0, or closed, and then the reaction follows at once. -/
theorem phantomClosed_becomes (hn : n < s.channels.length) (hphantom : c.phantom = .mutingOn ∨ c.phantom = .mutingOff)
    (htarget : c.gate.target = 0) :
    ChannelBecomes n (if c.gate.current = 0 then closedChannel s.superframe c else c) (decide (c.gate.current = 0)) s
      (phantomClosed n (setChannel n c s)) := by
  have hset : channelAt (setChannel n c s) n = c := ChannelBecomes.set.channelAt hn
  by_cases hcurrent : c.gate.current = 0
  · rw [phantomClosed_of_reacts (by rw [hset]; exact ⟨hcurrent, htarget, hphantom⟩), hset, if_pos hcurrent,
      decide_eq_true hcurrent]
    exact ChannelBecomes.set.trans ChannelBecomes.set_enqueue
  · rw [phantomClosed_of_not_reacts (by rw [hset]; exact fun h => hcurrent h.1), if_neg hcurrent,
      decide_eq_false hcurrent]
    exact ChannelBecomes.set

theorem rampTarget_current (v : Int) (g : Ramp) : (rampTarget v g).current = g.current := by
  unfold rampTarget
  split <;> rfl

theorem rampTarget_target (v : Int) (g : Ramp) : (rampTarget v g).target = v := by
  unfold rampTarget
  split
  next h => exact h.symm
  next => rfl

/-- The states in which a raised phantom field starts muting. -/
@[reducible] def Raises (c : Channel) : Prop := c.phantom = .off ∨ c.phantom = .mutingOff ∨ c.phantom = .discharging

/-- The states in which a dropped phantom field starts muting. -/
@[reducible] def Drops (c : Channel) : Prop := c.phantom = .charging ∨ c.phantom = .on

/-- The channel with its gate on the way to 0 and no timer that DISCHARGING or CHARGING had set. -/
def mutedChannel (p : PhantomState) (c : Channel) : Channel :=
  { c with
    gate := rampTarget 0 c.gate, phantom := p,
    phantomTimer := if c.phantom = .discharging ∨ c.phantom = .charging then none else c.phantomTimer }

/-- The muted channel, with the reaction where its gate is shut already. -/
def shutChannel (now : Word) (p : PhantomState) (c : Channel) : Channel :=
  if c.gate.current = 0 then closedChannel now (mutedChannel p c) else mutedChannel p c

theorem mutedChannel_becomes (hn : n < s.channels.length) {p : PhantomState} (hp : p = .mutingOn ∨ p = .mutingOff) :
    ChannelBecomes n (shutChannel s.superframe p (channelAt s n)) (decide ((channelAt s n).gate.current = 0)) s
      (phantomClosed n (setChannel n (mutedChannel p (channelAt s n)) s)) := by
  have h := phantomClosed_becomes (c := mutedChannel p (channelAt s n)) hn hp (rampTarget_target ..)
  rwa [mutedChannel, rampTarget_current] at h

theorem phantomFieldOn_of_raises (hn : n < s.channels.length) (h : Raises (channelAt s n)) :
    ChannelBecomes n (shutChannel s.superframe .mutingOn (channelAt s n)) (decide ((channelAt s n).gate.current = 0)) s
      (phantomFieldOn n s) := by
  have hmuted : phantomFieldOn n s = phantomClosed n (setChannel n (mutedChannel .mutingOn (channelAt s n)) s) := by
    unfold phantomFieldOn mutedChannel
    rcases h with h | h | h <;> simp [h]
  exact hmuted ▸ mutedChannel_becomes hn (.inl rfl)

theorem phantomFieldOn_of_not_raises (h : ¬ Raises (channelAt s n)) : phantomFieldOn n s = s := by
  unfold phantomFieldOn
  dsimp only
  cases hphantom : (channelAt s n).phantom with
  | off => exact absurd (.inl hphantom) h
  | mutingOff => exact absurd (.inr (.inl hphantom)) h
  | discharging => exact absurd (.inr (.inr hphantom)) h
  | mutingOn => rfl
  | charging => rfl
  | on => rfl
  | fault => rfl

theorem phantomFieldOff_of_drops (hn : n < s.channels.length) (h : Drops (channelAt s n)) :
    ChannelBecomes n (shutChannel s.superframe .mutingOff (channelAt s n)) (decide ((channelAt s n).gate.current = 0)) s
      (phantomFieldOff n s) := by
  have hmuted : phantomFieldOff n s = phantomClosed n (setChannel n (mutedChannel .mutingOff (channelAt s n)) s) := by
    unfold phantomFieldOff mutedChannel
    rcases h with h | h <;> simp [h]
  exact hmuted ▸ mutedChannel_becomes hn (.inr rfl)

/-- A dropped phantom field in a state that needs no muting: MUTING_ON reopens, a FAULT discharges. -/
def droppedChannel (now : Word) (c : Channel) : Channel :=
  match c.phantom with
  | .mutingOn => { c with gate := rampTarget unity c.gate, phantom := .off }
  | .fault => { c with phantomTimer := some (now + 800#32), phantom := .discharging }
  | _ => c

theorem phantomFieldOff_of_not_drops (h : ¬ Drops (channelAt s n)) :
    ChannelBecomes n (droppedChannel s.superframe (channelAt s n)) false s (phantomFieldOff n s) := by
  unfold phantomFieldOff droppedChannel
  dsimp only
  cases hphantom : (channelAt s n).phantom with
  | charging => exact absurd (.inl hphantom) h
  | on => exact absurd (.inr hphantom) h
  | mutingOn => exact ChannelBecomes.set
  | fault => exact ChannelBecomes.set
  | off => exact ChannelBecomes.rfl
  | mutingOff => exact ChannelBecomes.rfl
  | discharging => exact ChannelBecomes.rfl

/-- The channel after its phantom field has changed to `on`. -/
def fieldChannel (now : Word) (on : Bool) (c : Channel) : Channel :=
  match on with
  | true => if Raises c then shutChannel now .mutingOn c else c
  | false => if Drops c then shutChannel now .mutingOff c else droppedChannel now c

/-- The phantom field's change brings its reaction at once, which enqueues the channel. -/
def fieldEnqueues (on : Bool) (c : Channel) : Bool :=
  match on with
  | true => decide (Raises c ∧ c.gate.current = 0)
  | false => decide (Drops c ∧ c.gate.current = 0)

theorem phantomField_becomes (hn : n < s.channels.length) (on : Bool) :
    ChannelBecomes n (fieldChannel s.superframe on (channelAt s n)) (fieldEnqueues on (channelAt s n)) s
      (if on then phantomFieldOn n s else phantomFieldOff n s) := by
  cases on with
  | true =>
    by_cases h : Raises (channelAt s n)
    · simpa only [fieldChannel, fieldEnqueues, h, if_true, true_and] using phantomFieldOn_of_raises hn h
    · simpa only [fieldChannel, fieldEnqueues, h, if_true, if_false, false_and, decide_false,
        phantomFieldOn_of_not_raises h] using ChannelBecomes.rfl
  | false =>
    by_cases h : Drops (channelAt s n)
    · simpa only [fieldChannel, fieldEnqueues, h, if_true, true_and, Bool.false_eq_true, if_false]
        using phantomFieldOff_of_drops hn h
    · simpa only [fieldChannel, fieldEnqueues, h, if_false, false_and, decide_false, Bool.false_eq_true]
        using phantomFieldOff_of_not_drops h

/-! ## The applied CHANNEL record (section 1.3) -/

/-- The channel with a changed pad applied. -/
def paddedChannel (old new : List Byte) (c : Channel) : Channel :=
  { c with appliedPad := if byteAt new 1 = byteAt old 1 then c.appliedPad else bitOf (byteAt new 1) }

/-- The channel with a changed pad and the change of its phantom field applied. -/
def phantomAppliedChannel (now : Word) (old new : List Byte) (c : Channel) : Channel :=
  if byteAt new 2 = byteAt old 2 then paddedChannel old new c
  else fieldChannel now (bitOf (byteAt new 2)) (paddedChannel old new c)

/-- The channel after its record is applied. -/
def recordChannel (now : Word) (old new : List Byte) (c : Channel) : Channel :=
  { phantomAppliedChannel now old new c with
    polarity := if byteAt new 3 = byteAt old 3 then (phantomAppliedChannel now old new c).polarity
      else bitOf (byteAt new 3) }

/-- The applied record enqueues its channel. -/
def recordEnqueues (old new : List Byte) (c : Channel) : Bool :=
  decide (byteAt new 1 ≠ byteAt old 1) ||
    (decide (byteAt new 2 ≠ byteAt old 2) && fieldEnqueues (bitOf (byteAt new 2)) c)

theorem fieldEnqueues_paddedChannel (on : Bool) (old new : List Byte) (c : Channel) :
    fieldEnqueues on (paddedChannel old new c) = fieldEnqueues on c := rfl

theorem applyChannelRecord_becomes (hn : n < s.channels.length) (old new : List Byte) :
    ChannelBecomes n (recordChannel s.superframe old new (channelAt s n)) (recordEnqueues old new (channelAt s n)) s
      (applyChannelRecord n old new s) := by
  have hpad : ChannelBecomes n (paddedChannel old new (channelAt s n)) (decide (byteAt new 1 ≠ byteAt old 1)) s
      (if byteAt new 1 = byteAt old 1 then s else applyPad n (bitOf (byteAt new 1)) s) := by
    unfold paddedChannel
    by_cases h : byteAt new 1 = byteAt old 1
    · simpa [h] using ChannelBecomes.rfl
    · simpa [h, applyPad] using ChannelBecomes.set_enqueue (s := s) (n := n)
        (c := { channelAt s n with appliedPad := bitOf (byteAt new 1) })
  have hsuper := ((applyPad_keeps n (bitOf (byteAt new 1)) s).part .superframe (by decide))
  have hsuperframe : (if byteAt new 1 = byteAt old 1 then s else applyPad n (bitOf (byteAt new 1)) s).superframe =
      s.superframe := by
    split
    · rfl
    · exact hsuper
  unfold applyChannelRecord
  dsimp only
  generalize (if byteAt new 1 = byteAt old 1 then s else applyPad n (bitOf (byteAt new 1)) s) = s₁ at *
  have hn₁ : n < s₁.channels.length := hpad.length ▸ hn
  have hphantom : ChannelBecomes n (phantomAppliedChannel s.superframe old new (channelAt s n))
      (decide (byteAt new 2 ≠ byteAt old 2) && fieldEnqueues (bitOf (byteAt new 2)) (channelAt s n)) s₁
      (if byteAt new 2 = byteAt old 2 then s₁
        else if bitOf (byteAt new 2) then phantomFieldOn n s₁ else phantomFieldOff n s₁) := by
    unfold phantomAppliedChannel
    rw [← fieldEnqueues_paddedChannel _ old new, ← hpad.channelAt hn, ← hsuperframe]
    by_cases h : byteAt new 2 = byteAt old 2
    · simpa [h] using ChannelBecomes.rfl
    · simpa [h] using phantomField_becomes hn₁ (bitOf (byteAt new 2))
  have hboth := hpad.trans hphantom
  generalize (if byteAt new 2 = byteAt old 2 then s₁
    else if bitOf (byteAt new 2) then phantomFieldOn n s₁ else phantomFieldOff n s₁) = s₂ at *
  have hchannel := hboth.channelAt hn
  by_cases h : byteAt new 3 = byteAt old 3
  · simpa only [recordChannel, recordEnqueues, h, if_true] using hboth
  · simpa [recordChannel, recordEnqueues, h, applyPolarityField, hchannel] using
      hboth.trans (ChannelBecomes.set (c := { channelAt s₂ n with polarity := bitOf (byteAt new 3) }))

/-- The phantom field's change moves only the gate and the sequencer. -/
theorem fieldChannel_eq (now : Word) (on : Bool) (c : Channel) : fieldChannel now on c =
    { c with
      gate := (fieldChannel now on c).gate, phantom := (fieldChannel now on c).phantom,
      phantomTimer := (fieldChannel now on c).phantomTimer,
      appliedPhantom := (fieldChannel now on c).appliedPhantom } := by
  have hshut : ∀ p, shutChannel now p c =
      { c with
        gate := (shutChannel now p c).gate, phantom := (shutChannel now p c).phantom,
        phantomTimer := (shutChannel now p c).phantomTimer,
        appliedPhantom := (shutChannel now p c).appliedPhantom } := by
    intro p
    unfold shutChannel closedChannel
    split
    · split <;> rfl
    · rfl
  have hdropped : droppedChannel now c =
      { c with
        gate := (droppedChannel now c).gate, phantom := (droppedChannel now c).phantom,
        phantomTimer := (droppedChannel now c).phantomTimer,
        appliedPhantom := (droppedChannel now c).appliedPhantom } := by
    unfold droppedChannel
    split <;> rfl
  unfold fieldChannel
  cases on <;> dsimp only
  · split
    · exact hshut _
    · exact hdropped
  · split
    · exact hshut _
    · rfl

theorem shutChannel_of_shut (now : Word) (p : PhantomState) (h : c.gate.current = 0) :
    shutChannel now p c = closedChannel now (mutedChannel p c) := if_pos h

theorem shutChannel_of_open (now : Word) (p : PhantomState) (h : c.gate.current ≠ 0) :
    shutChannel now p c = mutedChannel p c := if_neg h

theorem shutChannel_gate (now : Word) (p : PhantomState) (c : Channel) :
    (shutChannel now p c).gate = rampTarget 0 c.gate := by
  unfold shutChannel closedChannel
  split
  · split <;> rfl
  · rfl

/-- What the applied record makes of the channel's gate and sequencer (R12 to R15). -/
structure SequencerMoves (now : Word) (on : Bool) (c d : Channel) : Prop where
  stays : (if on then ¬ Raises c else ¬ Drops c ∧ c.phantom ≠ .mutingOn ∧ c.phantom ≠ .fault) →
    d.gate = c.gate ∧ d.phantom = c.phantom ∧ d.phantomTimer = c.phantomTimer ∧ d.appliedPhantom = c.appliedPhantom
  raises : on = true → Raises c → d.gate = rampTarget 0 c.gate ∧
    (c.gate.current = 0 → d.phantom = .charging ∧ d.appliedPhantom = true ∧ d.phantomTimer = some (now + 800#32)) ∧
    (c.gate.current ≠ 0 → d.phantom = .mutingOn ∧ d.appliedPhantom = c.appliedPhantom)
  drops : on = false → Drops c → d.gate = rampTarget 0 c.gate ∧
    (c.gate.current = 0 →
      d.phantom = .discharging ∧ d.appliedPhantom = false ∧ d.phantomTimer = some (now + 800#32)) ∧
    (c.gate.current ≠ 0 → d.phantom = .mutingOff ∧ d.appliedPhantom = c.appliedPhantom)
  reopens : on = false → c.phantom = .mutingOn →
    d.gate = rampTarget unity c.gate ∧ d.phantom = .off ∧ d.appliedPhantom = c.appliedPhantom
  discharges : on = false → c.phantom = .fault →
    d.gate = c.gate ∧ d.phantom = .discharging ∧ d.phantomTimer = some (now + 800#32) ∧
      d.appliedPhantom = c.appliedPhantom

theorem fieldChannel_moves (now : Word) (on : Bool) (c : Channel) :
    SequencerMoves now on c (fieldChannel now on c) := by
  refine ⟨fun h => ?_, fun hon h => ?_, fun hon h => ?_, fun hon h => ?_, fun hon h => ?_⟩
  · cases on with
    | true => simp only [fieldChannel, if_neg (show ¬ Raises c by simpa using h), and_self]
    | false =>
      obtain ⟨hdrops, hmuting, hfault⟩ : ¬ Drops c ∧ c.phantom ≠ .mutingOn ∧ c.phantom ≠ .fault := by simpa using h
      simp only [fieldChannel, if_neg hdrops, droppedChannel]
      cases hphantom : c.phantom <;> simp_all
  · simp only [hon, fieldChannel, if_pos h]
    refine ⟨shutChannel_gate .., fun hshut => ?_, fun hopen => ?_⟩
    · simp only [shutChannel_of_shut _ _ hshut, closedChannel, mutedChannel, and_self]
    · simp only [shutChannel_of_open _ _ hopen, mutedChannel, and_self]
  · simp only [hon, fieldChannel, if_pos h]
    refine ⟨shutChannel_gate .., fun hshut => ?_, fun hopen => ?_⟩
    · simp only [shutChannel_of_shut _ _ hshut, closedChannel, mutedChannel, and_self]
    · simp only [shutChannel_of_open _ _ hopen, mutedChannel, and_self]
  · simp only [hon, fieldChannel, Drops, h, reduceCtorEq, or_self, if_false, droppedChannel, and_self]
  · simp only [hon, fieldChannel, Drops, h, reduceCtorEq, or_self, if_false, droppedChannel, and_self]

/-! ## An admitted PUSH and PULL (section 8.11) -/

/-- The reply queue after a reply is offered: it takes sixteen. -/
def repliesWith (r : Reply) (q : List Reply) : List Reply := if q.length < 16 then q ++ [r] else q

theorem enqueueReply_sched (r : Reply) (s : State) :
    (enqueueReply r s).sched = { s.sched with replies := repliesWith r s.sched.replies } := by
  unfold enqueueReply repliesWith
  split <;> rfl

/-- The state whose live record is replaced, before the blocks of its kind act. -/
def storedPush (r : Nat) (v : Word) (contents : List Byte) (s : State) : State :=
  s.setStage
    { live := s.stage.live.set r { contents := clampContents r contents, version := v, stamp := s.superframe },
      fresh := false }

theorem applyPush_of_channel {r : Nat} (hr : r < 96) (v : Word) (contents : List Byte) (s : State) :
    applyPush r v contents s = enqueueReply (.ack r v)
      (applyChannelRecord r (liveContents s r) (clampContents r contents) (storedPush r v contents s)) := by
  unfold applyPush
  dsimp only
  rw [if_pos (recordKind_channel_iff.2 hr)]
  rfl

theorem applyPush_of_other {r : Nat} (hr : 96 ≤ r) (v : Word) (contents : List Byte) (s : State) :
    applyPush r v contents s = enqueueReply (.ack r v) (storedPush r v contents s) := by
  unfold applyPush
  dsimp only
  rw [if_neg (mt recordKind_channel_iff.1 (not_lt.2 hr))]
  rfl

theorem applyPush_sched (r : Nat) (v : Word) (contents : List Byte) (s : State) :
    (applyPush r v contents s).sched = { s.sched with replies := repliesWith (.ack r v) s.sched.replies } := by
  rcases lt_or_ge r 96 with hr | hr
  · rw [applyPush_of_channel hr, enqueueReply_sched, (applyChannelRecord_keeps _ _ _ _).part .sched (by decide)]
    rfl
  · rw [applyPush_of_other hr, enqueueReply_sched]
    rfl

theorem receivePush_of_dropped {r : Nat} (h : s.link.state ≠ .linked ∨ 226 ≤ r) (v : Word) (contents : List Byte) :
    receivePush r v contents s = s :=
  if_neg fun ⟨_, hlinked, hr⟩ => h.elim (fun h => h hlinked) (fun h => absurd hr (not_lt.2 h))

theorem receivePull_of_dropped {r : Nat} (h : s.link.state ≠ .linked ∨ 226 ≤ r) : receivePull r s = s :=
  if_neg fun ⟨_, hlinked, hr⟩ => h.elim (fun h => h hlinked) (fun h => absurd hr (not_lt.2 h))

/-- No channel but `n` changes. -/
def OnlyChannel (n : Nat) (s t : State) : Prop := ∃ c, t.channels = s.channels.set n c

theorem OnlyChannel.refl (n : Nat) (s : State) : OnlyChannel n s s := ⟨channelAt s n, (set_channelAt n s).symm⟩

theorem OnlyChannel.set (n : Nat) (c : Channel) (s : State) : OnlyChannel n s (setChannel n c s) :=
  ⟨c, setChannel_channels ..⟩

theorem OnlyChannel.enqueued (h : OnlyChannel n s t) : OnlyChannel n s (enqueue n t) := by
  rwa [OnlyChannel, enqueue_channels]

theorem OnlyChannel.trans (h : OnlyChannel n s t) (h' : OnlyChannel n t u) : OnlyChannel n s u := by
  obtain ⟨c, hc⟩ := h
  obtain ⟨d, hd⟩ := h'
  exact ⟨d, by rw [hd, hc, List.set_set]⟩

theorem phantomClosed_onlyChannel (n : Nat) (s : State) : OnlyChannel n s (phantomClosed n s) := by
  by_cases h : Reacts (channelAt s n)
  · rw [phantomClosed_of_reacts h]
    exact (OnlyChannel.set ..).enqueued
  · rw [phantomClosed_of_not_reacts h]
    exact .refl n s

theorem phantomFieldOn_onlyChannel (n : Nat) (s : State) : OnlyChannel n s (phantomFieldOn n s) := by
  unfold phantomFieldOn
  dsimp only
  split
  · exact (OnlyChannel.set ..).trans (phantomClosed_onlyChannel ..)
  · exact (OnlyChannel.set ..).trans (phantomClosed_onlyChannel ..)
  · exact (OnlyChannel.set ..).trans (phantomClosed_onlyChannel ..)
  all_goals exact .refl n s

theorem phantomFieldOff_onlyChannel (n : Nat) (s : State) : OnlyChannel n s (phantomFieldOff n s) := by
  unfold phantomFieldOff
  dsimp only
  split
  · exact .set ..
  · exact (OnlyChannel.set ..).trans (phantomClosed_onlyChannel ..)
  · exact (OnlyChannel.set ..).trans (phantomClosed_onlyChannel ..)
  · exact .set ..
  all_goals exact .refl n s

theorem applyChannelRecord_onlyChannel (n : Nat) (old new : List Byte) (s : State) :
    OnlyChannel n s (applyChannelRecord n old new s) := by
  have hkept : ∀ (p : Prop) [Decidable p] (t u : State), OnlyChannel n t u → OnlyChannel n t (if p then t else u) := by
    intro p _ t u h
    split
    · exact .refl n t
    · exact h
  have hphantom : ∀ t, OnlyChannel n t
      (if bitOf (byteAt new 2) then phantomFieldOn n t else phantomFieldOff n t) := by
    intro t
    split
    · exact phantomFieldOn_onlyChannel n t
    · exact phantomFieldOff_onlyChannel n t
  exact (hkept _ _ _ (OnlyChannel.set ..).enqueued).trans
    ((hkept _ _ _ (hphantom _)).trans (hkept _ _ _ (OnlyChannel.set ..)))

theorem applyPush_channelAt_of_ne {r n : Nat} (hn : n ≠ r) (hr : r < 96) (v : Word) (contents : List Byte) (s : State) :
    channelAt (applyPush r v contents s) n = channelAt s n := by
  obtain ⟨c, hc⟩ := applyChannelRecord_onlyChannel r (liveContents s r) (clampContents r contents)
    (storedPush r v contents s)
  refine channelAt_of_set_other (c := c) (n := r) ?_ hn
  rw [applyPush_of_channel hr, (enqueueReply_keeps _ _).part .channels (by decide), hc]
  rfl

/-- Settles O54: dropped or applied, by the link state and the record. -/
theorem pushPullTaken : Obligations.PushPullTaken := by
  unfold Obligations.PushPullTaken
  intro s type p rest hrole hinbox
  have hu := setReceiver_keeps s { s.receiver with inbox := rest }
  generalize hreceived : s.setReceiver { s.receiver with inbox := rest } = u at *
  have hinbox' : u.receiver = { s.receiver with inbox := rest } := by rw [← hreceived]; rfl
  have hlink : u.link = s.link := hu.part .link (by decide)
  have hstage : u.stage = s.stage := hu.part .stage (by decide)
  have hsched : u.sched = s.sched := hu.part .sched (by decide)
  have hsuperframe : u.superframe = s.superframe := hu.part .superframe (by decide)
  have hchannels : u.channels = s.channels := hu.part .channels (by decide)
  have hurole : u.role = .stage := (hu.part .role (by decide)).trans hrole
  refine ⟨fun htype => ?push, fun htype => ?pull⟩
  case push =>
    subst htype
    have hexec : exec .pushReceived s =
        .next (receivePush (payloadRecord p) (word32At p 2) (payloadContents p) u) :=
      congrArg Host.Outcome.next ((consumeHead_of_head hinbox).trans (by rw [hreceived]; rfl))
    refine ⟨_, hexec, ((receivePush_keeps _ _ _ _).part .receiver (by decide)).trans hinbox', fun hdrop => ?_,
      fun hlinked hr => ?_⟩
    · rw [receivePush_of_dropped (hlink ▸ hdrop)]
      exact hu
    · rw [receivePush, if_pos ⟨hurole, hlink ▸ hlinked, hr⟩]
      refine ⟨by rw [applyPush_stage, hstage, hsuperframe]; rfl, by rw [applyPush_stage],
        by rw [applyPush_sched, hsched]; rfl, (hu.mono (by decide)).next (applyPush_keeps _ _ _ _) (by decide),
        fun hother => ?_, fun hchannel n hn => ?_⟩
      · rw [applyPush_of_other (r := payloadRecord p) hother]
        exact ((hu.mono (by decide)).next (setStage_keeps _ _) (by decide)).next (enqueueReply_keeps _ _) (by decide)
      · rw [applyPush_channelAt_of_ne (r := payloadRecord p) hn hchannel, channelAt, hchannels]
        rfl
  case pull =>
    subst htype
    have hexec : exec .pullReceived s = .next (receivePull (payloadRecord p) u) :=
      congrArg Host.Outcome.next ((consumeHead_of_head hinbox).trans (by rw [hreceived]; rfl))
    refine ⟨_, hexec, ((receivePull_keeps _ _).part .receiver (by decide)).trans hinbox', fun hdrop => ?_,
      fun hlinked hr => ?_⟩
    · rw [receivePull_of_dropped (hlink ▸ hdrop)]
      exact hu
    · rw [receivePull, if_pos ⟨hurole, hlink ▸ hlinked, hr⟩]
      exact ⟨(hu.mono (by decide)).next (enqueueReply_keeps _ _) (by decide), by rw [enqueueReply_sched, hsched]; rfl⟩

/-- The applied record moves pad, polarity, and what its phantom field's change moves. -/
theorem recordChannel_eq (now : Word) (old new : List Byte) (c : Channel) : recordChannel now old new c =
    { c with
      appliedPad := if byteAt new 1 = byteAt old 1 then c.appliedPad else bitOf (byteAt new 1),
      polarity := if byteAt new 3 = byteAt old 3 then c.polarity else bitOf (byteAt new 3),
      gate := (recordChannel now old new c).gate, phantom := (recordChannel now old new c).phantom,
      phantomTimer := (recordChannel now old new c).phantomTimer,
      appliedPhantom := (recordChannel now old new c).appliedPhantom } := by
  unfold recordChannel phantomAppliedChannel
  by_cases h : byteAt new 2 = byteAt old 2
  · simp only [if_pos h, paddedChannel]
  · simp only [if_neg h]
    rw [fieldChannel_eq]
    simp only [paddedChannel]

/-- A record whose phantom field is the same leaves gate and sequencer alone. -/
theorem recordChannel_of_same {now : Word} {old new : List Byte} (h : byteAt new 2 = byteAt old 2) :
    (recordChannel now old new c).gate = c.gate ∧ (recordChannel now old new c).phantom = c.phantom ∧
      (recordChannel now old new c).phantomTimer = c.phantomTimer ∧
      (recordChannel now old new c).appliedPhantom = c.appliedPhantom := by
  simp only [recordChannel, phantomAppliedChannel, if_pos h, paddedChannel, and_self]

theorem recordChannel_moves {old new : List Byte} (now : Word) (h : byteAt new 2 ≠ byteAt old 2) (c : Channel) :
    SequencerMoves now (bitOf (byteAt new 2)) c (recordChannel now old new c) := by
  obtain ⟨hstays, hraises, hdrops, hreopens, hdischarges⟩ :=
    fieldChannel_moves now (bitOf (byteAt new 2)) (paddedChannel old new c)
  simp only [recordChannel, phantomAppliedChannel, if_neg h]
  exact ⟨hstays, hraises, hdrops, hreopens, hdischarges⟩

theorem recordEnqueues_iff (old new : List Byte) (c : Channel) : recordEnqueues old new c = true ↔
    byteAt new 1 ≠ byteAt old 1 ∨
      ((byteAt new 2 ≠ byteAt old 2 ∧ byteAt new 2 ≠ 0) ∧ c.gate.current = 0 ∧ Raises c) ∨
      ((byteAt new 2 ≠ byteAt old 2 ∧ byteAt new 2 = 0) ∧ c.gate.current = 0 ∧ Drops c) := by
  unfold recordEnqueues fieldEnqueues
  by_cases hzero : byteAt new 2 = 0
  · have hoff : bitOf (byteAt new 2) = false := by simpa [bitOf] using hzero
    simp only [hoff, Bool.or_eq_true, Bool.and_eq_true, decide_eq_true_iff]
    tauto
  · have hon : bitOf (byteAt new 2) = true := by simpa [bitOf] using hzero
    simp only [hon, Bool.or_eq_true, Bool.and_eq_true, decide_eq_true_iff]
    tauto

/-- An admitted PUSH of a CHANNEL record applies it to its channel. -/
theorem pushReceived_becomes {p : List Byte} {rest : List Msg} (hrole : s.role = .stage)
    (hlinked : s.link.state = .linked) (hlength : n < s.channels.length)
    (hinbox : s.receiver.inbox = { type := .push, payload := p } :: rest) (hrecord : (half16At p 0).toNat = n)
    (hn : n < 96) : ∃ t, exec .pushReceived s = .next t ∧
      ChannelBecomes n
        (recordChannel s.superframe (liveContents s n) (clampContents n (payloadContents p)) (channelAt s n))
        (recordEnqueues (liveContents s n) (clampContents n (payloadContents p)) (channelAt s n)) s t := by
  have hu := setReceiver_keeps s { s.receiver with inbox := rest }
  generalize hreceived : s.setReceiver { s.receiver with inbox := rest } = u at *
  have hpush : receivePush (payloadRecord p) (word32At p 2) (payloadContents p) u =
      applyPush n (word32At p 2) (payloadContents p) u := by
    rw [receivePush, payloadRecord, hrecord, if_pos]
    exact ⟨(hu.part .role (by decide)).trans hrole, (congrArg Link.state (hu.part .link (by decide))).trans hlinked,
      hn.trans (by decide)⟩
  have hexec : exec .pushReceived s = .next (applyPush n (word32At p 2) (payloadContents p) u) :=
    congrArg Host.Outcome.next ((consumeHead_of_head hinbox).trans (by rw [hreceived]; exact hpush))
  refine ⟨_, hexec, ?_⟩
  have hv : Keeps [.receiver, .stage] s (storedPush n (word32At p 2) (payloadContents p) u) :=
    (hu.mono (by decide)).next (setStage_keeps _ _) (by decide)
  have hlive : liveContents u n = liveContents s n := by
    rw [liveContents, hu.part .stage (by decide)]
    rfl
  rw [applyPush_of_channel hn, hlive]
  generalize storedPush n (word32At p 2) (payloadContents p) u = v at *
  have hchannels : v.channels = s.channels := hv.part .channels (by decide)
  have hchannel : channelAt v n = channelAt s n := by
    rw [channelAt, hchannels]
    rfl
  obtain ⟨hset, hqueue⟩ := applyChannelRecord_becomes (s := v) (hchannels ▸ hlength) (liveContents s n)
    (clampContents n (payloadContents p))
  have hreply := enqueueReply_keeps (.ack n (word32At p 2))
    (applyChannelRecord n (liveContents s n) (clampContents n (payloadContents p)) v)
  rw [hchannels, hchannel, hv.part .superframe (by decide)] at hset
  rw [hv.part .preamp (by decide), hchannel] at hqueue
  exact ⟨(hreply.part .channels (by decide)).trans hset, (hreply.part .preamp (by decide)).trans hqueue⟩

/-- Settles O55: an admitted PUSH makes of its channel what `recordChannel` says. -/
theorem channelRecordApplied : Obligations.ChannelRecordApplied := by
  unfold Obligations.ChannelRecordApplied
  intro s p rest n hrole hlinked hsized hinbox hrecord hn
  have hlength : n < s.channels.length := by
    obtain ⟨hchannels, -⟩ := hsized
    omega
  obtain ⟨t, hexec, hbecomes⟩ := pushReceived_becomes hrole hlinked hlength hinbox hrecord hn
  have hpayload : (List.range 16).map (fun j => byteAt p (6 + j)) = payloadContents p := rfl
  simp only [hpayload, liveByte]
  generalize clampContents n (payloadContents p) = new at *
  generalize liveContents s n = old at *
  have hon : byteAt new 2 ≠ 0 → bitOf (byteAt new 2) = true := fun h => by simpa [bitOf] using h
  have hoff : byteAt new 2 = 0 → bitOf (byteAt new 2) = false := fun h => by simpa [bitOf] using h
  have heq := recordChannel_eq s.superframe old new (channelAt s n)
  have hsame := recordChannel_of_same (c := channelAt s n) (now := s.superframe) (old := old) (new := new)
  have hmoves := fun h => recordChannel_moves (old := old) (new := new) s.superframe h (channelAt s n)
  rw [← hbecomes.channelAt hlength] at heq hsame hmoves
  obtain ⟨-, hpreamp⟩ := hbecomes
  have henqueues := recordEnqueues_iff old new (channelAt s n)
  refine ⟨t, hexec, heq, fun hstays => ?_, fun hraised h => (hmoves hraised.1).raises (hon hraised.2) h,
    fun hdropped h => (hmoves hdropped.1).drops (hoff hdropped.2) h,
    fun hdropped h => (hmoves hdropped.1).reopens (hoff hdropped.2) h,
    fun hdropped h => (hmoves hdropped.1).discharges (hoff hdropped.2) h, fun hno => ?_, fun hyes hfree => ?_⟩
  · rcases hstays with h | ⟨hraised, h⟩ | ⟨hdropped, h⟩
    · exact hsame h
    · refine (hmoves hraised.1).stays ?_
      rw [if_pos (hon hraised.2)]
      rcases h with h | h | h | h <;> simp [Raises, h]
    · refine (hmoves hdropped.1).stays ?_
      rw [if_neg (by simp [hoff hdropped.2])]
      rcases h with h | h | h <;> simp [Drops, h]
  · rw [hpreamp]
    rcases hno with hno | hqueued
    · rw [Bool.eq_false_iff.2 (mt henqueues.1 hno)]
      rfl
    · rw [queueWith_of_mem hqueued, ite_self]
  · rw [hpreamp, if_pos (henqueues.2 hyes), queueWith_of_not_mem hfree]

end Sys2Proof.Machine
end


section
/-! The talk sources and the requests of the board (chapters 4 and 9): the arbiter's decision, a scan's step at the
request it stands at, and the timers of the desk. -/

namespace Sys2Proof.Machine

variable {s t u : State}

/-! ## Notices alone -/

/-- Of the registers only NOTICE moves. -/
def NoticesOnly (s t : State) : Prop := t.regs = { s.regs with notice := t.regs.notice }

theorem NoticesOnly.of_regs (h : t.regs = s.regs) : NoticesOnly s t := by
  rw [NoticesOnly, h]

theorem NoticesOnly.trans (h : NoticesOnly s t) (g : NoticesOnly t u) : NoticesOnly s u := by
  unfold NoticesOnly at *
  rw [g, h]

theorem NoticesOnly.setNotice (n : Notice) (s : State) : NoticesOnly s (setNotice n s) := rfl

theorem NoticesOnly.writeEvent (type : EventType) (subject : Nat) (detail : Word) (s : State) :
    NoticesOnly s (writeEvent type subject detail s) := by
  unfold Machine.writeEvent appendEvent
  split
  · exact .of_regs rfl
  · exact NoticesOnly.trans (.of_regs rfl) (.setNotice ..)

/-- A flag that is set stays set where nothing is cleared. -/
theorem noticed_of_regsKept {n : Notice} (h : noticed n s) (hregs : RegsKept s t) : noticed n t := by
  obtain ⟨-, hkept, -⟩ := hregs
  unfold noticed noticesKept at *
  calc t.regs.notice &&& noticeBit n = t.regs.notice &&& (s.regs.notice &&& noticeBit n) := by rw [h]
    _ = s.regs.notice &&& t.regs.notice &&& noticeBit n := by
      rw [← BitVec.and_assoc, BitVec.and_comm t.regs.notice]
    _ = noticeBit n := by rw [hkept, h]

/-! ## The arbiter's decision (R63, R64) -/

/-- The state with the carried source decided again, before its events. -/
def carriedState (s : State) : State := s.setArbiter { s.arbiter with carried := carriedOf s.arbiter.a s.arbiter.b }

theorem decideCarried_of_preempted (hbefore : s.arbiter.carried = some .b)
    (hafter : carriedOf s.arbiter.a s.arbiter.b = some .a) :
    decideCarried s = setNotice .talk (writeEvent .talkPreempted 1 0 (carriedState s)) := by
  simp only [decideCarried, carriedState, hbefore, hafter]

theorem decideCarried_of_resumed (hbefore : s.arbiter.carried = some .a)
    (hafter : carriedOf s.arbiter.a s.arbiter.b = some .b) :
    decideCarried s = setNotice .talk (writeEvent .talkResumed 1 0 (carriedState s)) := by
  simp only [decideCarried, carriedState, hbefore, hafter]

theorem decideCarried_of_quiet (h : s.arbiter.carried = none ∨ carriedOf s.arbiter.a s.arbiter.b = none ∨
    carriedOf s.arbiter.a s.arbiter.b = s.arbiter.carried) : decideCarried s = carriedState s := by
  unfold decideCarried carriedState
  dsimp only
  split
  next hbefore hafter => simp [hbefore, hafter] at h
  next hbefore hafter => simp [hbefore, hafter] at h
  next => rfl

/-- What a new decision leaves: the carried source with the event of its change. -/
structure CarriedDecided (s t : State) : Prop where
  arbiter : t.arbiter = { s.arbiter with carried := carriedOf s.arbiter.a s.arbiter.b }
  preempted : s.arbiter.carried = some .b → t.arbiter.carried = some .a →
    t.ring = ringWith .talkPreempted 1 0 s ∧ noticed .talk t
  resumed : s.arbiter.carried = some .a → t.arbiter.carried = some .b →
    t.ring = ringWith .talkResumed 1 0 s ∧ noticed .talk t
  quiet : s.arbiter.carried = none ∨ t.arbiter.carried = none ∨ t.arbiter.carried = s.arbiter.carried →
    t.ring = s.ring
  notices : NoticesOnly s t

theorem decideCarried_decided (s : State) : CarriedDecided s (decideCarried s) := by
  have harbiter : (decideCarried s).arbiter =
      { s.arbiter with carried := carriedOf s.arbiter.a s.arbiter.b } := by
    unfold decideCarried
    dsimp only
    split
    · exact (writeEvent_keeps _ _ _ _).part .arbiter (by decide)
    · exact (writeEvent_keeps _ _ _ _).part .arbiter (by decide)
    · rfl
  have hcarried := congrArg Arbiter.carried harbiter
  refine ⟨harbiter, fun hbefore hafter => ?_, fun hbefore hafter => ?_, fun h => ?_, ?_⟩
  · rw [decideCarried_of_preempted hbefore (hcarried.symm.trans hafter)]
    exact ⟨(writeEvent_ring ..).trans (ringWith_congr rfl rfl rfl), noticed_setNotice ..⟩
  · rw [decideCarried_of_resumed hbefore (hcarried.symm.trans hafter)]
    exact ⟨(writeEvent_ring ..).trans (ringWith_congr rfl rfl rfl), noticed_setNotice ..⟩
  · rw [hcarried] at h
    rw [decideCarried_of_quiet h]
    rfl
  · unfold decideCarried
    dsimp only
    have hset : NoticesOnly s (carriedState s) := .of_regs rfl
    split
    · exact (hset.trans (.writeEvent ..)).trans (.setNotice ..)
    · exact (hset.trans (.writeEvent ..)).trans (.setNotice ..)
    · exact hset

theorem CarriedDecided.carriedOk (h : CarriedDecided s t) : CarriedOk t := by
  rw [CarriedOk, h.arbiter]

theorem CarriedDecided.talkRecord (h : CarriedDecided s t) (src : TalkSource) : talkRecord t src = talkRecord s src := by
  cases src <;> simp only [Machine.talkRecord, h.arbiter]

theorem talkRecord_setTalkRecord_self (src : TalkSource) (r : TalkRecord) (s : State) :
    talkRecord (setTalkRecord src r s) src = r := by
  cases src <;> rfl

theorem talkRecord_setTalkRecord_other {src other : TalkSource} (h : other ≠ src) (r : TalkRecord) (s : State) :
    talkRecord (setTalkRecord src r s) other = talkRecord s other := by
  cases src with
  | a =>
    cases other with
    | a => exact absurd rfl h
    | b => rfl
  | b =>
    cases other with
    | a => rfl
    | b => exact absurd rfl h

theorem setTalkRecord_carried (src : TalkSource) (r : TalkRecord) (s : State) :
    (setTalkRecord src r s).arbiter.carried = s.arbiter.carried := by
  cases src <;> rfl

/-! ## The timers of a talk source (R60, R61) -/

/-- A source let go by its timer, with the event, before the new decision. -/
def timedOutTalk (src : TalkSource) (cause : Word) (s : State) : State :=
  setNotice .talk
    (writeEvent .talkTimeout (sourceNumber src) cause (setTalkRecord src (releasedRecord (talkRecord s src)) s))

theorem timedOutTalk_keeps (src : TalkSource) (cause : Word) (s : State) :
    Keeps [.arbiter, .sched, .ring, .regs] s (timedOutTalk src cause s) :=
  (((setTalkRecord_keeps src _ s).mono (by decide)).next (writeEvent_keeps _ _ _ _) (by decide)).next
    (setNotice_keeps _ _) (by decide)

theorem timedOutTalk_arbiter (src : TalkSource) (cause : Word) (s : State) :
    (timedOutTalk src cause s).arbiter = (setTalkRecord src (releasedRecord (talkRecord s src)) s).arbiter :=
  (writeEvent_keeps _ _ _ _).part .arbiter (by decide)

theorem timedOutTalk_ring (src : TalkSource) (cause : Word) (s : State) :
    (timedOutTalk src cause s).ring = ringWith .talkTimeout (sourceNumber src) cause s := by
  have hset := setTalkRecord_keeps src (releasedRecord (talkRecord s src)) s
  exact (writeEvent_ring ..).trans
    (ringWith_congr (hset.part .ring (by decide)) (hset.part .role (by decide)) (hset.part .superframe (by decide)))

theorem isPressed_iff (r : TalkRecord) : isPressed r = true ↔ r.state ≠ .off := by simp [isPressed]

theorem timeoutTalk_notices (src : TalkSource) (cause : Word) (s : State) : NoticesOnly s (timeoutTalk src cause s) := by
  have hset : NoticesOnly s (setTalkRecord src (releasedRecord (talkRecord s src)) s) :=
    .of_regs ((setTalkRecord_keeps _ _ _).part .regs (by decide))
  exact ((hset.trans (.writeEvent ..)).trans (.setNotice ..)).trans (decideCarried_decided _).notices

/-- The ring after a source timed out: B resumes where A was the one pressed above it. -/
theorem timeoutTalk_ring {src : TalkSource} {cause : Word} (hcarried : CarriedOk s)
    (hpressed : (talkRecord s src).state ≠ .off) : (timeoutTalk src cause s).ring =
      if src = .a ∧ (talkRecord s .b).state ≠ .off then
        ringWith .talkResumed 1 0 (s.setRing (ringWith .talkTimeout 0 cause s))
      else ringWith .talkTimeout (sourceNumber src) cause s := by
  have hdecided : CarriedDecided (timedOutTalk src cause s) (timeoutTalk src cause s) := decideCarried_decided _
  have harbiter := timedOutTalk_arbiter src cause s
  have hring := timedOutTalk_ring src cause s
  have hafter := congrArg Arbiter.carried hdecided.arbiter
  have hbefore : (timedOutTalk src cause s).arbiter.carried = carriedOf s.arbiter.a s.arbiter.b := by
    rw [harbiter, setTalkRecord_carried, hcarried]
  cases src with
  | a =>
    have hcarriedA : (timedOutTalk .a cause s).arbiter.carried = some .a := by
      rw [hbefore, carriedOf]
      exact if_pos ((isPressed_iff _).2 hpressed)
    have hafterA : (timeoutTalk .a cause s).arbiter.carried = if isPressed s.arbiter.b then some .b else none := by
      rw [hafter, harbiter]
      rfl
    by_cases hb : (talkRecord s .b).state ≠ .off
    · rw [if_pos ⟨rfl, hb⟩]
      have hresumed : (timeoutTalk .a cause s).arbiter.carried = some .b :=
        hafterA.trans (if_pos ((isPressed_iff _).2 hb))
      refine (hdecided.resumed hcarriedA hresumed).1.trans (ringWith_congr hring ?_ ?_)
      · exact (timedOutTalk_keeps _ _ _).part .role (by decide)
      · exact (timedOutTalk_keeps _ _ _).part .superframe (by decide)
    · rw [if_neg fun h => hb h.2]
      have hnone : (timeoutTalk .a cause s).arbiter.carried = none :=
        hafterA.trans (if_neg (mt (isPressed_iff _).1 hb))
      exact (hdecided.quiet (.inr (.inl hnone))).trans hring
  | b =>
    rw [if_neg fun h => TalkSource.noConfusion h.1]
    refine (hdecided.quiet ?_).trans hring
    have hafterB : (timeoutTalk .b cause s).arbiter.carried = if isPressed s.arbiter.a then some .a else none := by
      rw [hafter, harbiter]
      rfl
    rw [hafterB, hbefore, carriedOf]
    split <;> simp

theorem timeoutTalk_record (src : TalkSource) (cause : Word) (s : State) :
    talkRecord (timeoutTalk src cause s) src = releasedRecord (talkRecord s src) ∧
      ∀ other, other ≠ src → talkRecord (timeoutTalk src cause s) other = talkRecord s other := by
  have hdecided : CarriedDecided (timedOutTalk src cause s) (timeoutTalk src cause s) := decideCarried_decided _
  have hset : ∀ x, talkRecord (timeoutTalk src cause s) x =
      talkRecord (setTalkRecord src (releasedRecord (talkRecord s src)) s) x := fun x => by
    rw [hdecided.talkRecord]
    cases x <;> simp only [talkRecord, timedOutTalk_arbiter]
  exact ⟨(hset src).trans (talkRecord_setTalkRecord_self ..),
    fun other h => (hset other).trans (talkRecord_setTalkRecord_other h ..)⟩

theorem timeoutTalk_noticed (src : TalkSource) (cause : Word) (s : State) : noticed .talk (timeoutTalk src cause s) :=
  noticed_of_regsKept (s := timedOutTalk src cause s) (noticed_setNotice ..) (Beside.decideCarried _).regs

/-- Settles O35: either row is the time-out of its source. -/
theorem talkTimeouts : Obligations.TalkTimeouts := by
  unfold Obligations.TalkTimeouts
  intro src c cause e s hrole hcarried hdue hrow
  have hexec : exec c s = .next (timeoutTalk src cause s) ∧ (talkRecord s src).state ≠ .off := by
    rcases hrow with ⟨rfl, hstate, htimer, rfl⟩ | ⟨rfl, hstate, htimer, rfl⟩
    · refine ⟨congrArg Host.Outcome.next (if_pos ⟨hrole, hstate, ?_⟩), by simp [hstate]⟩
      rw [htimer]
      exact hdue
    · refine ⟨congrArg Host.Outcome.next (if_pos ⟨hrole, hstate, ?_⟩), by simp [hstate]⟩
      rw [htimer]
      exact hdue
  obtain ⟨hexec, hpressed⟩ := hexec
  obtain ⟨hself, hothers⟩ := timeoutTalk_record src cause s
  obtain ⟨-, hkept, -⟩ := (timeoutTalk_acts src cause s).regsKept
  exact ⟨_, hexec, hself, hothers, (decideCarried_decided _).carriedOk, timeoutTalk_noticed src cause s, hkept,
    timeoutTalk_notices src cause s, timeoutTalk_ring hcarried hpressed,
    (timeoutTalk_keeps src cause s).mono (by decide)⟩

/-! ## The deadline of an ACCEPTED entry (R169, R170) -/

/-- The part's write of an entry, as the words and bytes of the board show it (R163). -/
theorem entryWritten_of_board {i : Nat} {state : EntryState} {result : EntryResult} {clamped : Bool} {kind : Byte}
    {tag : Half} (hwf : s.board.wf = true)
    (hboard : t.board = (writeEntry i state result clamped kind tag s).board) :
    EntryWritten s t i state result clamped kind tag := by
  have hsame : ∀ k, entryWord t i k = entryWord (writeEntry i state result clamped kind tag s) i k := fun k => by
    rw [entryWord, hboard, entryWord]
  have hword := fun k (hk : k < 8) => (hsame k).trans (entryWord_writeEntry i k state result clamped kind tag s hwf hk)
  refine ⟨hword 0 (by decide), hword 6 (by decide), hword 7 (by decide), fun k hlow hhigh => ?_, fun a ha => ?_⟩
  · rw [hword k (by omega), if_neg (by omega), if_neg (by omega), if_neg (by omega)]
  · rw [hboard]
    change (Memory.writeWord _ _ _).readByte a = _
    unfold entryAddress
    rw [Memory.readByte_writeWord_other _ _ _ _ (by omega), Memory.readByte_writeWord_other _ _ _ _ (by omega),
      Memory.readByte_writeWord_other _ _ _ _ (by omega)]

/-- Settles O36: at the deadline the entry completes HELD. -/
theorem deadlineHeld : Obligations.DeadlineHeld := by
  unfold Obligations.DeadlineHeld
  intro s i a hrole hboard _ haccepted
  have hdue : deadlineDue s i.val = reached s.superframe a.expiry := by rw [deadlineDue, haccepted]
  have hexec : ∀ u, (if s.role = .desk ∧ deadlineDue s i.val then completeEntry i.val a .held .held s else s) = u →
      exec (.deadlineExpiry i) s = .next u := fun u hu => by
    rw [← hu]
    exact congrArg Host.Outcome.next (by rw [deadlineExpiry, haccepted])
  refine ⟨fun h => hexec s (if_neg (by simp [hdue, h])), fun h => ?_⟩
  refine ⟨_, hexec _ (if_pos ⟨hrole, hdue.trans h⟩), entryWritten_of_board hboard.1 rfl,
    acceptedAt_setAccepted_none .., fun j hj => ?_, rfl, rfl, (completeEntry_keeps _ _ _ _ _).mono (by decide)⟩
  exact acceptedAt_setAccepted_other none (writeEntry i.val .held .held a.clamped a.kind a.tag s) hj

/-! ## Unanswered PUSHes and PULLs (R143, R148) -/

theorem find?_first {α : Type} {p : α → Bool} {before after : List α} {e : α} (hbefore : ∀ x ∈ before, p x = false)
    (he : p e = true) : (before ++ e :: after).find? p = some e := by
  rw [List.find?_append, List.find?_eq_none.2 fun x hx => by simp [hbefore x hx]]
  simp [he]

theorem erase_first {before after : List InFlight} {e : InFlight} (h : e ∉ before) :
    (before ++ e :: after).erase e = before ++ after := by
  rw [List.erase_append_right _ h, List.erase_cons_head]

theorem map_record_setPulled (r : Nat) (stamp : Option Word) (l : List Adoptee) :
    (setPulled r stamp l).map Adoptee.record = l.map Adoptee.record := by
  rw [setPulled, List.map_map]
  refine List.map_congr_left fun e _ => ?_
  simp only [Function.comp_apply]
  split <;> rfl

theorem mem_setPulled_other {r : Nat} {stamp : Option Word} {l : List Adoptee} {x : Adoptee} (hx : x.record ≠ r) :
    x ∈ setPulled r stamp l ↔ x ∈ l := by
  rw [setPulled, List.mem_map]
  constructor
  · rintro ⟨e, he, rfl⟩
    split at hx
    next hrecord => exact absurd hrecord hx
    next hrecord => rwa [if_neg hrecord]
  · exact fun hmem => ⟨x, hmem, if_neg hx⟩

theorem pulled_of_mem_setPulled {r : Nat} {stamp : Option Word} {l : List Adoptee} {x : Adoptee}
    (hmem : x ∈ setPulled r stamp l) (hx : x.record = r) : x.pulled = stamp := by
  rw [setPulled, List.mem_map] at hmem
  obtain ⟨e, -, rfl⟩ := hmem
  split at hx
  next hrecord => rw [if_pos hrecord]
  next hrecord => exact absurd hx hrecord

/-- Settles O37. -/
theorem replicationTimeouts : Obligations.ReplicationTimeouts := by
  unfold Obligations.ReplicationTimeouts
  refine fun s hrole => ⟨fun before after e hlist hbefore hdue => ?_, fun r e stamp he hrecord hpulled hdue => ?_⟩
  · have hfind : s.desk.inFlight.find? (fun e => timedOut s.superframe e.stamp) = some e :=
      hlist ▸ find?_first hbefore hdue
    have hexec : inFlightTimeout s = s.setDesk { s.desk with
        inFlight := s.desk.inFlight.erase e, dirty := appendDirty s.desk.dirty e.record } := by
      simp only [inFlightTimeout, hrole, hfind]
    refine ⟨_, congrArg Host.Outcome.next hexec, setDesk_keeps s _, ?_⟩
    have hnew : e ∉ before := fun hmem => Bool.false_ne_true ((hbefore e hmem).symm.trans hdue)
    rw [State.setDesk_desk, hlist, erase_first hnew]
    rfl
  · have hpull : pullDue s r.val = true := by
      rw [pullDue, List.any_eq_true]
      refine ⟨e, he, ?_⟩
      rw [hpulled]
      rw [hrecord, beq_self_eq_true, Bool.true_and]
      exact hdue
    refine ⟨_, congrArg Host.Outcome.next (if_pos ⟨hrole, hpull⟩), setDesk_keeps s _, rfl,
      map_record_setPulled .., fun x hmem hx => pulled_of_mem_setPulled hmem hx, fun x hx => mem_setPulled_other hx⟩

end Sys2Proof.Machine
end


section
/-! The requests a scan carries out (sections 9.2, 9.3), and the scan's rest. -/

namespace Sys2Proof.Machine

variable {s t u : State}

/-! ## A scan's step at the request it stands at -/

/-- The scan stands after entry `i`. -/
def standsAfter (i : Nat) (t : State) : State := t.setScanner { t.scanner with pos := afterEntry i, reads := [] }

theorem entriesTo_self {i : Nat} (hpos : s.scanner.pos = some i) : entriesTo s i = [] := by
  simp [entriesTo, hpos]

theorem entriesTo_succ {i : Nat} (hpos : s.scanner.pos = some i) : entriesTo s (i + 1) = [i] := by
  simp [entriesTo, hpos]

theorem takeEntry_of_valid {i : Nat} {r : Request} (htake : isTakeable s i = true) (hjudge : judgeEntry s i = .valid r) :
    takeEntry i s = carryOut i r s := by
  simp only [takeEntry, htake, hjudge, if_true]

theorem scanStep_of_at {i : Fin 32} {r : Request} (h : ScanAt s i r) :
    scanStep i.val (requestKind r) s = standsAfter i.val (carryOut i.val r s) := by
  obtain ⟨hrole, hpos, htake, hjudge⟩ := h
  have hmeets : scanMeets s i.val (requestKind r) = true := by
    simp [scanMeets, hrole, hpos, entriesTo_self hpos, htake, hjudge]
  rw [scanStep, if_pos hmeets, scanTo, entriesTo_succ hpos]
  simp only [forEach, List.foldl_cons, List.foldl_nil, takeEntry_of_valid htake hjudge]
  rfl

/-! ## An entry finished at its scan (R168) -/

theorem writeEntry_board_congr {i : Nat} {state : EntryState} {result : EntryResult} {clamped : Bool} {kind : Byte}
    {tag : Half} (hboard : t.board = s.board) (hcount : t.superframe = s.superframe) :
    (writeEntry i state result clamped kind tag t).board = (writeEntry i state result clamped kind tag s).board := by
  simp only [writeEntry, hboard, hcount, State.setBoard_board]

theorem finishEntry_written {i : Nat} {state : EntryState} {result : EntryResult} {w0 : Word} (hwf : s.board.wf = true)
    (hboard : t.board = s.board) (hcount : t.superframe = s.superframe) :
    EntryWritten s (standsAfter i (finishEntry i state result w0 t)) i state result false (wordKind w0) (wordTag w0) := by
  have hwritten : (standsAfter i (finishEntry i state result w0 t)).board =
      (writeEntry i state result false (wordKind w0) (wordTag w0) t).board := rfl
  exact entryWritten_of_board hwf (hwritten.trans (writeEntry_board_congr hboard hcount))

theorem finishEntry_noticed (i : Nat) (state : EntryState) (result : EntryResult) (w0 : Word) (s : State) :
    noticed .board (standsAfter i (finishEntry i state result w0 s)) := noticed_setNotice ..

theorem standsAfter_keeps (i : Nat) (s : State) : Keeps [.scanner] s (standsAfter i s) := setScanner_keeps s _

theorem acceptedAt_standsAfter (i j : Nat) (s : State) : acceptedAt (standsAfter i s) j = acceptedAt s j := rfl

theorem standsAfter_acts (i : Nat) (s : State) : Acts s (standsAfter i s) := .one (.scanner s _ rfl)

/-! ## REPLAY_ALL (R138) -/

theorem appendAllDirty_eq {l : List Nat} (hl : l.Nodup) (dirty : List Nat) :
    appendAllDirty dirty l = dirty ++ l.filter fun r => !dirty.contains r := by
  induction l generalizing dirty with
  | nil => simp [appendAllDirty]
  | cons a l ih =>
    obtain ⟨ha, hl⟩ := List.nodup_cons.1 hl
    change appendAllDirty (appendDirty dirty a) l = _
    rw [ih hl, appendDirty]
    split
    next hmem => simp [hmem]
    next hmem =>
      have hrest : l.filter (fun r => !(dirty ++ [a]).contains r) = l.filter fun r => !dirty.contains r := by
        refine List.filter_congr fun r hr => ?_
        have hne : r ≠ a := ne_of_mem_of_not_mem hr ha
        simp [hne]
      rw [hrest, List.filter_cons_of_pos (by simpa using hmem), List.append_assoc, List.singleton_append]

/-- Settles O34. -/
theorem replayAllTaken : Obligations.ReplayAllTaken := by
  unfold Obligations.ReplayAllTaken
  intro s i hboard _ hat
  have hexec : exec (.replayAll i) s =
      .next (standsAfter i.val (finishEntry i.val .done .done (scanWord s i.val 0) (markReplay s))) :=
    congrArg Host.Outcome.next (scanStep_of_at hat)
  have hreplay := markReplay_keeps s
  have hfinish := finishEntry_keeps i.val .done .done (scanWord s i.val 0) (markReplay s)
  have hstand := standsAfter_keeps i.val (finishEntry i.val .done .done (scanWord s i.val 0) (markReplay s))
  have hkeeps := ((hreplay.mono (T := [.desk, .board, .scanner, .regs]) (by decide)).next hfinish (by decide)).next hstand
    (by decide)
  refine ⟨_, hexec, ?_, finishEntry_written hboard.1 (hreplay.part .board (by decide))
    (hreplay.part .superframe (by decide)), finishEntry_noticed .., ?_, ?_, hkeeps⟩
  · rw [hstand.part .desk (by decide), hfinish.part .desk (by decide), markReplay_desk]
    have honce : (List.range recordCount).Nodup := List.nodup_range
    rw [appendAllDirty_eq honce]
  · have hscanner : (finishEntry i.val .done .done (scanWord s i.val 0) (markReplay s)).scanner = s.scanner :=
      (hfinish.part .scanner (by decide)).trans (hreplay.part .scanner (by decide))
    rw [standsAfter, State.setScanner_scanner, hscanner]
    rfl
  · exact (((Acts.one (.replay s)).trans (finishEntry_acts i.isLt ..)).trans (standsAfter_acts ..)).regsKept

/-! ## TALK_PRESS and TALK_RELEASE (R58, R59) -/

theorem releaseTalk_eq (src : TalkSource) (s : State) : releaseTalk src s = decideCarried (setTalkRecord src
    (if (talkRecord s src).state = .off then talkRecord s src else releasedRecord (talkRecord s src)) s) := by
  have hsame : setTalkRecord src (talkRecord s src) s = s := by cases src <;> rfl
  unfold releaseTalk
  by_cases h : (talkRecord s src).state = .off
  · rw [if_pos h, hsame, if_neg (by simp [isPressed, h])]
  · rw [if_neg h, if_pos ((isPressed_iff _).2 h)]

/-- What a request of a talk source leaves of the state, but for the source's record. -/
theorem talkRequest_taken {i : Fin 32} {src : TalkSource} {r : TalkRecord} {t : State} (hboard : BoardOk s)
    (ht : t = standsAfter i.val
      (finishEntry i.val .done .done (scanWord s i.val 0) (decideCarried (setTalkRecord src r s)))) :
    talkRecord t src = r ∧ (∀ other, other ≠ src → talkRecord t other = talkRecord s other) ∧ CarriedOk t ∧
      (s.arbiter.carried = some .b → t.arbiter.carried = some .a →
        t.ring = ringWith .talkPreempted 1 0 s ∧ noticed .talk t) ∧
      (s.arbiter.carried = some .a → t.arbiter.carried = some .b →
        t.ring = ringWith .talkResumed 1 0 s ∧ noticed .talk t) ∧
      ((s.arbiter.carried = none ∨ t.arbiter.carried = none ∨ t.arbiter.carried = s.arbiter.carried) →
        t.ring = s.ring) ∧
      EntryWritten s t i.val .done .done false (wordKind (scanWord s i.val 0)) (wordTag (scanWord s i.val 0)) ∧
      noticed .board t ∧ t.scanner = { s.scanner with pos := posAfter i, reads := [] } ∧ RegsKept s t ∧
      Keeps [.arbiter, .sched, .board, .scanner, .ring, .regs] s t := by
  have hset := setTalkRecord_keeps src r s
  have hdecide := decideCarried_keeps (setTalkRecord src r s)
  have hdecided := decideCarried_decided (setTalkRecord src r s)
  have hring : ∀ {type subject detail}, ringWith type subject detail (setTalkRecord src r s) =
      ringWith type subject detail s := ringWith_congr (hset.part .ring (by decide)) (hset.part .role (by decide))
    (hset.part .superframe (by decide))
  have hd := (hset.mono (T := [.arbiter, .sched, .ring, .regs]) (by decide)).next hdecide (by decide)
  have hacts : Acts s (decideCarried (setTalkRecord src r s)) := decideCarried_acts (Beside.setTalkRecord ..)
  have hself := (hdecided.talkRecord src).trans (talkRecord_setTalkRecord_self src r s)
  have hothers := fun other h => (hdecided.talkRecord other).trans (talkRecord_setTalkRecord_other h r s)
  generalize decideCarried (setTalkRecord src r s) = d at *
  have hfinish := finishEntry_keeps i.val .done .done (scanWord s i.val 0) d
  have hstand := standsAfter_keeps i.val (finishEntry i.val .done .done (scanWord s i.val 0) d)
  have hlast : Keeps [.board, .scanner, .regs] d t := ht ▸ (hfinish.mono (by decide)).next hstand (by decide)
  have harbiter : t.arbiter = d.arbiter := hlast.part .arbiter (by decide)
  have hringD : t.ring = d.ring := hlast.part .ring (by decide)
  have hrecord : ∀ x, talkRecord t x = talkRecord d x := fun x => by cases x <;> simp only [talkRecord, harbiter]
  have hlastActs : Acts d t := ht ▸ (finishEntry_acts i.isLt ..).trans (standsAfter_acts ..)
  have hcarried : (setTalkRecord src r s).arbiter.carried = s.arbiter.carried := setTalkRecord_carried ..
  have hnoticed : noticed .talk d → noticed .talk t := fun h => noticed_of_regsKept h hlastActs.regsKept
  rw [harbiter, hringD]
  refine ⟨(hrecord src).trans hself, fun other h => (hrecord other).trans (hothers other h),
    carriedOk_of_same harbiter hdecided.carriedOk, fun hbefore hafter => ?_, fun hbefore hafter => ?_, fun h => ?_, ?_,
    ht ▸ finishEntry_noticed .., ?_, (hacts.trans hlastActs).regsKept,
    (hd.mono (by decide)).next hlast (by decide)⟩
  · obtain ⟨h, hn⟩ := hdecided.preempted (hcarried.trans hbefore) hafter
    exact ⟨h.trans hring, hnoticed hn⟩
  · obtain ⟨h, hn⟩ := hdecided.resumed (hcarried.trans hbefore) hafter
    exact ⟨h.trans hring, hnoticed hn⟩
  · exact (hdecided.quiet (hcarried.symm ▸ h)).trans (hset.part .ring (by decide))
  · exact ht ▸ finishEntry_written hboard.1 (hd.part .board (by decide)) (hd.part .superframe (by decide))
  · have hscanner : (finishEntry i.val .done .done (scanWord s i.val 0) d).scanner = s.scanner :=
      (hfinish.part .scanner (by decide)).trans (hd.part .scanner (by decide))
    rw [ht, standsAfter, State.setScanner_scanner, hscanner]
    rfl

/-- Settles O33: a press and a release each write one record and decide the carried source again. -/
theorem talkRequestsTaken : Obligations.TalkRequestsTaken := by
  unfold Obligations.TalkRequestsTaken
  intro s i c src hboard _ hrow
  rcases hrow with ⟨rfl, latched, mask, limit, hat⟩ | ⟨rfl, hat⟩
  · obtain ⟨-, -, -, hjudge⟩ := id hat
    obtain ⟨hself, hrest⟩ := talkRequest_taken (i := i) (src := src)
      (r := pressedRecord s.superframe latched mask limit) hboard rfl
    refine ⟨_, congrArg Host.Outcome.next (scanStep_of_at hat), fun mask' limit' h => ?_, fun mask' limit' h => ?_,
      fun h => ?_, fun h => ?_, hrest⟩ <;> rw [hjudge] at h
    · cases h
      exact hself
    · cases h
      exact hself
    · cases h
    · cases h
  · obtain ⟨-, -, -, hjudge⟩ := id hat
    obtain ⟨hself, hrest⟩ := talkRequest_taken (i := i) (src := src) hboard
      (congrArg (fun d => standsAfter i.val (finishEntry i.val .done .done (scanWord s i.val 0) d)) (releaseTalk_eq src s))
    refine ⟨_, congrArg Host.Outcome.next (scanStep_of_at hat), fun mask' limit' h => ?_, fun mask' limit' h => ?_,
      fun _ h => ?_, fun _ h => ?_, hrest⟩
    · rw [hjudge] at h
      cases h
    · rw [hjudge] at h
      cases h
    · exact hself.trans (if_neg h)
    · exact hself.trans (if_pos h)

/-! ## A record leaves the adoption set (R148, R151) -/

theorem leaveAdoption_of_not_adopting {r : Nat} (h : isAdopting s.desk r = false) : leaveAdoption r s = s :=
  if_neg (by simp [h])

theorem leaveAdoption_of_rest {r : Nat} (h : s.desk.adoption.filter (fun e => e.record != r) ≠ []) :
    Keeps [.desk] s (leaveAdoption r s) := by
  by_cases hmember : isAdopting s.desk r = true
  · rw [leaveAdoption, if_pos hmember]
    dsimp only
    rw [if_neg (by simpa using h)]
    exact setDesk_keeps s _
  · rw [leaveAdoption_of_not_adopting (Bool.eq_false_iff.2 hmember)]
    exact Keeps.refl _ s

theorem leaveAdoption_of_last {r : Nat} (hmember : isAdopting s.desk r = true)
    (hlast : s.desk.adoption.filter (fun e => e.record != r) = []) :
    leaveAdoption r s = adoptDone (s.setDesk { s.desk with adoption := [] }) := by
  rw [leaveAdoption, if_pos hmember]
  dsimp only
  rw [hlast]
  rfl

theorem adoptDone_ring (s : State) : (adoptDone s).ring = ringWith .adoptDone 0 (BitVec.ofNat 32 s.desk.adopted) s :=
  writeEvent_ring ..

theorem adoptDone_noticed (s : State) : noticed .sync (adoptDone s) := noticed_setNotice ..

/-! ## SET_RECORD and SET_FIELD (R137, R167) -/

/-- The desk with an edit's new shadow entry, before the record leaves the adoption set. -/
def shadowEdited (r : Nat) (requested : List Byte) (s : State) : State :=
  setShadow r
    { contents := clampContents r requested, version := s.desk.counter, confirmed := (shadowAt s r).confirmed,
      stamp := s.superframe } (s.setDesk { s.desk with counter := nextVersion s.desk.counter })

theorem shadowEdited_keeps (r : Nat) (requested : List Byte) (s : State) : Keeps [.desk] s (shadowEdited r requested s) :=
  (setDesk_keeps s _).next (setShadow_keeps _ _ _) (by decide)

theorem editRecord_eq (r : Nat) (requested : List Byte) (s : State) : editRecord r requested s =
    (leaveAdoption r (shadowEdited r requested s)).setDesk
      { (leaveAdoption r (shadowEdited r requested s)).desk with
        dirty := appendDirty (leaveAdoption r (shadowEdited r requested s)).desk.dirty r } := rfl

/-- An edit that does not empty the adoption set touches the desk's lists alone. -/
theorem editRecord_keeps_desk {r : Nat} {requested : List Byte}
    (h : isAdopting s.desk r = false ∨ s.desk.adoption.filter (fun e => e.record != r) ≠ []) :
    Keeps [.desk] s (editRecord r requested s) := by
  rw [editRecord_eq]
  have hleave : Keeps [.desk] (shadowEdited r requested s) (leaveAdoption r (shadowEdited r requested s)) := by
    rcases h with h | h
    · rw [leaveAdoption_of_not_adopting (s := shadowEdited r requested s) h]
      exact Keeps.refl [.desk] _
    · exact leaveAdoption_of_rest (s := shadowEdited r requested s) h
  exact ((shadowEdited_keeps r requested s).next hleave (by decide)).next (setDesk_keeps _ _) (by decide)

/-- An edit that empties the adoption set ends the adoption. -/
theorem editRecord_of_last {r : Nat} {requested : List Byte} (hmember : isAdopting s.desk r = true)
    (hlast : s.desk.adoption.filter (fun e => e.record != r) = []) :
    (editRecord r requested s).ring = ringWith .adoptDone 0 (BitVec.ofNat 32 s.desk.adopted) s ∧
      noticed .sync (editRecord r requested s) := by
  rw [editRecord_eq, leaveAdoption_of_last (s := shadowEdited r requested s) hmember hlast]
  exact ⟨(adoptDone_ring _).trans (ringWith_congr rfl rfl rfl), adoptDone_noticed _⟩

theorem edited_of_desk {r : Nat} {requested : List Byte} (hr : r < s.desk.shadow.length)
    (h : t.desk = (editRecord r requested s).desk) : Edited s t r requested := by
  have hdesk := h.trans (editRecord_desk r requested s)
  have hshadow : ∀ x, shadowAt t x = shadowAt (setShadow r
      { contents := clampContents r requested, version := s.desk.counter, confirmed := (shadowAt s r).confirmed,
        stamp := s.superframe } s) x := fun x => by
    rw [shadowAt, hdesk]
    rfl
  refine ⟨(hshadow r).trans (shadowAt_setShadow_self _ hr), fun x hx => (hshadow x).trans
    (shadowAt_setShadow_other _ s hx), ?_⟩
  rw [hdesk]
  exact ⟨rfl, rfl, rfl, rfl, rfl, rfl, rfl⟩

theorem acceptedAt_setAccepted_self {i : Nat} (a : Option Accepted) (hi : i < s.scanner.accepted.length) :
    acceptedAt (setAccepted i a s) i = a := by
  simp [acceptedAt, setAccepted, hi]

/-- The accepted record of an edit (R167, R170). -/
def acceptedEdit (i r : Nat) (requested : List Byte) (s : State) : Accepted :=
  { record := r, kind := wordKind (scanWord s i 0), tag := wordTag (scanWord s i 0), clamped := isClamped r requested,
    expiry := s.superframe + BitVec.ofNat 32 (deadlineBoundaries (entryDeadline s i)) }

/-- The board with the entry of an accepted edit. -/
def writtenEdit (i r : Nat) (requested : List Byte) (s : State) : State :=
  writeEntry i .accepted .none (isClamped r requested) (wordKind (scanWord s i 0)) (wordTag (scanWord s i 0))
    (editRecord r requested s)

theorem acceptEdit_eq (i r : Nat) (requested : List Byte) (s : State) :
    acceptEdit i r requested s = setAccepted i (some (acceptedEdit i r requested s)) (writtenEdit i r requested s) := rfl

/-- What an accepted edit leaves, by whichever row it is taken. -/
theorem edit_taken {i : Fin 32} {r : Nat} {requested : List Byte} {t : State} (hboard : BoardOk s) (hsized : Sized s)
    (hr : r < recordCount) (ht : t = standsAfter i.val (acceptEdit i.val r requested s)) :
    Edited s t r requested ∧
      EntryWritten s t i.val .accepted .none (isClamped r requested) (wordKind (scanWord s i.val 0))
        (wordTag (scanWord s i.val 0)) ∧
      acceptedAt t i.val = some (acceptedEdit i.val r requested s) ∧
      (∀ j, j ≠ i.val → acceptedAt t j = acceptedAt s j) ∧
      t.scanner = { s.scanner with pos := posAfter i, reads := [], accepted := t.scanner.accepted } ∧
      Keeps [.sched, .desk, .board, .scanner, .ring, .regs] s t ∧ RegsKept s t ∧
      (isAdopting s.desk r = false ∨ t.desk.adoption ≠ [] → Keeps [.desk, .board, .scanner] s t) ∧
      (isAdopting s.desk r = true → t.desk.adoption = [] →
        t.ring = ringWith .adoptDone 0 (BitVec.ofNat 32 s.desk.adopted) s ∧ noticed .sync t) := by
  have hedit := editRecord_keeps r requested s
  have hwritten : Keeps [.board] (editRecord r requested s) (writtenEdit i.val r requested s) :=
    writeEntry_keeps _ _ _ _ _ _ _
  have hscanner : (writtenEdit i.val r requested s).scanner = s.scanner :=
    (hwritten.part .scanner (by decide)).trans (hedit.part .scanner (by decide))
  have hlast : Keeps [.board, .scanner] (editRecord r requested s) t := by
    rw [ht, acceptEdit_eq]
    exact ((hwritten.mono (by decide)).next (setAccepted_keeps _ _ _) (by decide)).next (standsAfter_keeps _ _) (by decide)
  have hdesk : t.desk = (editRecord r requested s).desk := hlast.part .desk (by decide)
  have hadoption : t.desk.adoption = s.desk.adoption.filter fun e => e.record != r := by rw [hdesk, editRecord_desk]
  have hregs : RegsKept (editRecord r requested s) t := .of_regs (hlast.part .regs (by decide))
  refine ⟨edited_of_desk (hsized.shadow ▸ hr) hdesk, entryWritten_of_board hboard.1 ?_, ?_, fun j hj => ?_, ?_,
    (hedit.mono (by decide)).next hlast (by decide), ?_, fun h => ?_, fun hmember hempty => ?_⟩
  · have hb : t.board = (writtenEdit i.val r requested s).board := by
      rw [ht]
      rfl
    exact hb.trans (writeEntry_board_congr (hedit.part .board (by decide)) (hedit.part .superframe (by decide)))
  · rw [ht, acceptedAt_standsAfter, acceptEdit_eq]
    refine acceptedAt_setAccepted_self (s := writtenEdit i.val r requested s) _ ?_
    rw [hscanner, hsized.accepted]
    exact i.isLt
  · have hj := acceptedAt_setAccepted_other (some (acceptedEdit i.val r requested s)) (writtenEdit i.val r requested s) hj
    rw [ht, acceptedAt_standsAfter, acceptEdit_eq, hj, acceptedAt, hscanner, acceptedAt]
  · rw [ht, standsAfter, State.setScanner_scanner, acceptEdit_eq, setAccepted, State.setScanner_scanner, hscanner]
    rfl
  · rw [ht]
    exact ((acceptEdit_acts i.isLt hr requested s).trans (standsAfter_acts ..)).regsKept
  · exact ((editRecord_keeps_desk (h.imp_right (hadoption ▸ ·))).mono (by decide)).next hlast (by decide)
  · obtain ⟨hring, hnoticed⟩ := editRecord_of_last (requested := requested) hmember (hadoption.symm.trans hempty)
    exact ⟨(hlast.part .ring (by decide)).trans hring, noticed_of_regsKept hnoticed hregs⟩

/-- Settles O32: both rows are an accepted edit of the bytes requested. -/
theorem editsTaken : Obligations.EditsTaken := by
  unfold Obligations.EditsTaken
  intro s i c record requested hboard hsized hrow
  rcases hrow with ⟨rfl, hat⟩ | ⟨rfl, index, value, hat, rfl⟩
  · obtain ⟨-, -, -, hjudge⟩ := id hat
    have hr := record_lt_of_judgeEntry.1 _ _ hjudge
    exact ⟨_, congrArg Host.Outcome.next (scanStep_of_at hat), hr, edit_taken hboard hsized hr rfl⟩
  · obtain ⟨-, -, -, hjudge⟩ := id hat
    have hr := record_lt_of_judgeEntry.2 _ _ _ hjudge
    exact ⟨_, congrArg Host.Outcome.next (scanStep_of_at hat), hr, edit_taken hboard hsized hr rfl⟩

end Sys2Proof.Machine
end


section
/-! A REPORT, a NOTE and a STATUS at the desk (sections 8.8, 9.4, 9.5). -/

namespace Sys2Proof.Machine

variable {s t u : State}

/-! ## A REPORT (R149, R151) -/

/-- The desk with a reported record as it stands, before the record leaves the adoption set. -/
def reported (r : Nat) (contents : List Byte) (s : State) : State :=
  s.setDesk { s.desk with
    shadow := s.desk.shadow.set r { contents := contents, version := 0, confirmed := 0, stamp := s.superframe },
    adopted := s.desk.adopted + 1 }

theorem adoptReport_of_member {r : Nat} (hrole : s.role = .desk) (hr : r < recordCount)
    (hmember : isAdopting s.desk r = true) (contents : List Byte) :
    adoptReport r contents s = leaveAdoption r (reported r contents s) := if_pos ⟨hrole, hr, hmember⟩

theorem adoptReport_of_dropped {r : Nat} (h : recordCount ≤ r ∨ isAdopting s.desk r = false) (contents : List Byte) :
    adoptReport r contents s = s :=
  if_neg fun ⟨_, hr, hmember⟩ => h.elim (fun h => absurd hr (not_lt.2 h)) fun h => by simp [h] at hmember

theorem isAdopting_eq_false_iff {d : DeskRepl} {r : Nat} :
    isAdopting d r = false ↔ ∀ e ∈ d.adoption, e.record ≠ r := by
  rw [← Bool.not_eq_true, isAdopting_iff]
  push Not
  rfl

/-- A record in none of the lists is CLEAN (R135). -/
theorem replState_clean {d : DeskRepl} {r : Nat} (hdirty : isDirty d r = false) (hflight : isInFlight d r = false)
    (hadopting : isAdopting d r = false) : replState d r = .clean := by
  rw [replState, hdirty, hflight, hadopting]

/-- Settles O57. -/
theorem reportTaken : Obligations.ReportTaken := by
  unfold Obligations.ReportTaken
  intro s p rest hrole hsized hinbox r remaining
  let u := s.setReceiver { s.receiver with inbox := rest }
  have hu : Keeps [.receiver] s u := setReceiver_keeps s _
  have hexec : exec .reportReceived s = .next (adoptReport r (payloadContents p) u) :=
    congrArg Host.Outcome.next (consumeHead_of_head hinbox)
  have hadopt := adoptReport_keeps r (payloadContents p) u
  refine ⟨_, hexec, hadopt.part .receiver (by decide), fun h => ?_, fun e he hrecord hr => ?_⟩
  · have hnone : recordCount ≤ r ∨ isAdopting u.desk r = false := h.imp_right isAdopting_eq_false_iff.2
    rw [adoptReport_of_dropped hnone]
    exact hu
  · have hmember : isAdopting s.desk r = true := isAdopting_iff.2 ⟨e, he, hrecord⟩
    have htaken : adoptReport r (payloadContents p) u = leaveAdoption r (reported r (payloadContents p) u) :=
      adoptReport_of_member (s := u) hrole hr hmember _
    have hdesk : (adoptReport r (payloadContents p) u).desk = { s.desk with
        shadow := s.desk.shadow.set r
          { contents := payloadContents p, version := 0, confirmed := 0, stamp := s.superframe },
        adopted := s.desk.adopted + 1, adoption := remaining } := by
      rw [htaken, leaveAdoption_desk]
      rfl
    refine ⟨(hu.mono (by decide)).next hadopt (by decide), hdesk, fun hlists => ?_, fun hrest => ?_, fun hlast => ?_⟩
    · obtain ⟨hclear, -⟩ := (listsOk_iff s).1 hlists
      obtain ⟨hdirty, hflight⟩ := hclear.adoptingClear e he
      rw [hdesk]
      refine replState_clean (hrecord ▸ hdirty) (hrecord ▸ hflight) (isAdopting_eq_false_iff.2 fun x hx => ?_)
      simpa using (List.mem_filter.1 hx).2
    · have hkept : Keeps [.desk] (reported r (payloadContents p) u) (adoptReport r (payloadContents p) u) :=
        htaken ▸ leaveAdoption_of_rest (s := reported r (payloadContents p) u) hrest
      exact ⟨hkept.part .ring (by decide), hkept.part .regs (by decide)⟩
    · rw [htaken, leaveAdoption_of_last (s := reported r (payloadContents p) u) hmember hlast]
      exact ⟨adoptDone_noticed _, (adoptDone_ring _).trans (ringWith_congr rfl rfl rfl)⟩

/-! ## NOTE and STATUS (R174, R176) -/

theorem appendEvent_of_last (stamp : Word) (type origin : Byte) (subject : Half) (detail : Word)
    (h : s.ring.written = 4294967295#32) : appendEvent stamp type origin subject detail s = s := if_pos h

/-- The desk forwards no event (R110). -/
theorem appendEvent_sched_of_desk (hrole : s.role = .desk) (stamp : Word) (type origin : Byte) (subject : Half)
    (detail : Word) : (appendEvent stamp type origin subject detail s).sched = s.sched := by
  unfold appendEvent
  split
  · rfl
  · simp only [forwardCursor, hrole]
    rfl

/-- Settles O58. -/
theorem noteStatusTaken : Obligations.NoteStatusTaken := by
  unfold Obligations.NoteStatusTaken
  intro s type p rest hrole hinbox
  let u := s.setReceiver { s.receiver with inbox := rest }
  have hu : Keeps [.receiver] s u := setReceiver_keeps s _
  refine ⟨?note, ?status⟩
  case note =>
    rintro rfl
    have hexec : exec .noteReceived s = .next (receiveNote p u) :=
      congrArg Host.Outcome.next (consumeHead_of_head hinbox)
    have hnote := receiveNote_keeps p u
    refine ⟨_, hexec, hnote.part .receiver (by decide), fun h => ?_, fun horigin hspace => ?_⟩
    · have hsame : receiveNote p u = u := by
        rcases h with h | h
        · exact if_neg fun ⟨_, horigin⟩ => h horigin
        · unfold receiveNote
          rw [appendEvent_of_last (s := u) _ _ _ _ _ h, ite_self]
      rw [hsame]
      exact hu
    · have htaken : receiveNote p u = appendEvent (word32At p 12) (byteAt p 8) 1 (half16At p 10) (word32At p 0) u :=
        if_pos ⟨hrole, horigin⟩
      refine ⟨(hu.mono (by decide)).next hnote (by decide), ?_, ?_, ?_⟩ <;> rw [htaken]
      · exact appendEvent_sched_of_desk (s := u) hrole ..
      all_goals rw [appendEvent, if_neg (show ¬ u.ring.written = 4294967295#32 from hspace)]
      · rfl
      · rfl
  case status =>
    rintro rfl
    have hexec : exec .statusReceived s = .next (receiveStatus p u) :=
      congrArg Host.Outcome.next (consumeHead_of_head hinbox)
    have hstatus := receiveStatus_keeps p u
    refine ⟨_, hexec, hstatus.part .receiver (by decide), (hu.mono (by decide)).next hstatus (by decide), ?_⟩
    rw [receiveStatus, if_pos (show u.role = .desk from hrole)]
    rfl

end Sys2Proof.Machine
end


section
/-! Host writes into the board (sections 9.1, 9.3), and a whole scan (section 9.3). -/

namespace Sys2Proof.Machine

variable {s t u : State}

/-! ## Writes that are refused (R161) -/

theorem boardWritable_iff (role : Role) (offset : Nat) (width : Width) : boardWritable role offset width = true ↔
    role = .desk ∧ width = .word ∧ offset % 4 = 0 ∧ offset < 0x400 ∧ offset / 4 % 8 ≤ 5 := by
  simp [boardWritable, and_assoc]

/-- A refused write of any row is `refuseWrite`. -/
theorem exec_of_refusedWrite {i : Instr} (h : RefusedWrite s.role i) : exec i s = .next (refuseWrite s) := by
  cases i <;> try exact h.elim
  case linkstatWrite => rfl
  case windowWrite offset width value afterRead =>
    refine congrArg Host.Outcome.next (if_neg fun hwritable => ?_)
    obtain ⟨hrole, hwidth, -, hboard, hword⟩ := (boardWritable_iff ..).1 hwritable
    rcases h with h | h | h | h
    · exact h hwidth
    · omega
    · omega
    · cases hrole.symm.trans h
  all_goals exact congrArg Host.Outcome.next (if_neg h)

/-! ## The scan's reads (R165, R171) -/

/-- What the scan takes word `j` for is the same before and after it reads word `k`. -/
theorem lookup_readOnce (s : State) (i k j : Nat) (reads : List (Nat × Word)) :
    ((readOnce s i k reads).lookup j).getD (entryWord s i j) = (reads.lookup j).getD (entryWord s i j) := by
  unfold readOnce
  split
  · rfl
  next hnone =>
    rw [List.lookup_append]
    cases hj : reads.lookup j with
    | some w => rfl
    | none =>
      by_cases hjk : j = k
      · subst hjk
        simp
      · simp [List.lookup_cons, beq_eq_false_iff_ne.2 hjk]

theorem lookup_readOnce_self (s : State) (i k : Nat) (reads : List (Nat × Word)) :
    ((readOnce s i k reads).lookup k).isSome = true := by
  unfold readOnce
  split
  next w h => rw [h, Option.isSome_some]
  next hnone => simp [List.lookup_append, hnone]

/-- What the scan has read by the time it has read word 0 and word `k`. -/
def readsAfter (s : State) (i k : Nat) : List (Nat × Word) := readOnce s i k (readOnce s i 0 s.scanner.reads)

theorem lookup_readsAfter (s : State) (i k j : Nat) :
    ((readsAfter s i k).lookup j).getD (entryWord s i j) = (s.scanner.reads.lookup j).getD (entryWord s i j) :=
  (lookup_readOnce ..).trans (lookup_readOnce ..)

theorem scanWord_of_standing {i : Nat} (h : s.scanner.pos = some i) (j : Nat) :
    scanWord s i j = (s.scanner.reads.lookup j).getD (entryWord s i j) := if_pos h

theorem readFirst_of_at {i : Nat} (k : Nat) (h : s.scanner.pos = some i) : readFirst i k s = readAt i k s := by
  simp only [readFirst, h, le_refl, if_true]

theorem readFirst_of_before {i n : Nat} (k : Nat) (h : s.scanner.pos = some n) (hn : n < i) :
    readFirst i k s = readAt i k (scanTo i (some i) s) := by
  simp only [readFirst, h, hn.le, hn.ne, if_true, if_false]

theorem readFirst_of_past {i : Nat} (k : Nat) (h : ∀ n, s.scanner.pos = some n → i < n) : readFirst i k s = s := by
  unfold readFirst
  split
  next n hn => exact if_neg (not_le.2 (h n hn))
  next => rfl

/-! ## A word stored in the board -/

theorem exec_windowWrite {offset : BitVec 14} (value : Word) (hrole : s.role = .desk) (haligned : offset.toNat % 4 = 0)
    (hboard : offset.toNat < 0x400) (hwords : offset.toNat / 4 % 8 ≤ 5) (afterRead : Bool) :
    exec (.windowWrite offset .word value afterRead) s = .next (storeBoard offset.toNat value afterRead s) :=
  congrArg Host.Outcome.next (if_pos ((boardWritable_iff ..).2 ⟨hrole, rfl, haligned, hboard, hwords⟩))

/-- The word is stored as written, and no other byte changes. -/
theorem stored_setBoard {offset : Nat} (value : Word) (hboard : offset < 0x400) (hwf : s.board.wf = true) :
    readWindow (s.setBoard (s.board.writeWord offset value)) offset = value ∧
      ∀ a, (a < offset ∨ offset + 4 ≤ a) →
        (s.setBoard (s.board.writeWord offset value)).board.readByte a = s.board.readByte a := by
  refine ⟨?_, fun a ha => Memory.readByte_writeWord_other _ _ _ _ ha⟩
  rw [readWindow_board _ hboard]
  exact Memory.readWord_writeWord_self _ _ _ hwf

theorem entryAddress_of_aligned {offset : Nat} (haligned : offset % 4 = 0) :
    entryAddress (offset / 32) (offset / 4 % 8) = offset := by
  unfold entryAddress
  omega

theorem entryWord_setBoard_self {offset : Nat} (value : Word) (haligned : offset % 4 = 0) (hwf : s.board.wf = true) :
    entryWord (s.setBoard (s.board.writeWord offset value)) (offset / 32) (offset / 4 % 8) = value := by
  rw [entryWord, entryAddress_of_aligned haligned]
  exact Memory.readWord_writeWord_self _ _ _ hwf

theorem entryWord_setBoard_other {offset j : Nat} (value : Word) (s : State) (haligned : offset % 4 = 0)
    (hne : j ≠ offset / 4 % 8) :
    entryWord (s.setBoard (s.board.writeWord offset value)) (offset / 32) j = entryWord s (offset / 32) j := by
  refine Memory.readWord_writeWord_other _ _ _ _ ?_
  unfold entryAddress
  omega

/-- Settles O20: a refused write by its row, a stored one by where the scan stands. -/
theorem hostWrites : Obligations.HostWrites := by
  unfold Obligations.HostWrites
  refine ⟨fun i s h => ⟨_, exec_of_refusedWrite h, setNotice_keeps .window s, rfl⟩, ?_⟩
  intro offset value s hrole haligned hboard hwords hok entry k stored
  have hexec := fun u hu afterRead => exec_windowWrite (s := u) value hu haligned hboard hwords afterRead
  have hstored : ∀ u : State, u.board = s.board → stored (u.setBoard (u.board.writeWord offset.toNat value)) :=
    fun u hu => by
      obtain ⟨hread, hother⟩ := stored_setBoard (s := u) value hboard (hu ▸ hok.1)
      exact ⟨hread, fun a ha => (hother a ha).trans (by rw [hu])⟩
  refine ⟨⟨_, hexec s hrole false, setBoard_keeps s _, hstored s rfl, fun hfree => ?_⟩, fun hpast => ?_,
    fun hpos htake => ?_, fun hpos htake => ?_, fun n hpos hn => ?_⟩
  · have hword := entryWord_setBoard_self (s := s) value haligned hok.1
    unfold scanWord
    split
    next hpos =>
      have hnone : s.scanner.reads.lookup k = none := hfree.resolve_right (not_not.2 hpos)
      change (s.scanner.reads.lookup k).getD _ = _
      rw [hnone]
      exact hword
    next => exact hword
  · refine ⟨_, hexec s hrole true, ?_⟩
    rw [storeBoard, if_pos rfl, readFirst_of_past _ hpast]
    exact ⟨setBoard_keeps s _, hstored s rfl⟩
  · refine ⟨_, hexec s hrole true, ?_⟩
    rw [storeBoard, if_pos rfl, readFirst_of_at _ hpos, readAt, if_pos htake]
    refine ⟨((setScanner_keeps s _).mono (by decide)).next (setBoard_keeps _ _) (by decide), hstored _ rfl, rfl,
      fun j hj => ?_⟩
    change ((if s.scanner.pos = some entry then _ else _) : Word) = _
    rw [if_pos hpos, scanWord_of_standing hpos, ← lookup_readsAfter s entry k j]
    by_cases hjk : j = k
    · subst hjk
      obtain ⟨w, hw⟩ := Option.isSome_iff_exists.1
        (lookup_readOnce_self s entry k (readOnce s entry 0 s.scanner.reads))
      change ((readsAfter s entry k).lookup k).getD _ = _
      rw [readsAfter, hw]
      rfl
    · exact congrArg (Option.getD _) (entryWord_setBoard_other value s haligned hjk)
  · refine ⟨_, hexec s hrole true, ?_⟩
    rw [storeBoard, if_pos rfl, readFirst_of_at _ hpos, readAt, if_neg (by simp [htake])]
    exact ⟨((setScanner_keeps s _).mono (by decide)).next (setBoard_keeps _ _) (by decide), hstored _ rfl, rfl⟩
  · have hscan : (scanTo entry (some entry) s).role = .desk :=
      ((scanTo_keeps entry (some entry) s).part .role (by decide)).trans hrole
    rw [hexec s hrole true, hexec _ hscan true]
    have hstands : (scanTo entry (some entry) s).scanner.pos = some entry := rfl
    rw [storeBoard, storeBoard, if_pos rfl, if_pos rfl, readFirst_of_before _ hpos hn, readFirst_of_at _ hstands]

end Sys2Proof.Machine
end


section
/-! A whole scan of the board (section 9.3): how an entry is judged, what taking one entry leaves of it and of the
others, and the run over the entries. -/

namespace Sys2Proof.Machine

variable {s t u : State}

/-! ## Judging an entry (R165, R166) -/

theorem wordByte_eq_extractLsb' (w : Word) (j : Nat) : wordByte w j = w.extractLsb' (8 * j) 8 := by
  ext k hk
  simp [wordByte]

theorem argumentByte_eq (s : State) (i k : Nat) :
    argumentByte s i k = (scanWord s i (2 + k / 4)).extractLsb' (8 * (k % 4)) 8 := wordByte_eq_extractLsb' ..

/-- The verdict by kind, target and arguments. -/
def verdictOf (kind target : Nat) (argument : Nat → Byte) : Verdict :=
  if kind = 0 ∨ 5 < kind then .refuse .refusedKind
  else if (kind ≤ 2 ∧ 226 ≤ target) ∨ ((kind = 3 ∨ kind = 4) ∧ 2 ≤ target) then .refuse .refusedTarget
  else if (kind = 2 ∧
        (if target < 112 then 4 else if target < 224 then 16 else if target = 224 then 3 else 2) ≤ (argument 0).toNat) ∨
      (kind = 3 ∧ argument 0 ≠ 1#8 ∧ argument 0 ≠ 2#8) then
    .refuse .refusedArgument
  else .valid (
    if kind = 1 then .setRecord target ((List.range 16).map argument)
    else if kind = 2 then .setField target (argument 0).toNat (argument 1)
    else if kind = 3 then
      .talkPress (if target = 0 then .a else .b) (argument 0 == 2#8) (argument 2 ++ argument 1) (argument 3)
    else if kind = 4 then .talkRelease (if target = 0 then .a else .b)
    else .replayAll)

theorem sourceOf_eq (target : Nat) :
    sourceOf target = if 2 ≤ target then none else some (if target = 0 then .a else .b) := by
  rcases target with _ | _ | target
  · rfl
  · rfl
  · rw [if_pos (by omega)]
    rfl

theorem judgeEntry_eq (s : State) (i : Nat) : judgeEntry s i =
    verdictOf (wordKind (scanWord s i 0)).toNat (entryTarget s i) (argumentByte s i) := by
  unfold judgeEntry argumentBytes verdictOf
  generalize (wordKind (scanWord s i 0)).toNat = kind
  generalize entryTarget s i = target
  generalize argumentByte s i = argument
  dsimp only
  split
  case h_1 => by_cases h : target < 226 <;> simp [recordCount, h]
  case h_2 =>
    rw [fieldCount_eq]
    generalize (if target < 112 then 4 else if target < 224 then 16 else if target = 224 then 3 else 2) = fields
    by_cases h : target < 226
    · have hin : ¬ 226 ≤ target := not_le.2 h
      by_cases hfield : (argument 0).toNat < fields
      · simp [recordCount, h, hin, hfield, not_le.2 hfield]
      · simp [recordCount, h, hin, hfield, not_lt.1 hfield]
    · simp [recordCount, h, not_lt.1 h]
  case h_3 =>
    rw [sourceOf_eq]
    by_cases h : 2 ≤ target
    · simp [h]
    · simp only [h, if_false]
      have hmode : ∀ m < 256, (argument 0).toNat = m ↔ argument 0 = BitVec.ofNat 8 m := fun m hm => by
        rw [← BitVec.toNat_inj, BitVec.toNat_ofNat, Nat.mod_eq_of_lt hm]
      split
      next hone => simp [(hmode 1 (by decide)).1 hone]
      next htwo => simp [(hmode 2 (by decide)).1 htwo]
      next hone htwo => simp [mt (hmode 1 (by decide)).2 hone, mt (hmode 2 (by decide)).2 htwo]
  case h_4 =>
    rw [sourceOf_eq]
    by_cases h : 2 ≤ target <;> simp [h]
  case h_5 => simp
  next h1 h2 h3 h4 h5 =>
    have hkind : kind = 0 ∨ 5 < kind := by
      have hne : kind ≠ 1 ∧ kind ≠ 2 ∧ kind ≠ 3 ∧ kind ≠ 4 ∧ kind ≠ 5 := ⟨h1, h2, h3, h4, h5⟩
      omega
    rw [if_pos hkind]

/-- The kind code of a request (11.5). -/
def requestCode : Request → Byte
  | .setRecord _ _ => 1
  | .setField _ _ _ => 2
  | .talkPress _ _ _ _ => 3
  | .talkRelease _ => 4
  | .replayAll => 5

theorem wordKind_of_valid {i : Nat} {r : Request} (h : judgeEntry s i = .valid r) :
    wordKind (scanWord s i 0) = requestCode r := by
  have hcode : ∀ {m : Nat}, (wordKind (scanWord s i 0)).toNat = m → wordKind (scanWord s i 0) = BitVec.ofNat 8 m :=
    fun hm => by rw [← hm, BitVec.ofNat_toNat, BitVec.setWidth_eq]
  unfold judgeEntry at h
  dsimp only at h
  split at h
  next hkind =>
    split at h <;> cases h
    exact hcode hkind
  next hkind =>
    split at h
    · split at h <;> cases h
      exact hcode hkind
    · cases h
  next hkind =>
    split at h
    · cases h
    · split at h <;> cases h
      · exact hcode hkind
      · exact hcode hkind
  next hkind =>
    split at h <;> cases h
    exact hcode hkind
  next hkind =>
    cases h
    exact hcode hkind
  next => cases h

/-! ## The words of a written entry -/

theorem wordState_word0 (tag : Half) (kind code : Byte) : wordState (tag ++ kind ++ code) = code :=
  BitVec.extractLsb'_append_eq_right

theorem wordKind_word0 (tag : Half) (kind code : Byte) : wordKind (tag ++ kind ++ code) = kind := by
  rw [wordKind, BitVec.extractLsb'_append_eq_of_le (by decide)]
  exact BitVec.extractLsb'_append_eq_right

theorem wordTag_word0 (tag : Half) (kind code : Byte) : wordTag (tag ++ kind ++ code) = tag := by
  rw [wordTag, BitVec.extractLsb'_append_eq_of_le (by decide), BitVec.extractLsb'_append_eq_of_le (by decide)]
  exact BitVec.extractLsb'_eq_self

/-! ## Taking one entry -/

/-- What the scan leaves of an entry it takes (R163, R166 to R168). -/
structure EntryTaken (s t : State) (i : Nat) : Prop where
  kind : wordKind (entryWord t i 0) = wordKind (scanWord s i 0)
  tag : wordTag (entryWord t i 0) = wordTag (scanWord s i 0)
  count : entryWord t i 7 = s.superframe
  arguments : ∀ w, 1 ≤ w → w ≤ 5 → entryWord t i w = entryWord s i w
  refused : ∀ result, judgeEntry s i = .refuse result →
    wordState (entryWord t i 0) = 5 ∧ noticed .board t ∧ entryWord t i 6 = 0#24 ++ entryResultCode result
  edited : ∀ r, judgeEntry s i = .valid r → requestCode r = 1 ∨ requestCode r = 2 →
    wordState (entryWord t i 0) = 2 ∧ (entryWord t i 6).extractLsb' 0 8 = 0 ∧
      (i < s.scanner.accepted.length → (acceptedAt t i).isSome = true)
  done : ∀ r, judgeEntry s i = .valid r → requestCode r = 3 ∨ requestCode r = 4 ∨ requestCode r = 5 →
    wordState (entryWord t i 0) = 3 ∧ entryWord t i 6 = 1 ∧ noticed .board t

/-- What stays of an entry while another is taken. -/
structure EntryWaits (s t : State) (i : Nat) : Prop where
  kept : EntryKept s t i
  pos : t.scanner.pos = s.scanner.pos
  reads : t.scanner.reads = s.scanner.reads
  held : t.scanner.accepted.length = s.scanner.accepted.length
  count : t.superframe = s.superframe

theorem EntryWaits.scanWord {i k : Nat} (h : EntryWaits s t i) (hk : k < 8) : scanWord t i k = scanWord s i k := by
  simp only [Machine.scanWord, h.pos, h.reads, h.kept.words k hk]

theorem EntryWaits.isTakeable {i : Nat} (h : EntryWaits s t i) : isTakeable t i = isTakeable s i := by
  simp only [Machine.isTakeable, h.scanWord (k := 0) (by decide), h.kept.accepted]

theorem verdictOf_congr {kind target : Nat} {a b : Nat → Byte} (h : ∀ k < 16, a k = b k) :
    verdictOf kind target a = verdictOf kind target b := by
  have hmap : (List.range 16).map a = (List.range 16).map b :=
    List.map_congr_left fun k hk => h k (List.mem_range.1 hk)
  simp only [verdictOf, hmap, h 0 (by decide), h 1 (by decide), h 2 (by decide), h 3 (by decide)]

theorem EntryWaits.judgeEntry {i : Nat} (h : EntryWaits s t i) : judgeEntry t i = judgeEntry s i := by
  rw [judgeEntry_eq, judgeEntry_eq, entryTarget, entryTarget, h.scanWord (k := 0) (by decide),
    h.scanWord (k := 1) (by decide)]
  refine verdictOf_congr fun k hk => ?_
  rw [argumentByte, argumentByte, h.scanWord (by omega)]

/-- An entry that waited while others were taken is taken as it was. -/
theorem EntryWaits.taken {i : Nat} (w : EntryWaits s t i) (h : EntryTaken t u i) : EntryTaken s u i where
  kind := h.kind.trans (congrArg wordKind (w.scanWord (by decide)))
  tag := h.tag.trans (congrArg wordTag (w.scanWord (by decide)))
  count := h.count.trans w.count
  arguments := fun k hlow hhigh => (h.arguments k hlow hhigh).trans (w.kept.words k (by omega))
  refused := fun result hr => h.refused result (w.judgeEntry.trans hr)
  edited := fun r hr hkind => by
    obtain ⟨hstate, hresult, hheld⟩ := h.edited r (w.judgeEntry.trans hr) hkind
    exact ⟨hstate, hresult, fun hi => hheld (w.held.symm ▸ hi)⟩
  done := fun r hr hkind => h.done r (w.judgeEntry.trans hr) hkind

/-- An entry that is taken stays so while others are. -/
theorem EntryTaken.kept {i : Nat} (h : EntryTaken s t i) (g : EntryKept t u i) (hregs : RegsKept t u) :
    EntryTaken s u i := by
  obtain ⟨hkind, htag, hcount, harguments, hrefused, hedited, hdone⟩ := h
  have h0 := g.words 0 (by decide)
  have h6 := g.words 6 (by decide)
  refine ⟨h0 ▸ hkind, h0 ▸ htag, (g.words 7 (by decide)).trans hcount,
    fun k hlow hhigh => (g.words k (by omega)).trans (harguments k hlow hhigh), fun result hr => ?_,
    fun r hr hk => ?_, fun r hr hk => ?_⟩
  · obtain ⟨hstate, hnoticed, hresult⟩ := hrefused result hr
    exact ⟨h0 ▸ hstate, noticed_of_regsKept hnoticed hregs, h6 ▸ hresult⟩
  · obtain ⟨hstate, hresult, hheld⟩ := hedited r hr hk
    exact ⟨h0 ▸ hstate, h6 ▸ hresult, g.accepted ▸ hheld⟩
  · obtain ⟨hstate, hresult, hnoticed⟩ := hdone r hr hk
    exact ⟨h0 ▸ hstate, h6 ▸ hresult, noticed_of_regsKept hnoticed hregs⟩

/-! ### The entry taken -/

theorem finishEntry_entryWritten {i : Nat} {state : EntryState} {result : EntryResult} {w0 : Word}
    (hwf : s.board.wf = true) (hboard : t.board = s.board) (hcount : t.superframe = s.superframe) :
    EntryWritten s (finishEntry i state result w0 t) i state result false (wordKind w0) (wordTag w0) :=
  finishEntry_written (i := i) (state := state) (result := result) (w0 := w0) hwf hboard hcount

/-- An entry written with the kind and tag the scan read. -/
theorem entryTaken_of_written {i : Nat} {state : EntryState} {result : EntryResult} {clamped : Bool}
    (h : EntryWritten s t i state result clamped (wordKind (scanWord s i 0)) (wordTag (scanWord s i 0)))
    (hrefused : ∀ r, judgeEntry s i = .refuse r → state = .refused ∧ result = r ∧ clamped = false ∧ noticed .board t)
    (hedited : ∀ r, judgeEntry s i = .valid r → requestCode r = 1 ∨ requestCode r = 2 →
      state = .accepted ∧ result = .none ∧ (i < s.scanner.accepted.length → (acceptedAt t i).isSome = true))
    (hdone : ∀ r, judgeEntry s i = .valid r → requestCode r = 3 ∨ requestCode r = 4 ∨ requestCode r = 5 →
      state = .done ∧ result = .done ∧ clamped = false ∧ noticed .board t) : EntryTaken s t i := by
  obtain ⟨hword0, hword6, hword7, hkept, -⟩ := h
  have hstate : wordState (entryWord t i 0) = entryStateCode state := by rw [hword0, wordState_word0]
  refine ⟨by rw [hword0, wordKind_word0], by rw [hword0, wordTag_word0], hword7, hkept, fun r hr => ?_,
    fun r hr hk => ?_, fun r hr hk => ?_⟩
  · obtain ⟨rfl, rfl, rfl, hnoticed⟩ := hrefused r hr
    exact ⟨hstate, hnoticed, hword6⟩
  · obtain ⟨rfl, rfl, hheld⟩ := hedited r hr hk
    refine ⟨hstate, ?_, hheld⟩
    rw [hword6]
    exact BitVec.extractLsb'_append_eq_right
  · obtain ⟨rfl, rfl, rfl, hnoticed⟩ := hdone r hr hk
    exact ⟨hstate, hword6, hnoticed⟩

theorem takeEntry_of_passed {i : Nat} (h : isTakeable s i = false) : takeEntry i s = s := if_neg (by simp [h])

theorem takeEntry_of_refused {i : Nat} {result : EntryResult} (htake : isTakeable s i = true)
    (hjudge : judgeEntry s i = .refuse result) :
    takeEntry i s = finishEntry i .refused result (scanWord s i 0) s := by
  simp only [takeEntry, htake, hjudge, if_true]

theorem finishEntry_entryNoticed (i : Nat) (state : EntryState) (result : EntryResult) (w0 : Word) (s : State) :
    noticed .board (finishEntry i state result w0 s) := noticed_setNotice ..

/-- A request of kind 3 to 5 is carried out on the state without the board, and its entry is DONE. -/
theorem carryOut_of_done {i : Nat} {r : Request} (s : State)
    (h : requestCode r = 3 ∨ requestCode r = 4 ∨ requestCode r = 5) :
    ∃ u, Keeps [.arbiter, .sched, .desk, .ring, .regs] s u ∧
      carryOut i r s = finishEntry i .done .done (scanWord s i 0) u := by
  cases r with
  | setRecord => simp [requestCode] at h
  | setField => simp [requestCode] at h
  | talkPress src latched mask limit => exact ⟨_, (pressTalk_keeps src latched mask limit s).mono (by decide), rfl⟩
  | talkRelease src => exact ⟨_, (releaseTalk_keeps src s).mono (by decide), rfl⟩
  | replayAll => exact ⟨_, (markReplay_keeps s).mono (by decide), rfl⟩

/-- A request of kind 1 or 2 is an accepted edit. -/
theorem carryOut_of_edit {i : Nat} {r : Request} (s : State) (h : requestCode r = 1 ∨ requestCode r = 2) :
    ∃ record requested, carryOut i r s = acceptEdit i record requested s := by
  cases r with
  | setRecord record contents => exact ⟨_, _, rfl⟩
  | setField record index value => exact ⟨_, _, rfl⟩
  | talkPress => simp [requestCode] at h
  | talkRelease => simp [requestCode] at h
  | replayAll => simp [requestCode] at h

theorem requestCode_cases (r : Request) : (requestCode r = 1 ∨ requestCode r = 2) ∨
    requestCode r = 3 ∨ requestCode r = 4 ∨ requestCode r = 5 := by
  cases r <;> simp [requestCode]

theorem not_edit_of_done {r : Request} (h : requestCode r = 3 ∨ requestCode r = 4 ∨ requestCode r = 5) :
    ¬ (requestCode r = 1 ∨ requestCode r = 2) := by
  rcases h with h | h | h <;> rw [h] <;> decide

theorem writtenEdit_board (i r : Nat) (requested : List Byte) (s : State) : (writtenEdit i r requested s).board =
    (writeEntry i .accepted .none (isClamped r requested) (wordKind (scanWord s i 0)) (wordTag (scanWord s i 0)) s).board :=
  writeEntry_board_congr ((editRecord_keeps r requested s).part .board (by decide))
    ((editRecord_keeps r requested s).part .superframe (by decide))

theorem writtenEdit_scanner (i r : Nat) (requested : List Byte) (s : State) :
    (writtenEdit i r requested s).scanner = s.scanner :=
  ((writeEntry_keeps _ _ _ _ _ _ _).part .scanner (by decide)).trans
    ((editRecord_keeps r requested s).part .scanner (by decide))

/-- What taking an entry leaves of it. -/
theorem takeEntry_taken {i : Nat} (hwf : s.board.wf = true) (htake : isTakeable s i = true) :
    EntryTaken s (takeEntry i s) i := by
  cases hjudge : judgeEntry s i with
  | refuse result =>
    rw [takeEntry_of_refused htake hjudge]
    refine entryTaken_of_written (finishEntry_entryWritten hwf rfl rfl) (fun r hr => ?_) (fun r hr => ?_) fun r hr => ?_
    · cases hjudge.symm.trans hr
      exact ⟨rfl, rfl, rfl, finishEntry_entryNoticed ..⟩
    · cases hjudge.symm.trans hr
    · cases hjudge.symm.trans hr
  | valid q =>
    rw [takeEntry_of_valid htake hjudge]
    rcases requestCode_cases q with hedit | hdone
    · obtain ⟨record, requested, hcarry⟩ := carryOut_of_edit (i := i) s hedit
      have hwritten : EntryWritten s (acceptEdit i record requested s) i .accepted .none (isClamped record requested)
          (wordKind (scanWord s i 0)) (wordTag (scanWord s i 0)) := by
        have hboard : (acceptEdit i record requested s).board = (writtenEdit i record requested s).board := rfl
        exact entryWritten_of_board hwf (hboard.trans (writtenEdit_board ..))
      rw [hcarry]
      refine entryTaken_of_written hwritten (fun r hr => ?_) (fun r hr _ => ⟨rfl, rfl, fun hi => ?_⟩) fun r hr hk => ?_
      · cases hjudge.symm.trans hr
      · rw [acceptEdit_eq, acceptedAt_setAccepted_self]
        · rfl
        · rwa [writtenEdit_scanner]
      · cases hjudge.symm.trans hr
        exact absurd hedit (not_edit_of_done hk)
    · obtain ⟨u, hu, hcarry⟩ := carryOut_of_done (i := i) s hdone
      rw [hcarry]
      refine entryTaken_of_written
        (finishEntry_entryWritten hwf (hu.part .board (by decide)) (hu.part .superframe (by decide)))
        (fun r hr => ?_) (fun r hr hk => ?_) fun r hr _ => ?_
      · cases hjudge.symm.trans hr
      · cases hjudge.symm.trans hr
        exact absurd hk (not_edit_of_done hdone)
      · exact ⟨rfl, rfl, rfl, finishEntry_entryNoticed ..⟩

/-! ### The entries not taken -/

theorem finishEntry_waits {i j : Nat} (state : EntryState) (result : EntryResult) (w0 : Word) {T : List Part}
    (hu : Keeps T s u) (hT : .board ∉ T ∧ .scanner ∉ T ∧ .superframe ∉ T) (hj : j ≠ i) :
    EntryWaits s (finishEntry i state result w0 u) j := by
  obtain ⟨hboard, hscanner, hsuperframe⟩ := hT
  have hfinish := finishEntry_keeps i state result w0 u
  have hall : (finishEntry i state result w0 u).scanner = s.scanner :=
    (hfinish.part .scanner (by decide)).trans (hu.part .scanner hscanner)
  have hkept : EntryKept u (finishEntry i state result w0 u) j :=
    ⟨rfl, fun k hk => entryWord_writeEntry_other i j k _ _ _ _ _ u hj hk⟩
  exact
    { kept := (EntryKept.of_parts (hu.part .board hboard) (hu.part .scanner hscanner) j).trans hkept
      pos := congrArg Scanner.pos hall
      reads := congrArg Scanner.reads hall
      held := congrArg (fun c => c.accepted.length) hall
      count := (hfinish.part .superframe (by decide)).trans (hu.part .superframe hsuperframe) }

theorem entryWord_setAccepted (i j k : Nat) (a : Option Accepted) (s : State) :
    entryWord (setAccepted i a s) j k = entryWord s j k := rfl

theorem acceptEdit_waits {i j : Nat} (record : Nat) (requested : List Byte) (s : State) (hj : j ≠ i) :
    EntryWaits s (acceptEdit i record requested s) j := by
  have hedit := editRecord_keeps record requested s
  have hscanner := writtenEdit_scanner i record requested s
  have hkept : EntryKept (editRecord record requested s) (writtenEdit i record requested s) j :=
    ⟨rfl, fun k hk => entryWord_writeEntry_other i j k _ _ _ _ _ _ hj hk⟩
  rw [acceptEdit_eq]
  refine ⟨⟨?_, fun k hk => ?_⟩, ?_, ?_, ?_, ?_⟩
  · rw [acceptedAt_setAccepted_other _ _ hj, acceptedAt, hscanner, acceptedAt]
  · have hbefore := EntryKept.of_parts (hedit.part .board (by decide)) (hedit.part .scanner (by decide)) j
    rw [entryWord_setAccepted, hkept.words k hk, hbefore.words k hk]
  · rw [setAccepted, State.setScanner_scanner, hscanner]
  · rw [setAccepted, State.setScanner_scanner, hscanner]
  · rw [setAccepted, State.setScanner_scanner, List.length_set, hscanner]
  · have hwritten : Keeps [.board] (editRecord record requested s) (writtenEdit i record requested s) :=
      writeEntry_keeps _ _ _ _ _ _ _
    exact ((setAccepted_keeps _ _ _).part .superframe (by decide)).trans
      ((hwritten.part .superframe (by decide)).trans (hedit.part .superframe (by decide)))

theorem EntryWaits.refl (s : State) (i : Nat) : EntryWaits s s i := ⟨EntryKept.refl s i, rfl, rfl, rfl, rfl⟩

theorem EntryWaits.trans {i : Nat} (h : EntryWaits s t i) (g : EntryWaits t u i) : EntryWaits s u i :=
  ⟨h.kept.trans g.kept, g.pos.trans h.pos, g.reads.trans h.reads, g.held.trans h.held, g.count.trans h.count⟩

theorem takeEntry_waits {i j : Nat} (s : State) (hj : j ≠ i) : EntryWaits s (takeEntry i s) j := by
  cases htake : isTakeable s i with
  | false =>
    rw [takeEntry_of_passed htake]
    exact .refl s j
  | true =>
    cases hjudge : judgeEntry s i with
    | refuse result =>
      rw [takeEntry_of_refused htake hjudge]
      exact finishEntry_waits .refused result (scanWord s i 0) (Keeps.refl [] s) (by decide) hj
    | valid r =>
      rw [takeEntry_of_valid htake hjudge]
      rcases requestCode_cases r with hedit | hdone
      · obtain ⟨record, requested, hcarry⟩ := carryOut_of_edit (i := i) s hedit
        rw [hcarry]
        exact acceptEdit_waits record requested s hj
      · obtain ⟨u, hu, hcarry⟩ := carryOut_of_done (i := i) s hdone
        rw [hcarry]
        exact finishEntry_waits .done .done (scanWord s i 0) hu (by decide) hj

/-! ### The run over the entries -/

theorem forEach_takeEntry_waits {l : List Nat} {i : Nat} (hi : i ∉ l) (s : State) :
    EntryWaits s (forEach takeEntry l s) i := by
  induction l generalizing s with
  | nil => exact .refl s i
  | cons j l ih =>
    obtain ⟨hij, hil⟩ := not_or.1 (mt List.mem_cons.2 hi)
    exact (takeEntry_waits s hij).trans (ih hil (takeEntry j s))

/-- A passed entry is as it was when the scan came to it. -/
theorem forEach_takeEntry_passed {l : List Nat} {i : Nat} (h : i ∉ l ∨ isTakeable s i = false) :
    EntryKept s (forEach takeEntry l s) i := by
  induction l generalizing s with
  | nil => exact .refl s i
  | cons j l ih =>
    change EntryKept s (forEach takeEntry l (takeEntry j s)) i
    by_cases hij : i = j
    · subst hij
      have hpassed := h.resolve_left (by simp)
      rw [takeEntry_of_passed hpassed]
      exact ih (.inr hpassed)
    · have hwaits := takeEntry_waits s hij
      exact hwaits.kept.trans (ih (h.imp (fun h hmem => h (List.mem_cons_of_mem j hmem)) hwaits.isTakeable.trans))

theorem Acts.boardOk (h : Acts s t) (hs : BoardOk s) : BoardOk t :=
  h.relates (R := fun s t => BoardOk s → BoardOk t) (fun _ => id) (fun _ _ _ h g hs => g (h hs))
    (fun _ _ _ hact => boardOk_step (.act (audio := false) hact)) hs

theorem forEach_takeEntry_taken {l : List Nat} {i : Nat} (hl : l.Nodup) (hids : ∀ j ∈ l, j < 32) (hi : i ∈ l)
    (hboard : BoardOk s) (htake : isTakeable s i = true) : EntryTaken s (forEach takeEntry l s) i := by
  induction l generalizing s with
  | nil => exact absurd hi List.not_mem_nil
  | cons j l ih =>
    obtain ⟨hjl, hl⟩ := List.nodup_cons.1 hl
    have hrest : ∀ k ∈ l, k < 32 := fun k hk => hids k (List.mem_cons_of_mem j hk)
    have hacts : Acts s (takeEntry j s) := takeEntry_acts (hids j List.mem_cons_self) s
    change EntryTaken s (forEach takeEntry l (takeEntry j s)) i
    rcases List.mem_cons.1 hi with rfl | hil
    · have hregs : RegsKept (takeEntry i s) (forEach takeEntry l (takeEntry i s)) :=
        (Acts.forEach (fun k hk t => takeEntry_acts (hrest k hk) t) _).regsKept
      exact (takeEntry_taken hboard.1 htake).kept (forEach_takeEntry_waits hjl _).kept hregs
    · have hwaits := takeEntry_waits s (ne_of_mem_of_not_mem hil hjl)
      exact hwaits.taken (ih hl hrest hil (hacts.boardOk hboard) (hwaits.isTakeable.trans htake))

/-! ## Where the scan stands matters to no entry but that one -/

/-- The scan stands at `p`, with nothing read there. -/
def standsAt (p : Option Nat) (s : State) : State := s.setScanner { s.scanner with pos := p, reads := [] }

theorem standsAfter_eq (i : Nat) (s : State) : standsAfter i s = standsAt (afterEntry i) s := rfl

variable (p : Option Nat)

theorem writeEvent_standsAt (type : EventType) (subject : Nat) (detail : Word) (s : State) :
    writeEvent type subject detail (standsAt p s) = standsAt p (writeEvent type subject detail s) := by
  by_cases h : s.ring.written = 4294967295#32
  · have hlast : (standsAt p s).ring.written = 4294967295#32 := h
    rw [writeEvent, appendEvent_of_last _ _ _ _ _ hlast, writeEvent, appendEvent_of_last _ _ _ _ _ h]
  · have hspace : ¬ (standsAt p s).ring.written = 4294967295#32 := h
    rw [writeEvent, appendEvent, if_neg hspace, writeEvent, appendEvent, if_neg h]
    rfl

theorem setNotice_standsAt (n : Notice) (s : State) : setNotice n (standsAt p s) = standsAt p (setNotice n s) := rfl

theorem decideCarried_standsAt (s : State) : decideCarried (standsAt p s) = standsAt p (decideCarried s) := by
  have hcarried : carriedState (standsAt p s) = standsAt p (carriedState s) := rfl
  by_cases hpreempted : s.arbiter.carried = some .b ∧ carriedOf s.arbiter.a s.arbiter.b = some .a
  · obtain ⟨hbefore, hafter⟩ := hpreempted
    rw [decideCarried_of_preempted hbefore hafter, decideCarried_of_preempted (s := standsAt p s) hbefore hafter,
      hcarried, writeEvent_standsAt, setNotice_standsAt]
  · by_cases hresumed : s.arbiter.carried = some .a ∧ carriedOf s.arbiter.a s.arbiter.b = some .b
    · obtain ⟨hbefore, hafter⟩ := hresumed
      rw [decideCarried_of_resumed hbefore hafter, decideCarried_of_resumed (s := standsAt p s) hbefore hafter,
        hcarried, writeEvent_standsAt, setNotice_standsAt]
    · have hquiet : s.arbiter.carried = none ∨ carriedOf s.arbiter.a s.arbiter.b = none ∨
          carriedOf s.arbiter.a s.arbiter.b = s.arbiter.carried := by
        revert hpreempted hresumed
        generalize s.arbiter.carried = before
        generalize carriedOf s.arbiter.a s.arbiter.b = after
        rcases before with _ | _ | _ <;> rcases after with _ | _ | _ <;> simp
      rw [decideCarried_of_quiet hquiet, decideCarried_of_quiet (s := standsAt p s) hquiet, hcarried]

theorem setTalkRecord_standsAt (src : TalkSource) (r : TalkRecord) (s : State) :
    setTalkRecord src r (standsAt p s) = standsAt p (setTalkRecord src r s) := by
  cases src <;> rfl

theorem talkRecord_standsAt (src : TalkSource) (s : State) : talkRecord (standsAt p s) src = talkRecord s src := by
  cases src <;> rfl

theorem pressTalk_standsAt (src : TalkSource) (latched : Bool) (mask : Half) (limit : Byte) (s : State) :
    pressTalk src latched mask limit (standsAt p s) = standsAt p (pressTalk src latched mask limit s) := by
  rw [pressTalk, setTalkRecord_standsAt, decideCarried_standsAt]
  rfl

theorem releaseTalk_standsAt (src : TalkSource) (s : State) :
    releaseTalk src (standsAt p s) = standsAt p (releaseTalk src s) := by
  rw [releaseTalk_eq, releaseTalk_eq, talkRecord_standsAt, setTalkRecord_standsAt, decideCarried_standsAt]

theorem adoptDone_standsAt (s : State) : adoptDone (standsAt p s) = standsAt p (adoptDone s) := by
  rw [adoptDone, writeEvent_standsAt, setNotice_standsAt]
  rfl

theorem leaveAdoption_of_more {r : Nat} (hmember : isAdopting s.desk r = true)
    (hrest : s.desk.adoption.filter (fun e => e.record != r) ≠ []) : leaveAdoption r s =
      s.setDesk { s.desk with adoption := s.desk.adoption.filter fun e => e.record != r } := by
  rw [leaveAdoption, if_pos hmember]
  dsimp only
  rw [if_neg (by simpa using hrest)]

theorem leaveAdoption_standsAt (r : Nat) (s : State) :
    leaveAdoption r (standsAt p s) = standsAt p (leaveAdoption r s) := by
  cases hmember : isAdopting s.desk r with
  | false => rw [leaveAdoption_of_not_adopting hmember, leaveAdoption_of_not_adopting (s := standsAt p s) hmember]
  | true =>
    by_cases hlast : s.desk.adoption.filter (fun e => e.record != r) = []
    · rw [leaveAdoption_of_last hmember hlast, leaveAdoption_of_last (s := standsAt p s) hmember hlast]
      exact adoptDone_standsAt p (s.setDesk { s.desk with adoption := [] })
    · rw [leaveAdoption_of_more hmember hlast, leaveAdoption_of_more (s := standsAt p s) hmember hlast]
      rfl

theorem editRecord_standsAt (r : Nat) (requested : List Byte) (s : State) :
    editRecord r requested (standsAt p s) = standsAt p (editRecord r requested s) := by
  have hshadow : shadowEdited r requested (standsAt p s) = standsAt p (shadowEdited r requested s) := rfl
  rw [editRecord_eq, hshadow, leaveAdoption_standsAt]
  rfl

/-- What is carried out for an entry does not turn on where the scan stands, once word 0 and word 1 read the same. -/
theorem carryOut_standsAt {i : Nat} (r : Request) (s : State)
    (h0 : scanWord (standsAt p s) i 0 = scanWord s i 0) (h1 : scanWord (standsAt p s) i 1 = scanWord s i 1) :
    carryOut i r (standsAt p s) = standsAt p (carryOut i r s) := by
  have hedit : ∀ record requested, acceptEdit i record requested (standsAt p s) =
      standsAt p (acceptEdit i record requested s) := fun record requested => by
    unfold acceptEdit entryDeadline
    rw [h0, h1, editRecord_standsAt]
    rfl
  cases r with
  | setRecord record contents => exact hedit record contents
  | setField record index value => exact hedit record _
  | talkPress src latched mask limit =>
    simp only [carryOut, h0, pressTalk_standsAt]
    rfl
  | talkRelease src =>
    simp only [carryOut, h0, releaseTalk_standsAt]
    rfl
  | replayAll =>
    simp only [carryOut, h0]
    rfl

theorem takeEntry_standsAt {i : Nat} (hpos : s.scanner.pos ≠ some i) :
    takeEntry i (standsAt p s) = standsAt p (takeEntry i s) := by
  have hword : ∀ k, scanWord (standsAt p s) i k = scanWord s i k := fun k => by
    have hhere : scanWord s i k = entryWord s i k := if_neg hpos
    rw [hhere, scanWord]
    split <;> rfl
  have htake : isTakeable (standsAt p s) i = isTakeable s i := by
    rw [isTakeable, hword]
    rfl
  have hjudge : judgeEntry (standsAt p s) i = judgeEntry s i := by
    have harguments : argumentByte (standsAt p s) i = argumentByte s i :=
      funext fun k => congrArg (wordByte · (k % 4)) (hword (2 + k / 4))
    rw [judgeEntry_eq, judgeEntry_eq, harguments, entryTarget, entryTarget, hword, hword]
  cases h : isTakeable s i with
  | false => rw [takeEntry_of_passed h, takeEntry_of_passed (htake.trans h)]
  | true =>
    cases hr : judgeEntry s i with
    | refuse result =>
      rw [takeEntry_of_refused h hr, takeEntry_of_refused (htake.trans h) (hjudge.trans hr), hword]
      rfl
    | valid r =>
      rw [takeEntry_of_valid h hr, takeEntry_of_valid (htake.trans h) (hjudge.trans hr)]
      exact carryOut_standsAt p r s (hword 0) (hword 1)

theorem forEach_takeEntry_standsAt {l : List Nat} (hpos : ∀ j ∈ l, s.scanner.pos ≠ some j) :
    forEach takeEntry l (standsAt p s) = standsAt p (forEach takeEntry l s) := by
  induction l generalizing s with
  | nil => rfl
  | cons j l ih =>
    change forEach takeEntry l (takeEntry j (standsAt p s)) = standsAt p (forEach takeEntry l (takeEntry j s))
    rw [takeEntry_standsAt p (hpos j List.mem_cons_self)]
    have hsame : (takeEntry j s).scanner.pos = s.scanner.pos := (takeEntry_waits s (Nat.succ_ne_self j)).pos
    exact ih fun k hk => hsame ▸ hpos k (List.mem_cons_of_mem j hk)

/-! ## The scan's rest -/

theorem takeEntry_scanner (i : Nat) (s : State) :
    (takeEntry i s).scanner = { s.scanner with accepted := (takeEntry i s).scanner.accepted } := by
  cases htake : isTakeable s i with
  | false => rw [takeEntry_of_passed htake]
  | true =>
    cases hjudge : judgeEntry s i with
    | refuse result =>
      rw [takeEntry_of_refused htake hjudge, (finishEntry_keeps _ _ _ _ s).part .scanner (by decide)]
    | valid r =>
      rw [takeEntry_of_valid htake hjudge]
      rcases requestCode_cases r with hedit | hdone
      · obtain ⟨record, requested, hcarry⟩ := carryOut_of_edit (i := i) s hedit
        rw [hcarry, acceptEdit_eq, setAccepted, State.setScanner_scanner, writtenEdit_scanner]
      · obtain ⟨u, hu, hcarry⟩ := carryOut_of_done (i := i) s hdone
        rw [hcarry, (finishEntry_keeps _ _ _ _ u).part .scanner (by decide), hu.part .scanner (by decide)]

theorem forEach_takeEntry_scanner (l : List Nat) (s : State) : (forEach takeEntry l s).scanner =
    { s.scanner with accepted := (forEach takeEntry l s).scanner.accepted } := by
  induction l generalizing s with
  | nil => rfl
  | cons j l ih =>
    change (forEach takeEntry l (takeEntry j s)).scanner =
      { s.scanner with accepted := (forEach takeEntry l (takeEntry j s)).scanner.accepted }
    rw [ih (takeEntry j s), takeEntry_scanner j s]

theorem finishScan_of_scanning {k : Nat} (hrole : s.role = .desk) (hpos : s.scanner.pos = some k) :
    finishScan s = standsAt none (forEach takeEntry (List.range' k (32 - k)) s) := by
  simp only [finishScan, hrole, scanTo, entriesTo, hpos]
  rfl

/-- The row of a request. -/
def requestRow (i : Fin 32) : Request → Instr
  | .setRecord _ _ => .setRecord i
  | .setField _ _ _ => .setField i
  | .talkPress _ _ _ _ => .talkPress i
  | .talkRelease _ => .talkRelease i
  | .replayAll => .replayAll i

theorem exec_requestRow (i : Fin 32) (r : Request) (s : State) :
    exec (requestRow i r) s = .next (scanStep i.val (requestKind r) s) := by
  cases r <;> rfl

/-- Taking a request by its own row and then the rest is taking all of the scan. -/
theorem finishScan_after_row {i : Fin 32} {r : Request} (hat : ScanAt s i r) :
    finishScan (standsAfter i.val (carryOut i.val r s)) = finishScan s := by
  obtain ⟨hrole, hpos, htake, hjudge⟩ := hat
  have htaken := takeEntry_of_valid htake hjudge
  have hwaits : ∀ j, j ≠ i.val → EntryWaits s (carryOut i.val r s) j := fun j hj => htaken ▸ takeEntry_waits s hj
  have hrole' : (standsAfter i.val (carryOut i.val r s)).role = .desk :=
    (htaken ▸ takeEntry_keeps i.val s).part .role (by decide) |>.trans hrole
  have hlist : List.range' i.val (32 - i.val) = i.val :: List.range' (i.val + 1) (32 - (i.val + 1)) := by
    rw [show 32 - i.val = 32 - (i.val + 1) + 1 by omega, List.range'_succ]
  have hall : finishScan s =
      standsAt none (forEach takeEntry (List.range' (i.val + 1) (32 - (i.val + 1))) (carryOut i.val r s)) := by
    rw [finishScan_of_scanning hrole hpos, hlist, ← htaken]
    rfl
  rw [hall]
  have hrest : ∀ j ∈ List.range' (i.val + 1) (32 - (i.val + 1)), (carryOut i.val r s).scanner.pos ≠ some j := by
    intro j hj
    rw [(hwaits (i.val + 1) (by omega)).pos, hpos]
    have hlow := (List.mem_range'_1.1 hj).1
    exact fun h => by
      have := Option.some.inj h
      omega
  by_cases hlast : i.val + 1 < 32
  · have hstand : standsAfter i.val (carryOut i.val r s) = standsAt (some (i.val + 1)) (carryOut i.val r s) := by
      rw [standsAfter_eq, afterEntry, if_pos hlast]
    rw [hstand] at hrole' ⊢
    rw [finishScan_of_scanning hrole' rfl, forEach_takeEntry_standsAt _ hrest]
    rfl
  · have hempty : List.range' (i.val + 1) (32 - (i.val + 1)) = [] := by
      rw [show 32 - (i.val + 1) = 0 by omega]
      rfl
    have hstand : standsAfter i.val (carryOut i.val r s) = standsAt none (carryOut i.val r s) := by
      rw [standsAfter_eq, afterEntry, if_neg hlast]
    rw [hstand] at hrole' ⊢
    rw [hempty]
    simp only [finishScan, hrole', scanTo, entriesTo]
    rfl

/-- Settles O31. -/
theorem boardScanned : Obligations.BoardScanned := by
  unfold Obligations.BoardScanned
  refine ⟨fun s i hi => ?judging, fun s hrole hpos hreads => ?idle, fun s k hrole hpos hboard => ?scan,
    fun s i r hat => ?row⟩
  case judging =>
    refine ⟨fun hreads k hk => ?_, ?_, ?_⟩
    · rw [readWindow_board s (by omega), scanWord, hreads]
      split <;> rfl
    · rw [isTakeable, Bool.and_eq_true, beq_iff_eq, Option.isNone_iff_eq_none]
      rfl
    · have harguments : argumentByte s i = fun k => (scanWord s i (2 + k / 4)).extractLsb' (8 * (k % 4)) 8 :=
        funext fun k => argumentByte_eq s i k
      rw [judgeEntry_eq, harguments]
      rfl
  case idle =>
    have hsame : finishScan s = s := by
      simp only [finishScan, hrole, scanTo, entriesTo, hpos]
      have hscanner : { s.scanner with pos := none, reads := [] } = s.scanner := by rw [← hpos, ← hreads]
      change s.setScanner { s.scanner with pos := none, reads := [] } = s
      rw [hscanner]
      rfl
    exact congrArg Host.Outcome.next hsame
  case scan =>
    have hscan := finishScan_of_scanning hrole hpos
    have hone : (List.range' k (32 - k)).Nodup := List.nodup_range'
    have hids : ∀ j ∈ List.range' k (32 - k), j < 32 := fun j hj => by
      have := List.mem_range'_1.1 hj
      omega
    have hall : ∀ i, k ≤ i → i < 32 → i ∈ List.range' k (32 - k) := fun i hlow hhigh =>
      List.mem_range'_1.2 (by omega)
    refine ⟨finishScan s, rfl, ?_, hscan, (finishScan_keeps s).mono (by decide), (finishScan_acts s).regsKept,
      fun i w hi hw hpassed => ?_, fun i hlow hhigh htake => ?_⟩
    · rw [hscan]
      change { (forEach takeEntry _ s).scanner with pos := none, reads := [] } = _
      rw [forEach_takeEntry_scanner]
      rfl
    · rw [hscan]
      refine (forEach_takeEntry_passed (hpassed.imp_left fun hbefore hmem => ?_)).words w hw
      have := (List.mem_range'_1.1 hmem).1
      omega
    · have htaken : EntryTaken s (finishScan s) i := by
        have h := forEach_takeEntry_taken hone hids (hall i hlow hhigh) hboard htake
        rw [hscan]
        exact ⟨h.kind, h.tag, h.count, h.arguments, h.refused, h.edited, h.done⟩
      refine ⟨htaken.kind, htaken.tag, htaken.count, htaken.arguments, fun result hr => ?_, fun r hr => ?_⟩
      · obtain ⟨hstate, hnoticed, hresult⟩ := htaken.refused result hr
        exact ⟨hstate, hnoticed, fun h => hresult.trans (by rw [h]; rfl), fun h => hresult.trans (by rw [h]; rfl),
          fun h => hresult.trans (by rw [h]; rfl)⟩
      · rw [wordKind_of_valid hr]
        refine ⟨fun hkind => ?_, fun hkind => htaken.done r hr hkind⟩
        obtain ⟨hstate, hresult, hheld⟩ := htaken.edited r hr hkind
        exact ⟨hstate, hresult, fun hlength => hheld (hlength ▸ hhigh)⟩
  case row =>
    have hexec : exec (requestRow i r) s = .next (standsAfter i.val (carryOut i.val r s)) :=
      (exec_requestRow i r s).trans (congrArg Host.Outcome.next (scanStep_of_at hat))
    refine ⟨_, Eq.trans ?_ hexec, rfl, congrArg Host.Outcome.next (finishScan_after_row hat)⟩
    cases r <;> rfl

end Sys2Proof.Machine
end


section
/-! The messages that an end begins (section 6.4) and a take of the Meter Collector (section 5.1). -/

namespace Sys2Proof.Machine

variable {s t u : State}

/-! ## What the scheduler picks (R105, R106, R109) -/

theorem mayBegin_of_pick {k : Pick} (hidle : s.sched.sending = []) (hpick : pick s = some k) : mayBegin k s = true := by
  simp [mayBegin, hidle, hpick]

theorem pick_of_hello (h : s.sched.helloDue = true) : pick s = some .hello := by
  unfold pick
  split
  · rw [pickDesk, if_pos h]
  · rw [pickStage, if_pos h]

theorem pick_of_pull (hrole : s.role = .desk) (hhello : s.sched.helloDue = false) (hlinked : s.link.state = .linked)
    {r : Nat} (hcount : pullsOutstanding s.desk < 8) (hr : pullCandidate s.desk = some r) :
    pick s = some (.pull r) := by
  rw [pick_of_desk hrole, pickDesk, if_neg (by simp [hhello]), if_pos hlinked, if_pos hcount, hr]

theorem pick_of_push (hrole : s.role = .desk) (hhello : s.sched.helloDue = false) (hlinked : s.link.state = .linked)
    {r : Nat} (hpull : 8 ≤ pullsOutstanding s.desk ∨ pullCandidate s.desk = none)
    (hcount : s.desk.inFlight.length < 8) (hr : pushCandidate s.desk = some r) : pick s = some (.push r) := by
  have hnone : (if pullsOutstanding s.desk < 8 then pullCandidate s.desk else none) = none := by
    rcases hpull with h | h
    · exact if_neg (not_lt.2 h)
    · rw [h, ite_self]
  rw [pick_of_desk hrole, pickDesk, if_neg (by simp [hhello]), if_pos hlinked, hnone, if_pos hcount, hr]
  rfl

/-- A member waits for its pull. -/
def isUnsent (d : DeskRepl) (r : Nat) : Bool := d.adoption.any fun e => e.record == r && e.pulled.isNone

theorem isUnsent_iff {d : DeskRepl} {r : Nat} :
    isUnsent d r = true ↔ ∃ e ∈ d.adoption, e.record = r ∧ e.pulled = none := by simp [isUnsent]

/-- The lowest unsent member is pulled (R148). -/
theorem pullCandidate_of_lowest {d : DeskRepl} {e : Adoptee} (he : e ∈ d.adoption) (hr : e.record < recordCount)
    (hunsent : e.pulled = none) (hlowest : ∀ x ∈ d.adoption, x.pulled = none → e.record ≤ x.record) :
    pullCandidate d = some e.record := by
  refine List.find?_range_eq_some.2 ⟨isUnsent_iff.2 ⟨e, he, rfl, hunsent⟩, List.mem_range.2 hr, fun j hj => ?_⟩
  have hnot : ¬ isUnsent d j = true := fun h => by
    obtain ⟨x, hx, rfl, hpulled⟩ := isUnsent_iff.1 h
    exact absurd (hlowest x hx hpulled) (not_le.2 hj)
  simpa [isUnsent] using hnot

theorem pullCandidate_of_all_sent {d : DeskRepl} (h : ∀ e ∈ d.adoption, e.pulled ≠ none) : pullCandidate d = none := by
  refine List.find?_eq_none.2 fun r _ hr => ?_
  obtain ⟨e, he, -, hpulled⟩ := isUnsent_iff.1 hr
  exact h e he hpulled

/-- The first dirty record not in flight is pushed (R140). -/
theorem pushCandidate_of_first {d : DeskRepl} {before after : List Nat} {r : Nat} (hdirty : d.dirty = before ++ r :: after)
    (hbefore : ∀ x ∈ before, ∃ e ∈ d.inFlight, e.record = x) (hr : ∀ e ∈ d.inFlight, e.record ≠ r) :
    pushCandidate d = some r := by
  rw [pushCandidate, hdirty]
  refine find?_first (fun x hx => ?_) ?_
  · rw [isInFlight_iff.2 (hbefore x hx)]
    rfl
  · rw [isInFlight_eq_false_iff.2 hr]
    rfl

/-! ## HELLO, PULL and PUSH (R123, R140, R148) -/

theorem boolByte_eq (b : Bool) : boolByte b = (BitVec.ofBool b).setWidth 8 := by cases b <;> rfl

theorem helloPayload_eq (s : State) : helloPayload s =
    [(roleCode s.role).setWidth 8, (BitVec.ofBool s.link.heard).setWidth 8,
      if s.role = .stage ∧ s.stage.fresh = true then 1 else 0] := by
  rw [helloPayload, boolByte_eq]
  congr 3
  cases hrole : s.role <;> cases hfresh : s.stage.fresh <;> rfl

theorem exec_pullBegin {r : Nat} (hidle : s.sched.sending = []) (hpick : pick s = some (.pull r)) :
    exec .pullBegin s = .next (beginPullMessage r s) := by
  change execPullBegin s = _
  unfold execPullBegin
  rw [hpick]
  exact congrArg Host.Outcome.next (if_pos (mayBegin_of_pick hidle hpick))

theorem exec_pushBegin {r : Nat} (hidle : s.sched.sending = []) (hpick : pick s = some (.push r)) :
    exec .pushBegin s = .next (beginPushMessage r s) := by
  change execPushBegin s = _
  unfold execPushBegin
  rw [hpick]
  exact congrArg Host.Outcome.next (if_pos (mayBegin_of_pick hidle hpick))

/-- Settles O51. -/
theorem deskMessagesBegin : Obligations.DeskMessagesBegin := by
  unfold Obligations.DeskMessagesBegin
  refine fun s hidle => ⟨fun hhello => ?hello, fun hrole hhello hlinked => ⟨?pull, ?push⟩⟩
  case hello =>
    have hexec : exec .helloBegin s = .next (beginHello s) :=
      congrArg Host.Outcome.next (if_pos (mayBegin_of_pick hidle (pick_of_hello hhello)))
    refine ⟨_, hexec, (beginHello_keeps s).mono (by decide), ?_, rfl⟩
    rw [← helloPayload_eq]
    rfl
  case pull =>
    intro e he hr hunsent hcount hlowest
    have hpick := pick_of_pull hrole hhello hlinked hcount (pullCandidate_of_lowest he hr hunsent hlowest)
    exact ⟨_, exec_pullBegin hidle hpick, (beginPullMessage_keeps e.record s).mono (by decide), rfl, rfl⟩
  case push =>
    intro before after r hdirty hbefore hr hcount hpull
    have hpick := pick_of_push hrole hhello hlinked (hpull.imp_right pullCandidate_of_all_sent) hcount
      (pushCandidate_of_first hdirty hbefore hr)
    refine ⟨_, exec_pushBegin hidle hpick, (beginPushMessage_keeps r s).mono (by decide), rfl, ?_⟩
    have hnew : r ∉ before := fun hmem => by
      obtain ⟨e, he, hrecord⟩ := hbefore r hmem
      exact hr e he hrecord
    have herase : s.desk.dirty.erase r = before ++ after := by
      rw [hdirty, List.erase_append_right _ hnew, List.erase_cons_head]
    rw [← herase]
    rfl

/-! ## Replies, NOTE and STATUS (R106 to R108) -/

theorem pick_of_reply (hrole : s.role = .stage) (hhello : s.sched.helloDue = false)
    (hlink : s.link.state = .connecting ∨ s.link.state = .linked) (hreplies : s.sched.replies ≠ []) :
    pick s = some .reply := by
  rw [pick_of_stage hrole, pickStage, if_neg (by simp [hhello]), if_pos ⟨hlink, hreplies⟩]

theorem pick_of_note (hrole : s.role = .stage) (hhello : s.sched.helloDue = false)
    (hlinked : s.link.state = .linked) (hreplies : s.sched.replies = [])
    (hbehind : s.sched.noteCursor.toNat < s.ring.written.toNat) : pick s = some .note := by
  rw [pick_of_stage hrole, pickStage, if_neg (by simp [hhello]), if_neg (by simp [hreplies]), if_pos ⟨hlinked, hbehind⟩]

theorem pick_of_status (hrole : s.role = .stage) (hhello : s.sched.helloDue = false)
    (hlinked : s.link.state = .linked) (hreplies : s.sched.replies = [])
    (hnote : s.ring.written.toNat ≤ s.sched.noteCursor.toNat) (hdue : s.sched.statusDue = true) :
    pick s = some .status := by
  rw [pick_of_stage hrole, pickStage, if_neg (by simp [hhello]), if_neg (by simp [hreplies]),
    if_neg fun h => absurd h.2 (not_lt.2 hnote), if_pos ⟨hlinked, hdue⟩]

theorem pick_of_meter (hrole : s.role = .stage) (hhello : s.sched.helloDue = false)
    (hlinked : s.link.state = .linked) (hreplies : s.sched.replies = [])
    (hnote : s.ring.written.toNat ≤ s.sched.noteCursor.toNat) (hstatus : s.sched.statusDue = false)
    (hcount : s.sched.meterCount < 2) : pick s = some .meter := by
  rw [pick_of_stage hrole, pickStage, if_neg (by simp [hhello]), if_neg (by simp [hreplies]),
    if_neg fun h => absurd h.2 (not_lt.2 hnote), if_neg (by simp [hstatus]), if_pos ⟨hlinked, hcount⟩]

theorem statusPayload_of_linked (hlinked : s.link.state = .linked) : statusPayload s =
    [clockCode s.clock.state, BitVec.ofInt 8 s.clock.trim, (BitVec.ofBool s.island.lastEngaged).setWidth 8,
      BitVec.ofNat 8 s.island.lastElapsed, (portCode s.portA).setWidth 8, (portCode s.portB).setWidth 8,
      (activeCode s.selector.active).setWidth 8, 2] := by
  rw [statusPayload, boolByte_eq, hlinked]
  rfl

/-- Settles O52. -/
theorem stageMessagesBegin : Obligations.StageMessagesBegin := by
  unfold Obligations.StageMessagesBegin
  intro s hrole hidle hhello
  have hreply : ∀ {r rest}, s.sched.replies = r :: rest → s.link.state = .connecting ∨ s.link.state = .linked →
      ∃ t, exec .replyBegin s = .next t ∧ Keeps [.sched] s t ∧
        t.sched = { s.sched with
          sending := messageBytes (replyMessage s r).1 (replyMessage s r).2, replies := rest } := by
    intro r rest hreplies hlink
    have hpick := pick_of_reply hrole hhello hlink (by simp [hreplies])
    refine ⟨beginReply s, congrArg Host.Outcome.next (if_pos (mayBegin_of_pick hidle hpick)), beginReply_keeps s, ?_⟩
    simp only [beginReply, hreplies]
    rfl
  refine ⟨fun rest r v hreplies hlink => hreply hreplies hlink, fun rest r live hreplies hlink hlive => ?_,
    fun hlinked hreplies => ⟨fun hbehind hring => ?_, fun hnote hdue => ?_⟩⟩
  · obtain ⟨t, hexec, hkeeps, hsched⟩ := hreply hreplies hlink
    refine ⟨t, hexec, hkeeps, hsched.trans ?_⟩
    simp only [replyMessage, liveContents, hlive]
    rfl
  · have hpick := pick_of_note hrole hhello hlinked hreplies hbehind
    have hindex : s.sched.noteCursor.toNat % 64 < s.ring.records.length := by omega
    refine ⟨beginNote s, s.ring.records[s.sched.noteCursor.toNat % 64],
      congrArg Host.Outcome.next (if_pos (mayBegin_of_pick hidle hpick)), List.getElem?_eq_getElem hindex,
      beginNote_keeps s, ?_⟩
    rw [beginNote, List.getD_eq_getElem _ _ hindex]
    rfl
  · have hpick := pick_of_status hrole hhello hlinked hreplies hnote hdue
    refine ⟨beginStatus s, congrArg Host.Outcome.next (if_pos (mayBegin_of_pick hidle hpick)), beginStatus_keeps s, ?_,
      rfl⟩
    rw [← statusPayload_of_linked hlinked]
    rfl

/-! ## A take of the Meter Collector (R77, R80) -/

/-- Channels and mixes keep all but their peaks and clip latches. -/
structure MetersOnly (s t : State) : Prop where
  channels : t.channels.length = s.channels.length
  mixes : t.mixes.length = s.mixes.length
  channel : ∀ n, channelAt t n = { channelAt s n with peak := (channelAt t n).peak, clip := (channelAt t n).clip }
  mix : ∀ (m : Nat) (x : Mix), s.mixes[m]? = some x → ∃ y, t.mixes[m]? = some y ∧ y = { x with peak := y.peak, clip := y.clip }

theorem MetersOnly.refl (s : State) : MetersOnly s s := ⟨rfl, rfl, fun _ => rfl, fun _ x hx => ⟨x, hx, rfl⟩⟩

theorem MetersOnly.trans (h : MetersOnly s t) (g : MetersOnly t u) : MetersOnly s u := by
  refine ⟨g.channels.trans h.channels, g.mixes.trans h.mixes, fun n => ?_, fun m x hx => ?_⟩
  · rw [g.channel n, h.channel n]
  · obtain ⟨y, hy, heq⟩ := h.mix m x hx
    obtain ⟨z, hz, heq'⟩ := g.mix m y hy
    refine ⟨z, hz, ?_⟩
    rw [heq', heq]

theorem clearMeter_of_channel {i : Nat} (h : i < 96) (s : State) :
    clearMeter i s = setChannel i { channelAt s i with peak := 0, clip := false } s := if_pos h

theorem clearMeter_of_mix {i : Nat} {x : Mix} (h : 96 ≤ i) (hx : s.mixes[i - 96]? = some x) :
    clearMeter i s = s.setMixes (s.mixes.set (i - 96) { x with peak := 0, clip := false }) := by
  rw [clearMeter, if_neg (not_lt.2 h), hx]

theorem meterAt_of_mix {i : Nat} (h : ¬ i < 96) (s : State) :
    meterAt s i = ((s.mixes[i - 96]?).map fun x => (x.peak, x.clip)).getD (0, false) := by
  rw [meterAt, if_neg h]
  cases s.mixes[i - 96]? <;> rfl

/-- What clearing one meter leaves of it, of the others, and of channels and mixes. -/
theorem clearMeter_spec {i : Nat} (hi : i < 112) (hchannels : s.channels.length = 96) (hmixes : s.mixes.length = 16) :
    MetersOnly s (clearMeter i s) ∧ meterAt (clearMeter i s) i = (0, false) ∧
      ∀ j, j ≠ i → meterAt (clearMeter i s) j = meterAt s j := by
  rcases lt_or_ge i 96 with hlow | hhigh
  · rw [clearMeter_of_channel hlow]
    let c : Channel := { channelAt s i with peak := 0, clip := false }
    have hself : channelAt (setChannel i c s) i = c :=
      channelAt_of_set_self (cs := s.channels) rfl (hchannels ▸ hlow)
    have hother : ∀ j, j ≠ i → channelAt (setChannel i c s) j = channelAt s j := fun j hj =>
      channelAt_of_set_other (c := c) (n := i) rfl hj
    refine ⟨⟨List.length_set, rfl, fun n => ?_, fun m x hx => ⟨x, hx, rfl⟩⟩, ?_, fun j hj => ?_⟩
    · by_cases hn : n = i
      · rw [hn, hself]
      · rw [hother n hn]
    · rw [meterAt, if_pos hlow, hself]
    · unfold meterAt
      rw [hother j hj]
      rfl
  · have hindex : i - 96 < s.mixes.length := by omega
    have hx : s.mixes[i - 96]? = some s.mixes[i - 96] := List.getElem?_eq_getElem hindex
    rw [clearMeter_of_mix hhigh hx]
    generalize s.mixes[i - 96] = x at hx
    let y : Mix := { x with peak := 0, clip := false }
    have hself : (s.mixes.set (i - 96) y)[i - 96]? = some y := List.getElem?_set_self hindex
    refine ⟨⟨rfl, List.length_set, fun _ => rfl, fun m z hz => ?_⟩, ?_, fun j hj => ?_⟩
    · by_cases hm : m = i - 96
      · subst hm
        cases hx.symm.trans hz
        exact ⟨y, hself, rfl⟩
      · exact ⟨z, (List.getElem?_set_ne (Ne.symm hm)).trans hz, rfl⟩
    · rw [meterAt_of_mix (not_lt.2 hhigh), State.setMixes_mixes, hself]
      rfl
    · by_cases hj96 : j < 96
      · rw [meterAt, meterAt, if_pos hj96, if_pos hj96]
        rfl
      · have hne : (s.mixes.set (i - 96) y)[j - 96]? = s.mixes[j - 96]? := List.getElem?_set_ne (by omega)
        rw [meterAt_of_mix hj96, meterAt_of_mix hj96, State.setMixes_mixes, hne]

/-- A group cleared, meter by meter. -/
theorem forEach_clearMeter {l : List Nat} (hl : l.Nodup) (hids : ∀ i ∈ l, i < 112) (hchannels : s.channels.length = 96)
    (hmixes : s.mixes.length = 16) : MetersOnly s (forEach clearMeter l s) ∧
      (∀ i ∈ l, meterAt (forEach clearMeter l s) i = (0, false)) ∧
      ∀ j, j ∉ l → meterAt (forEach clearMeter l s) j = meterAt s j := by
  induction l generalizing s with
  | nil => exact ⟨.refl s, fun i hi => absurd hi List.not_mem_nil, fun _ _ => rfl⟩
  | cons a l ih =>
    obtain ⟨ha, hl⟩ := List.nodup_cons.1 hl
    obtain ⟨honly, hself, hother⟩ := clearMeter_spec (hids a List.mem_cons_self) hchannels hmixes
    obtain ⟨honly', hcleared, hkept⟩ := ih hl (fun i hi => hids i (List.mem_cons_of_mem a hi))
      (honly.channels.trans hchannels) (honly.mixes.trans hmixes)
    change MetersOnly s (forEach clearMeter l (clearMeter a s)) ∧
      (∀ i ∈ a :: l, meterAt (forEach clearMeter l (clearMeter a s)) i = (0, false)) ∧
      ∀ j, j ∉ a :: l → meterAt (forEach clearMeter l (clearMeter a s)) j = meterAt s j
    refine ⟨honly.trans honly', fun i hi => ?_, fun j hj => ?_⟩
    · rcases List.mem_cons.1 hi with rfl | hi
      · exact (hkept i ha).trans hself
      · exact hcleared i hi
    · obtain ⟨hja, hjl⟩ := not_or.1 (mt List.mem_cons.2 hj)
      exact (hkept j hjl).trans (hother j hja)

/-- The collector with its mirror written and its cursor moved, before the notice. -/
def takenMeters (s : State) : State :=
  (forEach clearMeter (groupIndices s.meters.cursor) s).setMeters
    { (forEach clearMeter (groupIndices s.meters.cursor) s).meters with
      table := writeWords s.meters.table s.meters.cursor (groupWords s),
      cursor := if 112 ≤ s.meters.cursor + groupCount s.meters.cursor then 0
        else s.meters.cursor + groupCount s.meters.cursor,
      mark := if 112 ≤ s.meters.cursor + groupCount s.meters.cursor then (s.meters.mark + 1) % 128
        else s.meters.mark }

theorem takeMeters_eq (s : State) :
    takeMeters s = noticeIf (decide (112 ≤ s.meters.cursor + groupCount s.meters.cursor)) .meter (takenMeters s) := by
  unfold takeMeters takenMeters
  simp only [decide_eq_true_eq]

theorem takeMeters_meters (s : State) : (takeMeters s).meters = { s.meters with
    table := writeWords s.meters.table s.meters.cursor (groupWords s),
    cursor := if 112 ≤ s.meters.cursor + groupCount s.meters.cursor then 0
      else s.meters.cursor + groupCount s.meters.cursor,
    mark := if 112 ≤ s.meters.cursor + groupCount s.meters.cursor then (s.meters.mark + 1) % 128
      else s.meters.mark } := by
  have hclear := forEach_keeps (T := [.channels, .mixes]) clearMeter_keeps (groupIndices s.meters.cursor) s
  rw [takeMeters_eq, (noticeIf_keeps _ _ _).part .meters (by decide), takenMeters, State.setMeters_meters,
    hclear.part .meters (by decide)]

theorem takeMeters_regs (s : State) : (takeMeters s).regs =
    if 112 ≤ s.meters.cursor + groupCount s.meters.cursor then
      { s.regs with notice := s.regs.notice ||| noticeBit .meter }
    else s.regs := by
  have hclear := forEach_keeps (T := [.channels, .mixes]) clearMeter_keeps (groupIndices s.meters.cursor) s
  have htaken : (takenMeters s).regs = s.regs := hclear.part .regs (by decide)
  rw [takeMeters_eq]
  unfold noticeIf
  by_cases hwrap : 112 ≤ s.meters.cursor + groupCount s.meters.cursor
  · rw [if_pos (decide_eq_true hwrap), if_pos hwrap, ← htaken]
    rfl
  · rw [if_neg (by simpa using hwrap), if_neg hwrap, htaken]

theorem takeMeters_channels (s : State) :
    (takeMeters s).channels = (forEach clearMeter (groupIndices s.meters.cursor) s).channels := by
  rw [takeMeters_eq, (noticeIf_keeps _ _ _).part .channels (by decide)]
  rfl

theorem takeMeters_mixes (s : State) :
    (takeMeters s).mixes = (forEach clearMeter (groupIndices s.meters.cursor) s).mixes := by
  rw [takeMeters_eq, (noticeIf_keeps _ _ _).part .mixes (by decide)]
  rfl

theorem groupWords_length (s : State) : (groupWords s).length = groupCount s.meters.cursor := by
  simp [groupWords, groupIndices]

theorem groupWords_getElem? {k : Nat} (s : State) (hk : k < groupCount s.meters.cursor) : (groupWords s)[k]? =
    some (meterWord (meterAt s (s.meters.cursor + k)).1 (meterAt s (s.meters.cursor + k)).2 s.meters.mark) := by
  simp [groupWords, groupIndices, hk]

theorem meterPayload_eq (s : State) : meterPayload s =
    [BitVec.ofNat 8 s.meters.mark, BitVec.ofNat 8 s.meters.cursor, BitVec.ofNat 8 (groupCount s.meters.cursor)] ++
      ((List.range (groupCount s.meters.cursor)).map fun k => be32
        (meterWord (meterAt s (s.meters.cursor + k)).1 (meterAt s (s.meters.cursor + k)).2 s.meters.mark)).flatten := by
  rw [meterPayload, groupWords, groupIndices, List.range'_eq_map_range, List.map_map, List.flatMap_def, List.map_map]
  rfl

/-- Settles O53. -/
theorem meterTaken : Obligations.MeterTaken := by
  unfold Obligations.MeterTaken
  intro s hrole hidle hhello hlinked hreplies hnote hstatus hcount hsized hcursor first count word
  have hpick := pick_of_meter hrole hhello hlinked hreplies hnote hstatus hcount
  have hexec : exec .meterTake s = .next (beginMeter s) :=
    congrArg Host.Outcome.next (if_pos (mayBegin_of_pick hidle hpick))
  have hgroup : groupCount first = count := rfl
  have hlast : first + count ≤ 112 := by omega
  have htake := takeMeters_keeps s
  obtain ⟨honly, hcleared, hkept⟩ := forEach_clearMeter (s := s) (l := groupIndices first) List.nodup_range'
    (fun i hi => by
      have := List.mem_range'_1.1 hi
      omega) hsized.channels hsized.mixes
  have hchannels : (takeMeters s).channels = (forEach clearMeter (groupIndices first) s).channels := takeMeters_channels s
  have hmixes : (takeMeters s).mixes = (forEach clearMeter (groupIndices first) s).mixes := takeMeters_mixes s
  have hmeters : (takeMeters s).meters = { s.meters with
      table := writeWords s.meters.table first (groupWords s),
      cursor := if 112 ≤ first + count then 0 else first + count,
      mark := if 112 ≤ first + count then (s.meters.mark + 1) % 128 else s.meters.mark } := takeMeters_meters s
  have hregs : (takeMeters s).regs = if 112 ≤ first + count then
      { s.regs with notice := s.regs.notice ||| noticeBit .meter } else s.regs := takeMeters_regs s
  have hbegun : (beginMeter s).meters = (takeMeters s).meters := rfl
  have hmeterAt : ∀ i, meterAt (beginMeter s) i = meterAt (forEach clearMeter (groupIndices first) s) i := by
    intro i
    change meterAt (takeMeters s) i = _
    unfold meterAt channelAt
    rw [hchannels, hmixes]
  have hword : ∀ i, meterWord (meterAt s i).1 (meterAt s i).2 s.meters.mark = word i := fun _ => rfl
  have hchannelAt : ∀ n, channelAt (beginMeter s) n = channelAt (forEach clearMeter (groupIndices first) s) n := by
    intro n
    change channelAt (takeMeters s) n = _
    rw [channelAt, hchannels]
    rfl
  refine ⟨_, hexec, (beginMeter_keeps s).mono (by decide), ?_, fun i hlow hhigh => ⟨?_, ?_⟩, fun i hi hout => ⟨?_, ?_⟩,
    fun n => ?_, ?_, ?_, fun m x hx => ?_, ?_, ?_, fun h => ?_, fun h => ?_⟩
  · have hsched : (takeMeters s).sched = s.sched := htake.part .sched (by decide)
    have hpayload := meterPayload_eq s
    change { (takeMeters s).sched with
      sending := messageBytes .meter (meterPayload s), meterCount := (takeMeters s).sched.meterCount + 1 } = _
    rw [hsched, hpayload]
    rfl
  · change (takeMeters s).meters.table[i]? = _
    obtain ⟨k, rfl⟩ := Nat.exists_eq_add_of_le hlow
    have hk : k < groupCount s.meters.cursor := Nat.lt_of_add_lt_add_left hhigh
    rw [hmeters, getElem?_writeWords_inside _ _ _ (by rwa [groupWords_length])
      (by rw [groupWords_length, hsized.meters]; exact hlast), groupWords_getElem? s hk]
    rfl
  · rw [hmeterAt]
    exact hcleared i (List.mem_range'_1.2 ⟨hlow, hhigh⟩)
  · change (takeMeters s).meters.table[i]? = _
    rw [hmeters]
    exact getElem?_writeWords_outside _ _ _ (by rw [groupWords_length]; exact hout)
  · rw [hmeterAt]
    refine hkept i fun hmem => ?_
    have := List.mem_range'_1.1 hmem
    omega
  · rw [hchannelAt]
    exact honly.channel n
  · exact (congrArg List.length hchannels).trans honly.channels
  · exact (congrArg List.length hmixes).trans honly.mixes
  · obtain ⟨y, hy, heq⟩ := honly.mix m x hx
    exact ⟨y, (congrArg (·[m]?) hmixes).trans hy, heq⟩
  · rw [hbegun, hmeters]
  · rw [hbegun, hmeters]
  · have hmore : ¬ 112 ≤ first + count := not_le.2 h
    rw [if_neg hmore, if_neg hmore] at hmeters
    rw [if_neg hmore] at hregs
    refine ⟨?_, ?_, hregs⟩ <;> rw [hbegun, hmeters]
  · have hwrap : 112 ≤ first + count := h.ge
    rw [if_pos hwrap, if_pos hwrap] at hmeters
    rw [if_pos hwrap] at hregs
    refine ⟨?_, ?_, hregs⟩ <;> rw [hbegun, hmeters]

end Sys2Proof.Machine
end


section
/-! A change of link state as the statements show it (R122 to R128): its registers, its events, its blocks; the end of a
bridge, a HELLO, and the rejoin decision. -/

namespace Sys2Proof.Machine

variable {s t u : State}

/-! ## The change bits -/

/-- A change bit is set. -/
def changed (c : Change) (s : State) : Prop := s.regs.change &&& changeBit c = changeBit c

theorem changed_setChange (c : Change) (s : State) : changed c (setChange c s) := by
  change (s.regs.change ||| changeBit c) &&& changeBit c = changeBit c
  rw [BitVec.and_comm]
  ext i hi
  simp
  tauto

theorem changed_of_regsKept {c : Change} (h : changed c s) (hregs : RegsKept s t) : changed c t := by
  obtain ⟨-, -, hkept⟩ := hregs
  unfold changed at *
  calc t.regs.change &&& changeBit c = t.regs.change &&& (s.regs.change &&& changeBit c) := by rw [h]
    _ = s.regs.change &&& t.regs.change &&& changeBit c := by rw [← BitVec.and_assoc, BitVec.and_comm t.regs.change]
    _ = changeBit c := by rw [hkept, h]

theorem noticed_setChange (c : Change) (s : State) : noticed .link (setChange c s) := noticed_setNotice ..

/-! ## The supervisor's own part of a change of link state -/

/-- The registers of a change of link state, before its blocks act. -/
theorem linkBase_notices (new : LinkState) (s : State) : NoticesOnly (setChange .link s) (linkBase new s) := by
  have hregs : (linkBase new s).regs = (writeEvent .linkState 0 (linkDetail s.link.state new)
      (setChange .link (s.setLink { s.link with state := new }))).regs := by
    rw [linkBase, (linkSupervise_keeps _ _ _).part .regs (by decide), (linkAudio_keeps _ _).part .regs (by decide)]
  have hset : NoticesOnly (setChange .link s) (setChange .link (s.setLink { s.link with state := new })) := .of_regs rfl
  exact (hset.trans (.writeEvent ..)).trans (.of_regs hregs)

/-- The registers as `setChange` leaves them and events since. -/
theorem linkBase_regsKept (new : LinkState) (s : State) : RegsKept (setChange .link s) (linkBase new s) := by
  have hset : RegsKept (setChange .link s) (setChange .link (s.setLink { s.link with state := new })) := .of_regs rfl
  have hevent := (Beside.writeEvent .linkState 0 (linkDetail s.link.state new)
    (setChange .link (s.setLink { s.link with state := new }))).regs
  refine (hset.trans hevent).trans (.of_regs ?_)
  rw [linkBase, (linkSupervise_keeps _ _ _).part .regs (by decide), (linkAudio_keeps _ _).part .regs (by decide)]

theorem changeLink_regsKept_base (new : LinkState) (s : State) : RegsKept (linkBase new s) (changeLink new s) := by
  cases hrole : s.role
  · rw [changeLink_of_desk hrole]
    exact (Beside.linkDesk _ _ _).regs
  · rw [changeLink_of_stage hrole]
    exact (Beside.linkStage _ _ _).regs

theorem changeLink_told (new : LinkState) (s : State) :
    noticed .link (changeLink new s) ∧ changed .link (changeLink new s) := by
  have hregs := (linkBase_regsKept new s).trans (changeLink_regsKept_base new s)
  exact ⟨noticed_of_regsKept (noticed_setChange ..) hregs, changed_of_regsKept (changed_setChange ..) hregs⟩

theorem linkBase_output (new : LinkState) (s : State) : (linkBase new s).output =
    if isSilent new then { s.output with slots := silenceOutput s.role s.output.slots } else s.output := by
  have htold := (writeEvent_keeps .linkState 0 (linkDetail s.link.state new)
    (setChange .link (s.setLink { s.link with state := new })))
  have hrole := htold.part .role (by decide)
  have houtput := htold.part .output (by decide)
  rw [linkBase, (linkSupervise_keeps _ _ _).part .output (by decide), linkAudio]
  split
  · rw [State.setOutput_output, hrole, houtput]
    rfl
  · exact houtput

/-- Outside DOWN and LOST no audio is touched. -/
theorem linkBase_keeps_of_audible {new : LinkState} (h : isSilent new = false) (s : State) :
    Keeps [.link, .sched, .ring, .regs] s (linkBase new s) := by
  have haudio : ∀ t, linkAudio new t = t := fun t => if_neg (by simp [h])
  rw [linkBase, haudio]
  exact ((((setLink_keeps s _).mono (by decide)).next (setChange_keeps _ _) (by decide)).next
    (writeEvent_keeps _ _ _ _) (by decide)).next (linkSupervise_keeps _ _ _) (by decide)

theorem linkBase_helloDue (s : State) : (linkBase .connecting s).sched.helloDue = true := rfl

/-! ## The desk's blocks (R73, R145, R146) -/

theorem linkDesk_back (t : State) : linkDesk .linked .connecting t = returnInFlight (dropStageTalk t) := by
  simp [linkDesk]

theorem linkDesk_lost {old : LinkState} (h : old ≠ .linked) (t : State) : linkDesk old .lost t = returnInFlight t := by
  simp [linkDesk, h]

theorem linkDesk_rejoin (t : State) : linkDesk .connecting .linked t = rejoin t := by simp [linkDesk]

theorem linkDesk_bridge (t : State) :
    linkDesk .connecting .bridging t = t ∧ linkDesk .linked .bridging t = dropStageTalk t := by
  simp [linkDesk]

theorem returnInFlight_keeps_desk (s : State) : Keeps [.desk] s (returnInFlight s) := setDesk_keeps s _

theorem linkDesk_ring {old new : LinkState} (h : ¬ (old = .connecting ∧ new = .linked)) (t : State) :
    (linkDesk old new t).ring = t.ring := by
  unfold linkDesk
  dsimp only
  rw [if_neg h]
  split_ifs
  · exact ((returnInFlight_keeps_desk _).part .ring (by decide)).trans ((dropStageTalk_keeps _).part .ring (by decide))
  · exact (returnInFlight_keeps_desk _).part .ring (by decide)
  · exact (dropStageTalk_keeps _).part .ring (by decide)
  · rfl

theorem changeLink_ring_desk {new : LinkState} (hrole : s.role = .desk)
    (h : ¬ (s.link.state = .connecting ∧ new = .linked)) :
    (changeLink new s).ring = ringWith .linkState 0 (linkDetail s.link.state new) s := by
  rw [changeLink_of_desk hrole, linkDesk_ring h, linkBase_ring]

theorem dropStageTalk_talkSeen (s : State) : (dropStageTalk s).talkSeen = false := by
  unfold dropStageTalk
  split
  next => rfl
  next h => exact Bool.eq_false_iff.2 h

/-! ## The stage's blocks (R50, R52, R68, R106, R129) -/

theorem endTrimPeriod_of_open (h : s.clock.measFrames < 4096) : endTrimPeriod s = s :=
  if_neg fun hended => absurd hended.2 (not_le.2 h)

theorem enterHoldover_ring (h : s.clock.measFrames < 4096) : (enterHoldover s).ring = s.ring := by
  rw [enterHoldover, endTrimPeriod_of_open h]
  rfl

/-- The clock unit writes an event only where it leaves LOCKED with a full trim period. -/
theorem clockOnLink_ring {old new : LinkState} (h : (old ≠ .connecting ∧ old ≠ .linked) ∨
    new = .connecting ∨ new = .linked ∨ s.clock.measFrames < 4096) : (clockOnLink old new s).ring = s.ring := by
  have hlocked : (enterLocked s).ring = s.ring := by
    unfold enterLocked
    split <;> rfl
  have hleft : new ≠ .connecting → new ≠ .linked →
      (if old = .connecting ∨ old = .linked then enterHoldover s else s).ring = s.ring := fun hconnecting hlinked => by
    split
    next hold =>
      refine enterHoldover_ring ?_
      rcases h with ⟨h1, h2⟩ | h | h | h
      · exact absurd hold (not_or.2 ⟨h1, h2⟩)
      · exact absurd h hconnecting
      · exact absurd h hlinked
      · exact h
    next => rfl
  cases new with
  | connecting => exact hlocked
  | linked => exact hlocked
  | bridging => exact hleft (by decide) (by decide)
  | lost => exact hleft (by decide) (by decide)
  | down => rfl

/-- The state on which the stage's clock unit acts at a change of link state. -/
def stageBase (old new : LinkState) (s : State) : State :=
  let s := s.setDeliverer { s.deliverer with maskInUse := 0 }
  let s := if old = .lost then leaveIsland s else s
  let s := if new = .lost then s.setIsland { s.island with count := 0 } else s
  if old = .linked then s.setSched { s.sched with statusDue := false } else s

theorem linkStage_eq (old new : LinkState) (s : State) : linkStage old new s = clockOnLink old new (stageBase old new s) :=
  rfl

theorem stageBase_keeps (old new : LinkState) (s : State) :
    Keeps [.deliverer, .island, .sched] s (stageBase old new s) := by
  have hif : ∀ (p : Prop) [Decidable p] (t u : State), Keeps [.deliverer, .island, .sched] t u →
      Keeps [.deliverer, .island, .sched] t (if p then u else t) := by
    intro p _ t u h
    split
    · exact h
    · exact Keeps.refl _ t
  exact (((setDeliverer_keeps s _).mono (by decide)).next
    (hif _ _ _ ((setIsland_keeps _ _).mono (by decide))) (fun _ => id)).next
      (hif _ _ _ ((setIsland_keeps _ _).mono (by decide))) (fun _ => id) |>.next
        (hif _ _ _ ((setSched_keeps _ _).mono (by decide))) (fun _ => id)

theorem changeLink_ring_stage {new : LinkState} (hrole : s.role = .stage)
    (h : (s.link.state ≠ .connecting ∧ s.link.state ≠ .linked) ∨ new = .connecting ∨ new = .linked ∨
      s.clock.measFrames < 4096) :
    (changeLink new s).ring = ringWith .linkState 0 (linkDetail s.link.state new) s := by
  have hbase := stageBase_keeps s.link.state new (linkBase new s)
  have hclock : (stageBase s.link.state new (linkBase new s)).clock = s.clock :=
    (hbase.part .clock (by decide)).trans ((linkBase_keeps new s).part .clock (by decide))
  rw [changeLink_of_stage hrole, linkStage_eq, clockOnLink_ring (by rwa [hclock]), hbase.part .ring (by decide),
    linkBase_ring]

theorem enterLocked_clock (s : State) : (enterLocked s).clock =
    if s.clock.state = .locked then s.clock else { s.clock with state := .locked, realignPending := true } := by
  unfold enterLocked
  split <;> rfl

theorem enterLocked_keeps_clock (s : State) : Keeps [.clock] s (enterLocked s) := by
  unfold enterLocked
  split
  · exact Keeps.refl _ s
  · exact setClock_keeps s _

/-- The clock at the stage on the way to CONNECTING or LINKED. -/
theorem changeLink_clock_up {new : LinkState} (hrole : s.role = .stage) (hnew : new = .connecting ∨ new = .linked) :
    (changeLink new s).clock =
      if s.clock.state = .locked then s.clock else { s.clock with state := .locked, realignPending := true } := by
  have hclock : (stageBase s.link.state new (linkBase new s)).clock = s.clock :=
    ((stageBase_keeps _ _ _).part .clock (by decide)).trans ((linkBase_keeps new s).part .clock (by decide))
  have hup : clockOnLink s.link.state new (stageBase s.link.state new (linkBase new s)) =
      enterLocked (stageBase s.link.state new (linkBase new s)) := by
    rcases hnew with rfl | rfl <;> rfl
  rw [changeLink_of_stage hrole, linkStage_eq, hup, enterLocked_clock, hclock]

/-! ## A bridge of 48 frames (R127) -/

theorem silenced_lost (d : Deliverer) : silenced .lost d =
    { d with lastOut := List.replicate d.lastOut.length 0, run := 0, rejoinPending := true } := by
  simp [silenced, isSilent]

theorem appendAllDirty_inFlight (h : ListsOk s) : appendAllDirty s.desk.dirty (s.desk.inFlight.map InFlight.record) =
    s.desk.dirty ++ (s.desk.inFlight.map InFlight.record).filter fun r => !s.desk.dirty.contains r :=
  appendAllDirty_eq h.flightOnce _

theorem changeLink_lost_desk (hrole : s.role = .desk) (hbridging : s.link.state = .bridging) :
    changeLink .lost s = returnInFlight (linkBase .lost s) := by
  rw [changeLink_of_desk hrole, hbridging, linkDesk_lost (by decide)]

theorem changeLink_lost_stage (hrole : s.role = .stage) (hbridging : s.link.state = .bridging) :
    changeLink .lost s = stageBase .bridging .lost (linkBase .lost s) := by
  rw [changeLink_of_stage hrole, hbridging, linkStage_eq]
  rfl

/-- Settles O47. -/
theorem bridgeLost : Obligations.BridgeLost := by
  unfold Obligations.BridgeLost
  refine fun s => ⟨fun h => congrArg Host.Outcome.next (if_neg h), fun hbridging hframes hlists => ?_⟩
  have hexec : exec .bridgingExpiry s = .next (changeLink .lost s) :=
    congrArg Host.Outcome.next (if_pos ⟨hbridging, hframes⟩)
  have hbase := linkBase_keeps .lost s
  have hregs : NoticesOnly (setChange .link s) (changeLink .lost s) := by
    refine (linkBase_notices .lost s).trans (.of_regs ?_)
    cases hrole : s.role
    · rw [changeLink_lost_desk hrole hbridging, (returnInFlight_keeps_desk _).part .regs (by decide)]
    · rw [changeLink_lost_stage hrole hbridging, (stageBase_keeps _ _ _).part .regs (by decide)]
  refine ⟨_, hexec, changeLink_link .lost s, ?_, (changeLink_told .lost s).1, congrArg Regs.change hregs,
    (Beside.changeLink .lost s).regs, ?_, fun hrole => ⟨?_, ?_, ?_⟩, fun hrole => ⟨?_, ?_, ?_⟩⟩
  · have hdetail : linkDetail s.link.state .lost = 0x00000403#32 := by rw [hbridging]; rfl
    rw [← hdetail]
    cases hrole : s.role
    · exact changeLink_ring_desk hrole (by simp)
    · exact changeLink_ring_stage hrole (.inl (by simp [hbridging]))
  · cases hrole : s.role
    · rw [changeLink_deliverer_desk hrole, silenced_lost]
      rfl
    · rw [changeLink_deliverer_stage hrole, silenced_lost]
      rfl
  · rw [changeLink_lost_desk hrole hbridging]
    exact (hbase.mono (by decide)).next (returnInFlight_keeps_desk _) (by decide)
  · rw [changeLink_lost_desk hrole hbridging, (returnInFlight_keeps_desk _).part .output (by decide), linkBase_output,
      hrole]
    rfl
  · rw [changeLink_lost_desk hrole hbridging, returnInFlight, State.setDesk_desk, hbase.part .desk (by decide),
      appendAllDirty_inFlight hlists]
  · rw [changeLink_lost_stage hrole hbridging]
    exact (hbase.mono (by decide)).next (stageBase_keeps _ _ _) (by decide)
  · rw [changeLink_lost_stage hrole hbridging, (stageBase_keeps _ _ _).part .output (by decide), linkBase_output, hrole]
    rfl
  · rw [changeLink_island_stage hrole, hbridging]
    rfl

end Sys2Proof.Machine
end


section
/-! A HELLO at the supervisor (R123 to R126) and the rejoin decision it brings (R146, R147). -/

namespace Sys2Proof.Machine

variable {s t u : State}

/-! ## Which end a HELLO names (R123) -/

theorem helloRole_own (r : Role) : helloRole ((roleCode r).setWidth 8) = some r := by cases r <;> rfl

theorem helloRole_opposite (r : Role) : ∃ q, helloRole (1 - (roleCode r).setWidth 8) = some q ∧ q ≠ r := by
  cases r
  · exact ⟨.stage, rfl, by decide⟩
  · exact ⟨.desk, rfl, by decide⟩

theorem helloRole_none {b : Byte} {r : Role} (hown : b ≠ (roleCode r).setWidth 8)
    (hopposite : b ≠ 1 - (roleCode r).setWidth 8) : helloRole b = none := by
  have hzero : b ≠ 0 := by cases r <;> [exact hown; exact hopposite]
  have hone : b ≠ 1 := by cases r <;> [exact hopposite; exact hown]
  rw [helloRole, if_neg hzero, if_neg hone]

theorem receiveHello_of_idle (p : List Byte) (h : s.link.state ≠ .connecting ∧ s.link.state ≠ .linked) :
    receiveHello p s = s := by
  obtain ⟨hconnecting, hlinked⟩ := h
  unfold receiveHello
  split
  next hstate => exact absurd hstate hconnecting
  next hstate => exact absurd hstate hlinked
  next => rfl

theorem receiveHello_of_none {p : List Byte} (h : helloRole (byteAt p 0) = none) : receiveHello p s = s := by
  simp only [receiveHello, h]

theorem receiveHello_of_own {p : List Byte} (h : byteAt p 0 = (roleCode s.role).setWidth 8)
    (hlink : s.link.state = .connecting ∨ s.link.state = .linked) : receiveHello p s = sameRole s := by
  rcases hlink with hlink | hlink <;> simp only [receiveHello, h, helloRole_own, hlink, if_true]

theorem receiveHello_connecting {p : List Byte} (h : byteAt p 0 = 1 - (roleCode s.role).setWidth 8)
    (hlink : s.link.state = .connecting) :
    receiveHello p s = helloConnecting (byteAt p 1 != 0) (byteAt p 2 != 0) s := by
  obtain ⟨q, hq, hne⟩ := helloRole_opposite s.role
  simp only [receiveHello, h, hq, hlink, hne, if_false]

theorem receiveHello_linked {p : List Byte} (h : byteAt p 0 = 1 - (roleCode s.role).setWidth 8)
    (hlink : s.link.state = .linked) :
    receiveHello p s = helloLinked (byteAt p 1 != 0) (byteAt p 2 != 0) s := by
  obtain ⟨q, hq, hne⟩ := helloRole_opposite s.role
  simp only [receiveHello, h, hq, hlink, hne, if_false]

/-! ## The far end's fresh field (R122) -/

theorem setFarFresh_link (fresh : Bool) (s : State) : (setFarFresh fresh s).link =
    { s.link with farFresh := if s.role = .desk then fresh else s.link.farFresh } := by
  unfold setFarFresh
  cases hrole : s.role <;> rfl

theorem setFarFresh_keeps_link (fresh : Bool) (s : State) : Keeps [.link] s (setFarFresh fresh s) := by
  unfold setFarFresh
  cases s.role
  · exact setLink_keeps s _
  · exact Keeps.refl _ s

/-! ## The rejoin decision (R146, R147) -/

/-- The desk as it decides. -/
def decidedDesk (s : State) : State :=
  s.setDesk { s.desk with
    binding := .bound, decision := rejoinChoice s.link.farFresh s.desk.binding s.regs.ctrl.policy }

theorem rejoin_of_replay (h : rejoinChoice s.link.farFresh s.desk.binding s.regs.ctrl.policy = .fullReplay) :
    rejoin s = markReplay (decidedDesk s) := by
  simp only [rejoin, h, decidedDesk]

theorem rejoin_of_adoption (h : rejoinChoice s.link.farFresh s.desk.binding s.regs.ctrl.policy = .adoption) :
    rejoin s = beginAdoption (decidedDesk s) := by
  simp only [rejoin, h, decidedDesk]

theorem rejoin_of_resume (h : rejoinChoice s.link.farFresh s.desk.binding s.regs.ctrl.policy = .resume) :
    rejoin s = decidedDesk s := by
  simp only [rejoin, h, decidedDesk]

theorem rejoinChoice_cases (fresh : Bool) (b : Binding) (p : Policy) :
    (rejoinChoice fresh b p = .fullReplay ↔ fresh = true ∨ (b = .unbound ∧ p = .impose)) ∧
      (rejoinChoice fresh b p = .adoption ↔ fresh = false ∧ b = .unbound ∧ p = .adopt) ∧
      (rejoinChoice fresh b p = .resume ↔ fresh = false ∧ b = .bound) := by
  cases fresh <;> cases b <;> cases p <;> simp [rejoinChoice]

/-- The members of an adoption that begins (R147). -/
def adoptionMembers (d : DeskRepl) : List Adoptee :=
  (adoptionRecords d).map fun r => { record := r, pulled := none }

theorem beginAdoption_of_members (h : adoptionMembers s.desk ≠ []) : beginAdoption s =
    s.setDesk { s.desk with adoption := adoptionMembers s.desk, adopted := 0 } := by
  refine if_neg ?_
  simpa [adoptionMembers] using h

theorem beginAdoption_of_none (h : adoptionMembers s.desk = []) : beginAdoption s =
    adoptDone (s.setDesk { s.desk with adoption := [], adopted := 0 }) := by
  unfold beginAdoption
  change (if (adoptionMembers s.desk).isEmpty then adoptDone (s.setDesk
    { s.desk with adoption := adoptionMembers s.desk, adopted := 0 }) else _) = _
  rw [h]
  rfl

/-- A decision writes an event only for an adoption that is empty at once. -/
theorem rejoin_keeps_desk (h : rejoinChoice s.link.farFresh s.desk.binding s.regs.ctrl.policy ≠ .adoption ∨
    adoptionMembers s.desk ≠ []) : Keeps [.desk] s (rejoin s) := by
  have hdecided : Keeps [.desk] s (decidedDesk s) := setDesk_keeps s _
  cases hchoice : rejoinChoice s.link.farFresh s.desk.binding s.regs.ctrl.policy with
  | fullReplay =>
    rw [rejoin_of_replay hchoice]
    exact hdecided.next (setDesk_keeps _ _) (by decide)
  | adoption =>
    rw [rejoin_of_adoption hchoice, beginAdoption_of_members (s := decidedDesk s) (h.resolve_left (not_not.2 hchoice))]
    exact hdecided.next (setDesk_keeps _ _) (by decide)
  | resume =>
    rw [rejoin_of_resume hchoice]
    exact hdecided
  | none => cases hfresh : s.link.farFresh <;> cases hb : s.desk.binding <;> cases hp : s.regs.ctrl.policy <;>
      simp [rejoinChoice, hfresh, hb, hp] at hchoice

/-! ## The stage on the way to CONNECTING or LINKED -/

theorem stageBase_keeps_of_up {old new : LinkState} (hold : old ≠ .lost) (hnew : new ≠ .lost) (s : State) :
    Keeps [.deliverer, .sched] s (stageBase old new s) := by
  unfold stageBase
  dsimp only
  rw [if_neg hold, if_neg hnew]
  split
  · exact ((setDeliverer_keeps s _).mono (by decide)).next (setSched_keeps _ _) (by decide)
  · exact (setDeliverer_keeps s _).mono (by decide)

theorem changeLink_up_stage {new : LinkState} (hrole : s.role = .stage) (hnew : new = .connecting ∨ new = .linked) :
    changeLink new s = enterLocked (stageBase s.link.state new (linkBase new s)) := by
  rw [changeLink_of_stage hrole, linkStage_eq]
  rcases hnew with rfl | rfl <;> rfl

theorem isSilent_up {new : LinkState} (hnew : new = .connecting ∨ new = .linked) : isSilent new = false := by
  rcases hnew with rfl | rfl <;> rfl

/-- What a handshake's transition touches at the stage. -/
theorem changeLink_keeps_up_stage {new : LinkState} (hrole : s.role = .stage) (hold : s.link.state ≠ .lost)
    (hnew : new = .connecting ∨ new = .linked) :
    Keeps [.link, .ring, .sched, .regs, .deliverer, .clock] s (changeLink new s) := by
  have hlost : new ≠ .lost := by rcases hnew with rfl | rfl <;> decide
  rw [changeLink_up_stage hrole hnew]
  exact (((linkBase_keeps_of_audible (isSilent_up hnew) s).mono (by decide)).next
    (stageBase_keeps_of_up hold hlost _) (by decide)).next (enterLocked_keeps_clock _) (by decide)

theorem changeLink_deliverer_up_stage {new : LinkState} (hrole : s.role = .stage)
    (hnew : new = .connecting ∨ new = .linked) :
    (changeLink new s).deliverer = { s.deliverer with maskInUse := 0 } := by
  have hsame : silenced new s.deliverer = s.deliverer := if_neg (by simp [isSilent_up hnew])
  rw [changeLink_deliverer_stage hrole, hsame]

/-! ## A HELLO in CONNECTING (R124) -/

/-- The state that has heard the far end. -/
def heardState (fresh : Bool) (s : State) : State := setFarFresh fresh (s.setLink { s.link with heard := true })

theorem heardState_keeps (fresh : Bool) (s : State) : Keeps [.link] s (heardState fresh s) :=
  (setLink_keeps s _).next (setFarFresh_keeps_link _ _) (by decide)

theorem heardState_link (fresh : Bool) (s : State) : (heardState fresh s).link =
    { s.link with heard := true, farFresh := if s.role = .desk then fresh else s.link.farFresh } := by
  rw [heardState, setFarFresh_link]
  rfl

theorem helloConnecting_of_incomplete {heard fresh : Bool}
    (h : ¬ (heard = true ∧ (s.role = .desk ∨ s.link.heard = true))) :
    helloConnecting heard fresh s = heardState fresh s := by
  refine if_neg fun hcomplete => h ?_
  simpa using hcomplete

theorem helloConnecting_of_complete {heard fresh : Bool} (hheard : heard = true)
    (h : s.role = .desk ∨ s.link.heard = true) : helloConnecting heard fresh s =
      (changeLink .linked (heardState fresh s)).setSched
        { (changeLink .linked (heardState fresh s)).sched with helloDue := true } := by
  refine if_pos ?_
  simpa [hheard] using h

/-- The desk enters LINKED: its own part, then the decision. -/
theorem changeLink_linked_desk (hrole : s.role = .desk) (hconnecting : s.link.state = .connecting) :
    changeLink .linked s = rejoin (linkBase .linked s) := by
  rw [changeLink_of_desk hrole, hconnecting, linkDesk_rejoin]

/-- What the decision reads. -/
theorem linkBase_choice (s : State) :
    (linkBase .linked s).desk = s.desk ∧ (linkBase .linked s).link.farFresh = s.link.farFresh ∧
      (linkBase .linked s).regs.ctrl = s.regs.ctrl := by
  refine ⟨(linkBase_keeps _ s).part .desk (by decide), ?_, ?_⟩
  · rw [linkBase_link]
    rfl
  · rw [linkBase_notices .linked s]
    rfl

theorem rejoinChoice_linkBase (s : State) : rejoinChoice (linkBase .linked s).link.farFresh
    (linkBase .linked s).desk.binding (linkBase .linked s).regs.ctrl.policy =
      rejoinChoice s.link.farFresh s.desk.binding s.regs.ctrl.policy := by
  obtain ⟨hdesk, hfresh, hctrl⟩ := linkBase_choice s
  rw [hdesk, hfresh, hctrl]

theorem changeLink_linked_ring_desk (hrole : s.role = .desk) (hconnecting : s.link.state = .connecting)
    (h : rejoinChoice s.link.farFresh s.desk.binding s.regs.ctrl.policy ≠ .adoption ∨ adoptionMembers s.desk ≠ []) :
    (changeLink .linked s).ring = ringWith .linkState 0 0x00000201#32 s := by
  have hkeeps : Keeps [.desk] (linkBase .linked s) (rejoin (linkBase .linked s)) :=
    rejoin_keeps_desk (by rwa [rejoinChoice_linkBase, (linkBase_choice s).1])
  rw [changeLink_linked_desk hrole hconnecting, hkeeps.part .ring (by decide), linkBase_ring, hconnecting]
  rfl

/-- What the desk's entry into LINKED touches. -/
theorem changeLink_linked_keeps_desk (hrole : s.role = .desk) (hconnecting : s.link.state = .connecting) :
    Keeps [.link, .ring, .sched, .regs, .desk] s (changeLink .linked s) := by
  rw [changeLink_linked_desk hrole hconnecting]
  exact ((linkBase_keeps_of_audible rfl s).mono (by decide)).next (rejoin_keeps _) (by decide)

/-! ## A HELLO in LINKED (R125) -/

theorem helloLinked_of_answer (fresh : Bool) (h : s.link.helloAge ≤ 2) : helloLinked true fresh s = s := by
  simp only [helloLinked, h, if_true]

/-- The link back in CONNECTING, with the far end's fresh field. -/
def relinked (fresh : Bool) (s : State) : State := setFarFresh fresh (changeLink .connecting s)

theorem helloLinked_of_restart_desk (fresh : Bool) (hrole : s.role = .desk) : helloLinked false fresh s =
    writeEvent .farRestart 0 (if fresh then 1 else 0) (relinked fresh s) := by
  have hrole' : (relinked fresh s).role = .desk :=
    ((setFarFresh_keeps_link _ _).part .role (by decide)).trans
      (((changeLink_keeps _ s).part .role (by decide)).trans hrole)
  unfold relinked at *
  simp only [helloLinked, Bool.false_eq_true, if_false, hrole']

theorem helloLinked_of_restart_stage (fresh : Bool) (hrole : s.role = .stage) :
    helloLinked false fresh s = relinked fresh s := by
  have hrole' : (relinked fresh s).role = .stage :=
    ((setFarFresh_keeps_link _ _).part .role (by decide)).trans
      (((changeLink_keeps _ s).part .role (by decide)).trans hrole)
  unfold relinked at *
  simp only [helloLinked, Bool.false_eq_true, if_false, hrole']

theorem helloLinked_of_late (fresh : Bool) (h : 2 < s.link.helloAge) :
    helloLinked true fresh s = relinked fresh s := by
  simp only [helloLinked, if_true, not_le.2 h, if_false]
  rfl

theorem relinked_link (fresh : Bool) (hlinked : s.link.state = .linked) : (relinked fresh s).link =
    { s.link with
      state := .connecting, bridging := 0, returnTo := none,
      farFresh := if s.role = .desk then fresh else s.link.farFresh } := by
  have hrole : (changeLink .connecting s).role = s.role := (changeLink_keeps _ s).part .role (by decide)
  rw [relinked, setFarFresh_link, changeLink_link, hrole]
  simp [linkAfter, isSilent, hlinked]

theorem relinked_keeps_change (fresh : Bool) (s : State) :
    Keeps [.link] (changeLink .connecting s) (relinked fresh s) := setFarFresh_keeps_link _ _

theorem relinked_ring (fresh : Bool) (hlinked : s.link.state = .linked) :
    (relinked fresh s).ring = ringWith .linkState 0 0x00000102#32 s := by
  have hring : (changeLink .connecting s).ring = ringWith .linkState 0 (linkDetail s.link.state .connecting) s := by
    cases hrole : s.role
    · exact changeLink_ring_desk hrole (by simp)
    · exact changeLink_ring_stage hrole (.inr (.inl rfl))
  rw [(relinked_keeps_change fresh s).part .ring (by decide), hring, hlinked]
  rfl

theorem relinked_told (fresh : Bool) (s : State) :
    noticed .link (relinked fresh s) ∧ changed .link (relinked fresh s) := by
  have hregs : RegsKept (changeLink .connecting s) (relinked fresh s) :=
    .of_regs ((relinked_keeps_change fresh s).part .regs (by decide))
  obtain ⟨hnoticed, hchanged⟩ := changeLink_told .connecting s
  exact ⟨noticed_of_regsKept hnoticed hregs, changed_of_regsKept hchanged hregs⟩

theorem changeLink_back_desk (hrole : s.role = .desk) (hlinked : s.link.state = .linked) :
    changeLink .connecting s = returnInFlight (dropStageTalk (linkBase .connecting s)) := by
  rw [changeLink_of_desk hrole, hlinked, linkDesk_back]

/-- What the way back to CONNECTING leaves at the desk. -/
theorem relinked_desk (fresh : Bool) (hrole : s.role = .desk) (hlinked : s.link.state = .linked) :
    Keeps [.link, .ring, .sched, .regs, .desk, .talkSeen] s (relinked fresh s) ∧
      (relinked fresh s).talkSeen = false ∧ (relinked fresh s).sched.helloDue = true ∧
      (relinked fresh s).desk = (returnInFlight s).desk := by
  have hback := changeLink_back_desk hrole hlinked
  have hlink := relinked_keeps_change fresh s
  have hdrop := dropStageTalk_keeps (linkBase .connecting s)
  have hreturn := returnInFlight_keeps_desk (dropStageTalk (linkBase .connecting s))
  refine ⟨?_, ?_, ?_, ?_⟩
  · refine Keeps.next ?_ hlink (by decide)
    rw [hback]
    exact (((linkBase_keeps_of_audible rfl s).mono (by decide)).next hdrop (by decide)).next hreturn (by decide)
  · rw [hlink.part .talkSeen (by decide), hback, hreturn.part .talkSeen (by decide), dropStageTalk_talkSeen]
  · rw [hlink.part .sched (by decide), hback, hreturn.part .sched (by decide), hdrop.part .sched (by decide),
      linkBase_helloDue]
  · rw [hlink.part .desk (by decide), hback, returnInFlight, State.setDesk_desk, hdrop.part .desk (by decide),
      (linkBase_keeps _ s).part .desk (by decide)]
    rfl

/-- What it leaves at the stage. -/
theorem relinked_stage (fresh : Bool) (hrole : s.role = .stage) (hlinked : s.link.state = .linked) :
    Keeps [.link, .ring, .sched, .regs, .deliverer, .clock] s (relinked fresh s) ∧
      (relinked fresh s).deliverer = { s.deliverer with maskInUse := 0 } ∧
      (s.clock.state = .locked → (relinked fresh s).clock = s.clock) ∧
      (relinked fresh s).sched.helloDue = true ∧ (relinked fresh s).sched.statusDue = false := by
  have hlink := relinked_keeps_change fresh s
  have hsched : (relinked fresh s).sched = { (linkBase .connecting s).sched with statusDue := false } := by
    rw [hlink.part .sched (by decide), changeLink_up_stage hrole (.inl rfl),
      (enterLocked_keeps_clock _).part .sched (by decide), hlinked]
    rfl
  refine ⟨(changeLink_keeps_up_stage hrole (by simp [hlinked]) (.inl rfl)).next hlink (by decide), ?_, fun hlocked => ?_,
    ?_, ?_⟩
  · rw [hlink.part .deliverer (by decide), changeLink_deliverer_up_stage hrole (.inl rfl)]
  · rw [hlink.part .clock (by decide), changeLink_clock_up hrole (.inl rfl), if_pos hlocked]
  · rw [hsched]
    rfl
  · rw [hsched]

/-! ## What a HELLO does, case by case (O48) -/

/-- The link in LINKED, with its own HELLO due. -/
def linkedState (fresh : Bool) (s : State) : State :=
  (changeLink .linked (heardState fresh s)).setSched
    { (changeLink .linked (heardState fresh s)).sched with helloDue := true }

theorem linkedState_keeps_change (fresh : Bool) (s : State) :
    Keeps [.sched] (changeLink .linked (heardState fresh s)) (linkedState fresh s) := setSched_keeps _ _

theorem heardState_link_state (fresh : Bool) (s : State) : (heardState fresh s).link.state = s.link.state := by
  rw [heardState_link]

theorem linkedState_link (fresh : Bool) (s : State) : (linkedState fresh s).link =
    { s.link with
      state := .linked, heard := true, farFresh := if s.role = .desk then fresh else s.link.farFresh,
      bridging := 0, returnTo := none } := by
  rw [(linkedState_keeps_change fresh s).part .link (by decide), changeLink_link, heardState_link]
  rfl

theorem linkedState_told (fresh : Bool) (s : State) :
    noticed .link (linkedState fresh s) ∧ changed .link (linkedState fresh s) :=
  changeLink_told .linked (heardState fresh s)

theorem linkedState_regsKept (fresh : Bool) (s : State) : RegsKept s (linkedState fresh s) :=
  ((RegsKept.of_regs ((heardState_keeps fresh s).part .regs (by decide))).trans
    (Beside.changeLink .linked (heardState fresh s)).regs).trans
    (.of_regs ((linkedState_keeps_change fresh s).part .regs (by decide)))

/-- What the entry into LINKED leaves at the stage. -/
theorem linkedState_stage (fresh : Bool) (hrole : s.role = .stage) (hconnecting : s.link.state = .connecting) :
    Keeps [.link, .ring, .sched, .regs, .deliverer, .clock] s (linkedState fresh s) ∧
      (linkedState fresh s).deliverer = { s.deliverer with maskInUse := 0 } ∧
      (s.clock.state = .locked → (linkedState fresh s).clock = s.clock) ∧
      (linkedState fresh s).ring = ringWith .linkState 0 0x00000201#32 s := by
  have hheard := heardState_keeps fresh s
  have hsched := linkedState_keeps_change fresh s
  have hrole' : (heardState fresh s).role = .stage := (hheard.part .role (by decide)).trans hrole
  have hstate : (heardState fresh s).link.state = .connecting := (heardState_link_state fresh s).trans hconnecting
  refine ⟨?_, ?_, fun hlocked => ?_, ?_⟩
  · refine ((hheard.mono (by decide)).next (changeLink_keeps_up_stage hrole' ?_ (.inr rfl)) (by decide)).next hsched
      (by decide)
    simp [hstate]
  · rw [hsched.part .deliverer (by decide), changeLink_deliverer_up_stage hrole' (.inr rfl),
      hheard.part .deliverer (by decide)]
  · have hclock : (heardState fresh s).clock = s.clock := hheard.part .clock (by decide)
    rw [hsched.part .clock (by decide), changeLink_clock_up hrole' (.inr rfl), hclock, if_pos hlocked]
  · rw [hsched.part .ring (by decide), changeLink_ring_stage hrole' (.inr (.inr (.inl rfl))), hstate]
    exact ringWith_congr (hheard.part .ring (by decide)) (hheard.part .role (by decide))
      (hheard.part .superframe (by decide))

/-- What it leaves at the desk, and its event where the decision writes none of its own. -/
theorem linkedState_desk (fresh : Bool) (hrole : s.role = .desk) (hconnecting : s.link.state = .connecting) :
    Keeps [.link, .ring, .sched, .regs, .desk] s (linkedState fresh s) ∧
      (rejoinChoice fresh s.desk.binding s.regs.ctrl.policy ≠ .adoption ∨ adoptionMembers s.desk ≠ [] →
        (linkedState fresh s).ring = ringWith .linkState 0 0x00000201#32 s) := by
  have hheard := heardState_keeps fresh s
  have hsched := linkedState_keeps_change fresh s
  have hrole' : (heardState fresh s).role = .desk := (hheard.part .role (by decide)).trans hrole
  have hstate : (heardState fresh s).link.state = .connecting := (heardState_link_state fresh s).trans hconnecting
  refine ⟨?_, fun h => ?_⟩
  · exact ((hheard.mono (by decide)).next (changeLink_linked_keeps_desk hrole' hstate) (by decide)).next hsched
      (by decide)
  · have hfresh : (heardState fresh s).link.farFresh = fresh := by rw [heardState_link, if_pos hrole]
    rw [hsched.part .ring (by decide), changeLink_linked_ring_desk hrole' hstate]
    · exact ringWith_congr (hheard.part .ring (by decide)) (hheard.part .role (by decide))
        (hheard.part .superframe (by decide))
    · rwa [hfresh, hheard.part .desk (by decide), hheard.part .regs (by decide)]

/-- The FAR_RESTART that may follow the way back (R125). -/
def restartEvent (heard fresh : Bool) (s : State) : State :=
  if s.role = .desk ∧ heard = false then writeEvent .farRestart 0 (if fresh then 1 else 0) s else s

theorem relinked_role (fresh : Bool) (s : State) : (relinked fresh s).role = s.role :=
  ((setFarFresh_keeps_link _ _).part .role (by decide)).trans ((changeLink_keeps _ s).part .role (by decide))

theorem helloLinked_of_restart {heard fresh : Bool} (h : heard = false ∨ 2 < s.link.helloAge) :
    helloLinked heard fresh s = restartEvent heard fresh (relinked fresh s) := by
  cases heard with
  | false =>
    unfold restartEvent
    cases hrole : s.role
    · rw [helloLinked_of_restart_desk fresh hrole, if_pos (And.intro ((relinked_role fresh s).trans hrole) rfl)]
    · rw [helloLinked_of_restart_stage fresh hrole, if_neg (by simp [relinked_role, hrole])]
  | true => rw [helloLinked_of_late fresh (h.resolve_left (by simp)), restartEvent, if_neg (by simp)]

/-- A part that turned out the same need not be listed. -/
theorem Keeps.without {p : Part} {T : List Part} (h : Keeps (p :: T) s t) (hp : p.same s t) : Keeps T s t := by
  intro q hq
  by_cases hqp : q = p
  · exact hqp ▸ hp
  · exact h q (by simp [hqp, hq])

theorem restartEvent_keeps (heard fresh : Bool) (s : State) :
    Keeps [.ring, .regs] s (restartEvent heard fresh s) := by
  unfold restartEvent
  split
  next h => exact (writeEvent_keeps _ _ _ s).without (appendEvent_sched_of_desk h.1 _ _ _ _ _)
  next => exact Keeps.refl _ s

theorem restartEvent_regsKept (heard fresh : Bool) (s : State) : RegsKept s (restartEvent heard fresh s) := by
  unfold restartEvent
  split
  · exact (Beside.writeEvent ..).regs
  · exact RegsKept.refl s

theorem restartEvent_ring (heard fresh : Bool) (s : State) : (restartEvent heard fresh s).ring =
    if s.role = .desk ∧ heard = false then ringWith .farRestart 0 (if fresh then 1 else 0) s else s.ring := by
  unfold restartEvent
  split
  · exact writeEvent_ring ..
  · rfl

/-- A HELLO of this end's own role (R126). -/
theorem sameRole_first (h : s.link.roleFault = false) : sameRole s =
    writeEvent .roleFault (roleCode s.role).toNat 0 (s.setLink { s.link with roleFault := true }) := if_neg (by simp [h])

theorem sameRole_again (h : s.link.roleFault = true) : sameRole s = s := if_pos h

theorem rejoinChoice_ne_adoption {fresh : Bool} {b : Binding} {p : Policy}
    (h : fresh = true ∨ b = .bound ∨ p = .impose) : rejoinChoice fresh b p ≠ .adoption := by
  rw [Ne, (rejoinChoice_cases fresh b p).2.1]
  rintro ⟨rfl, rfl, rfl⟩
  simp at h

/-- Settles O48: each case is one of the four equations of the receiver, and what its state leaves is said above. -/
theorem helloTaken : Obligations.HelloTaken := by
  unfold Obligations.HelloTaken
  intro s p rest hinbox own opposite heard heardFresh freshAfter entered toStage
  let u := s.setReceiver { s.receiver with inbox := rest }
  have hu : Keeps [.receiver] s u := setReceiver_keeps s _
  have hexec : exec .helloReceived s = .next (receiveHello p u) :=
    congrArg Host.Outcome.next (consumeHead_of_head hinbox)
  have hentered : ringWith .linkState 0 0x00000201#32 u = entered := ringWith_congr rfl rfl rfl
  have hregs : RegsKept s u := .of_regs rfl
  have hheard : (byteAt p 1 != 0) = true ↔ heard := by simp [heard]
  have hnotOwn : opposite → ¬ own := by
    intro h h'
    obtain ⟨q, hq, hne⟩ := helloRole_opposite s.role
    rw [← h, h', helloRole_own] at hq
    exact hne (Option.some.inj hq).symm
  refine ⟨_, hexec, (receiveHello_keeps p u).part .receiver (by decide), fun h => ?idle, fun hown hlink hfault => ?again,
    fun hown hlink hfault => ?fault, fun hopposite hconnecting hincomplete => ?incomplete,
    fun hopposite hconnecting hcomplete hrole => ?complete, fun hopposite hlinked hh hage => ?answer,
    fun hopposite hlinked hback => ?back⟩
  case idle =>
    have hsame : receiveHello p u = u := by
      rcases h with h | ⟨hown, hopposite⟩
      · exact receiveHello_of_idle p h
      · exact receiveHello_of_none (helloRole_none hown hopposite)
    rw [hsame]
    exact hu
  case again =>
    rw [receiveHello_of_own (s := u) hown hlink, sameRole_again (s := u) hfault]
    exact hu
  case fault =>
    rw [receiveHello_of_own (s := u) hown hlink, sameRole_first (s := u) hfault]
    refine ⟨?_, ?_, ?_⟩
    · exact ((hu.mono (by decide)).next (setLink_keeps u _) (by decide)).next (writeEvent_keeps _ _ _ _) (by decide)
    · exact (writeEvent_keeps _ _ _ _).part .link (by decide)
    · exact (writeEvent_ring ..).trans (ringWith_congr rfl rfl rfl)
  case incomplete =>
    rw [receiveHello_connecting (s := u) hopposite hconnecting, helloConnecting_of_incomplete (s := u) (by rwa [hheard])]
    exact ⟨(hu.mono (by decide)).next (heardState_keeps _ u) (by decide), heardState_link _ u⟩
  case complete =>
    have hstate : receiveHello p u = linkedState (byteAt p 2 != 0) u := by
      rw [receiveHello_connecting (s := u) hopposite hconnecting]
      exact helloConnecting_of_complete (s := u) (hheard.2 hcomplete) hrole
    rw [hstate]
    obtain ⟨hnoticed, hchanged⟩ := linkedState_told (byteAt p 2 != 0) u
    refine ⟨linkedState_link _ u, rfl, hnoticed, hchanged, hregs.trans (linkedState_regsKept _ u), fun hstage => ?_,
      fun hdesk => ?_⟩
    · obtain ⟨hkeeps, hdeliverer, hclock, hring⟩ := linkedState_stage (s := u) (byteAt p 2 != 0) hstage hconnecting
      exact ⟨⟨(hu.mono (by decide)).next hkeeps (by decide), hdeliverer, hclock⟩, hring.trans hentered⟩
    · obtain ⟨hkeeps, hring⟩ := linkedState_desk (s := u) (byteAt p 2 != 0) hdesk hconnecting
      refine ⟨(hu.mono (by decide)).next hkeeps (by decide), fun h => (hring (.inl ?_)).trans hentered⟩
      exact rejoinChoice_ne_adoption (h.imp_left fun hf => by simpa [heardFresh] using hf)
  case answer =>
    rw [receiveHello_linked (s := u) hopposite hlinked, hheard.2 hh, helloLinked_of_answer (s := u) _ hage]
    exact hu
  case back =>
    have hstate : receiveHello p u =
        restartEvent (byteAt p 1 != 0) (byteAt p 2 != 0) (relinked (byteAt p 2 != 0) u) := by
      rw [receiveHello_linked (s := u) hopposite hlinked]
      exact helloLinked_of_restart (s := u) (hback.imp_left fun h => by simpa [heard] using h)
    rw [hstate]
    have hrestart := restartEvent_keeps (byteAt p 1 != 0) (byteAt p 2 != 0) (relinked (byteAt p 2 != 0) u)
    have hrestartRegs := restartEvent_regsKept (byteAt p 1 != 0) (byteAt p 2 != 0) (relinked (byteAt p 2 != 0) u)
    have hrelinkedRegs : RegsKept u (relinked (byteAt p 2 != 0) u) := (Beside.changeLink .connecting u).regs.trans
      (.of_regs ((relinked_keeps_change _ u).part .regs (by decide)))
    obtain ⟨hnoticed, hchanged⟩ := relinked_told (byteAt p 2 != 0) u
    refine ⟨?_, ?_, noticed_of_regsKept hnoticed hrestartRegs, changed_of_regsKept hchanged hrestartRegs,
      (hregs.trans hrelinkedRegs).trans hrestartRegs, ⟨_, rfl, ?_⟩, fun hdesk => ?_, fun hstage => ?_⟩
    · rw [hrestart.part .link (by decide), relinked_link (s := u) _ hlinked]
      rfl
    · rw [hrestart.part .sched (by decide)]
      cases hrole : s.role
      · exact (relinked_desk (s := u) _ hrole hlinked).2.2.1
      · exact (relinked_stage (s := u) _ hrole hlinked).2.2.2.1
    · have hring : (relinked (byteAt p 2 != 0) u).ring = ringWith .linkState 0 0x00000102#32 s :=
        (relinked_ring (s := u) _ hlinked).trans (ringWith_congr rfl rfl rfl)
      have hcount : (relinked (byteAt p 2 != 0) u).superframe = s.superframe :=
        ((relinked_keeps_change _ u).part .superframe (by decide)).trans
          ((changeLink_keeps _ u).part .superframe (by decide))
      have hrole : (relinked (byteAt p 2 != 0) u).role = s.role := relinked_role _ u
      rw [restartEvent_ring, hrole]
      by_cases hfar : s.role = .desk ∧ byteAt p 1 = 0
      · rw [if_pos hfar, if_pos (by simpa using hfar)]
        by_cases hzero : byteAt p 2 = 0
        · rw [if_pos hzero, if_neg (by simp [hzero])]
          exact ringWith_congr hring hrole hcount
        · rw [if_neg hzero, if_pos (by simpa using hzero)]
          exact ringWith_congr hring hrole hcount
      · rw [if_neg hfar, if_neg (by simpa using hfar)]
        exact hring
    · obtain ⟨hkeeps, htalk, -, hdesk'⟩ := relinked_desk (s := u) (byteAt p 2 != 0) hdesk hlinked
      refine ⟨((hu.mono (by decide)).next hkeeps (by decide)).next hrestart (by decide),
        (hrestart.part .talkSeen (by decide)).trans htalk, fun hlists => ?_⟩
      rw [hrestart.part .desk (by decide), hdesk', returnInFlight, State.setDesk_desk, ← appendAllDirty_inFlight hlists]
      rfl
    · obtain ⟨hkeeps, hdeliverer, hclock, -, hstatus⟩ := relinked_stage (s := u) (byteAt p 2 != 0) hstage hlinked
      refine ⟨⟨((hu.mono (by decide)).next hkeeps (by decide)).next hrestart (by decide),
        (hrestart.part .deliverer (by decide)).trans hdeliverer, fun hlocked =>
          (hrestart.part .clock (by decide)).trans (hclock hlocked)⟩, ?_⟩
      rw [hrestart.part .sched (by decide)]
      exact hstatus

/-! ## The rejoin decision (R146, R147) -/

theorem nodup_adoptionMembers (d : DeskRepl) : ((adoptionMembers d).map Adoptee.record).Nodup := by
  have hrecords : (adoptionMembers d).map Adoptee.record = adoptionRecords d := by
    rw [adoptionMembers, List.map_map]
    exact List.map_id' _
  have honce : (List.range recordCount).Nodup := List.nodup_range
  rw [hrecords]
  exact honce.filter _

/-- The members of an adoption are the records of version 0 that are not dirty (R147). -/
theorem mem_adoptionMembers_iff (hsized : Sized s) {r : Nat} (hr : r < recordCount) :
    (∃ e ∈ adoptionMembers s.desk, e.record = r) ↔ (shadowAt s r).version = 0 ∧ r ∉ s.desk.dirty := by
  have hlength : r < s.desk.shadow.length := by rw [hsized.shadow]; exact hr
  have hversion : (s.desk.shadow[r]?.map Shadow.version).getD 0 = (shadowAt s r).version := by
    simp [shadowAt, List.getD_eq_getElem?_getD, List.getElem?_eq_getElem hlength]
  have hmember : (∃ e ∈ adoptionMembers s.desk, e.record = r) ↔ r ∈ adoptionRecords s.desk := by
    simp [adoptionMembers]
  rw [hmember, adoptionRecords, List.mem_filter, List.mem_range, hversion, Bool.and_eq_true, Bool.not_eq_true',
    isDirty_eq_false_iff, beq_iff_eq, and_iff_right hr]

theorem rejoin_desk_replay (h : rejoinChoice s.link.farFresh s.desk.binding s.regs.ctrl.policy = .fullReplay) :
    (rejoin s).desk = { s.desk with
      binding := .bound, decision := .fullReplay, adoption := [],
      dirty := s.desk.dirty ++ (List.range recordCount).filter fun r => !s.desk.dirty.contains r } := by
  have honce : (List.range recordCount).Nodup := List.nodup_range
  rw [rejoin_of_replay h, markReplay_desk, decidedDesk, h, appendAllDirty_eq honce, State.setDesk_desk]

theorem rejoin_desk_adoption (h : rejoinChoice s.link.farFresh s.desk.binding s.regs.ctrl.policy = .adoption) :
    (rejoin s).desk = { s.desk with
      binding := .bound, decision := .adoption, adoption := adoptionMembers s.desk, adopted := 0 } := by
  rw [rejoin_of_adoption h, beginAdoption_desk, decidedDesk, h, State.setDesk_desk]
  rfl

theorem rejoin_desk_resume (h : rejoinChoice s.link.farFresh s.desk.binding s.regs.ctrl.policy = .resume) :
    (rejoin s).desk = { s.desk with binding := .bound, decision := .resume } := by
  rw [rejoin_of_resume h, decidedDesk, h, State.setDesk_desk]

/-- An adoption that is empty at once ends with the event after LINK_STATE (R151, log 26). -/
theorem rejoin_of_empty (h : rejoinChoice s.link.farFresh s.desk.binding s.regs.ctrl.policy = .adoption)
    (hnone : adoptionMembers s.desk = []) :
    noticed .sync (rejoin s) ∧ (rejoin s).ring = ringWith .adoptDone 0 0 s := by
  rw [rejoin_of_adoption h, beginAdoption_of_none (s := decidedDesk s) hnone]
  exact ⟨adoptDone_noticed _, (adoptDone_ring _).trans (ringWith_congr rfl rfl rfl)⟩

/-- The state in which the desk decides. -/
def deciding (fresh : Bool) (s : State) : State := linkBase .linked (heardState fresh s)

theorem deciding_facts (fresh : Bool) (hrole : s.role = .desk) (hconnecting : s.link.state = .connecting) :
    (deciding fresh s).desk = s.desk ∧ rejoinChoice (deciding fresh s).link.farFresh (deciding fresh s).desk.binding
        (deciding fresh s).regs.ctrl.policy = rejoinChoice fresh s.desk.binding s.regs.ctrl.policy ∧
      ringWith .adoptDone 0 0 (deciding fresh s) =
        ringWith .adoptDone 0 0 (s.setRing (ringWith .linkState 0 0x00000201#32 s)) := by
  have hheard := heardState_keeps fresh s
  have hbase := linkBase_keeps .linked (heardState fresh s)
  have hfresh : (heardState fresh s).link.farFresh = fresh := by rw [heardState_link, if_pos hrole]
  have hring : (deciding fresh s).ring = ringWith .linkState 0 0x00000201#32 s := by
    rw [deciding, linkBase_ring, heardState_link_state, hconnecting]
    exact ringWith_congr (hheard.part .ring (by decide)) (hheard.part .role (by decide))
      (hheard.part .superframe (by decide))
  refine ⟨(hbase.part .desk (by decide)).trans (hheard.part .desk (by decide)), ?_, ?_⟩
  · rw [deciding, rejoinChoice_linkBase, hfresh, hheard.part .desk (by decide), hheard.part .regs (by decide)]
  · exact ringWith_congr hring ((hbase.part .role (by decide)).trans (hheard.part .role (by decide)))
      ((hbase.part .superframe (by decide)).trans (hheard.part .superframe (by decide)))

theorem linkedState_eq_desk (fresh : Bool) (hrole : s.role = .desk) (hconnecting : s.link.state = .connecting) :
    Keeps [.sched] (rejoin (deciding fresh s)) (linkedState fresh s) := by
  have hrole' : (heardState fresh s).role = .desk := ((heardState_keeps fresh s).part .role (by decide)).trans hrole
  rw [deciding, ← changeLink_linked_desk hrole' ((heardState_link_state fresh s).trans hconnecting)]
  exact linkedState_keeps_change fresh s

/-- Settles O49: the decision is `rejoinChoice`, and each of its three outcomes has its equation for the desk. -/
theorem rejoinDecided : Obligations.RejoinDecided := by
  unfold Obligations.RejoinDecided
  intro s p rest hrole hconnecting hlists hsized hinbox hstage hheard replay adopts entered
  let u := s.setReceiver { s.receiver with inbox := rest }
  let fresh := byteAt p 2 != 0
  have hu : Keeps [.receiver] s u := setReceiver_keeps s _
  have hopposite : byteAt p 0 = 1 - (roleCode u.role).setWidth 8 := by
    rw [hstage, show u.role = .desk from hrole]
    rfl
  have hexec : exec .helloReceived s = .next (linkedState fresh u) := by
    have hstate : receiveHello p u = linkedState fresh u := by
      rw [receiveHello_connecting hopposite hconnecting]
      exact helloConnecting_of_complete (s := u) (by simpa using hheard) (.inl hrole)
    exact congrArg Host.Outcome.next ((consumeHead_of_head hinbox).trans hstate)
  have hentered : ringWith .linkState 0 0x00000201#32 u = entered := ringWith_congr rfl rfl rfl
  obtain ⟨hdesk, hchoice, hdone⟩ := deciding_facts (s := u) fresh hrole hconnecting
  have hsched := linkedState_eq_desk (s := u) fresh hrole hconnecting
  obtain ⟨hkeeps, hring⟩ := linkedState_desk (s := u) fresh hrole hconnecting
  obtain ⟨hreplay, hadopts, hresume⟩ := rejoinChoice_cases fresh s.desk.binding s.regs.ctrl.policy
  have hreplay' : rejoinChoice fresh s.desk.binding s.regs.ctrl.policy = .fullReplay ↔ replay := by
    rw [hreplay]
    simp [fresh, replay]
  have hadopts' : rejoinChoice fresh s.desk.binding s.regs.ctrl.policy = .adoption ↔ adopts := by
    rw [hadopts]
    simp [fresh, adopts]
  have hresume' : ¬ replay → ¬ adopts → rejoinChoice fresh s.desk.binding s.regs.ctrl.policy = .resume := by
    intro hr ha
    rw [hresume]
    rw [← hreplay', hreplay] at hr
    rw [← hadopts', hadopts] at ha
    cases hb : s.desk.binding <;> cases hp : s.regs.ctrl.policy <;> simp_all
  have hflight : s.desk.inFlight = [] := ((listsOk_iff s).1 hlists).2.link (not_mayFly_connecting hconnecting)
  have hdeskEq : (linkedState fresh u).desk = (rejoin (deciding fresh u)).desk := hsched.part .desk (by decide)
  have hmemberEq : adoptionMembers (deciding fresh u).desk = adoptionMembers s.desk := congrArg adoptionMembers hdesk
  have hreplayDesk : replay → (linkedState fresh u).desk = { s.desk with
      binding := .bound, decision := .fullReplay, adoption := [],
      dirty := s.desk.dirty ++ (List.range recordCount).filter fun r => !s.desk.dirty.contains r } := by
    intro h
    rw [hdeskEq, rejoin_desk_replay (hchoice.trans (hreplay'.2 h)), hdesk]
    rfl
  have hadoptsDesk : adopts → (linkedState fresh u).desk = { s.desk with
      binding := .bound, decision := .adoption, adoption := adoptionMembers s.desk, adopted := 0 } := by
    intro h
    rw [hdeskEq, rejoin_desk_adoption (hchoice.trans (hadopts'.2 h)), hmemberEq, hdesk]
    rfl
  have hresumeDesk : ¬ replay → ¬ adopts →
      (linkedState fresh u).desk = { s.desk with binding := .bound, decision := .resume } := by
    intro hr ha
    rw [hdeskEq, rejoin_desk_resume (hchoice.trans (hresume' hr ha)), hdesk]
    rfl
  have hcommon : (linkedState fresh u).desk.binding = .bound ∧ (linkedState fresh u).desk.inFlight = s.desk.inFlight ∧
      (linkedState fresh u).desk.shadow = s.desk.shadow ∧ (linkedState fresh u).desk.counter = s.desk.counter := by
    by_cases hr : replay
    · rw [hreplayDesk hr]
      exact ⟨rfl, rfl, rfl, rfl⟩
    · by_cases ha : adopts
      · rw [hadoptsDesk ha]
        exact ⟨rfl, rfl, rfl, rfl⟩
      · rw [hresumeDesk hr ha]
        exact ⟨rfl, rfl, rfl, rfl⟩
  obtain ⟨hbinding, hinFlight, hshadow, hcounter⟩ := hcommon
  refine ⟨_, hexec, congrArg Link.state (linkedState_link fresh u), (hu.mono (by decide)).next hkeeps (by decide),
    (RegsKept.of_regs rfl).trans (linkedState_regsKept fresh u), hbinding, hinFlight.trans hflight, hshadow, hcounter,
    fun h => ?ring, fun h => ?replay, fun h => ?adopts, hresumeDesk⟩
  case ring =>
    refine (hring ?_).trans hentered
    by_cases ha : adopts
    · have hnot : ¬ replay := fun hr => absurd ((hreplay'.2 hr).symm.trans (hadopts'.2 ha)) (by decide)
      have hsome := (h.resolve_left hnot).resolve_left (not_not.2 ha)
      rw [hadoptsDesk ha] at hsome
      exact .inr hsome
    · exact .inl (mt hadopts'.1 ha)
  case replay =>
    rw [hreplayDesk h]
    exact ⟨rfl, rfl, rfl⟩
  case adopts =>
    have hd := hadoptsDesk h
    refine ⟨congrArg DeskRepl.decision hd, congrArg DeskRepl.adopted hd, ?_, ?_, ?_, fun r hr => ?_,
      fun hnone => ?_⟩
    · rw [hd]
    · rw [hd]
      intro e he
      obtain ⟨r, -, rfl⟩ := List.mem_map.1 he
      rfl
    · rw [hd]
      exact nodup_adoptionMembers _
    · rw [hd]
      exact mem_adoptionMembers_iff hsized hr
    · rw [hd] at hnone
      obtain ⟨hnoticed, hring'⟩ := rejoin_of_empty (hchoice.trans (hadopts'.2 h)) (hmemberEq.trans hnone)
      refine ⟨noticed_of_regsKept hnoticed (.of_regs (hsched.part .regs (by decide))), ?_⟩
      rw [hsched.part .ring (by decide), hring', hdone]
      exact ringWith_congr hentered rfl rfl

end Sys2Proof.Machine
end


section
/-! A fibre port's change of state and the Path Selector's answer (R95 to R97, R100, R111 to R115, R127, R129). -/

namespace Sys2Proof.Machine

variable {s t u : State}

/-! ## Ports -/

theorem Keeps.port {T : List Part} (h : Keeps T s t) (p : PortId) (ha : .portA ∉ T) (hb : .portB ∉ T) :
    t.port p = s.port p := by
  cases p
  · exact h.part .portA ha
  · exact h.part .portB hb

theorem setPort_port_other (s : State) (p : PortId) (v : Port) :
    (s.setPort p v).port (otherPort p) = s.port (otherPort p) := by
  cases p <;> rfl

theorem otherPort_ne (p : PortId) : otherPort p ≠ p := by cases p <;> decide

theorem eq_otherPort {p q : PortId} (h : q ≠ p) : q = otherPort p := by
  cases p <;> cases q <;> simp_all [otherPort]

/-! ## The event ring over a few events (R173) -/

/-- At most `n` records have been written since: every other place holds what it held. -/
structure RingLater (n : Nat) (r r' : Ring) : Prop where
  le : r.written.toNat ≤ r'.written.toNat
  bound : r'.written.toNat ≤ r.written.toNat + n
  kept : ∀ i, (∀ k < n, (r.written.toNat + k) % 64 ≠ i) → r'.records[i]? = r.records[i]?

theorem RingLater.refl (r : Ring) : RingLater 0 r r := ⟨Nat.le_refl _, Nat.le_refl _, fun _ _ => rfl⟩

theorem RingLater.trans {m n : Nat} {r r' r'' : Ring} (h : RingLater m r r') (g : RingLater n r' r'') :
    RingLater (m + n) r r'' := by
  obtain ⟨hle, hbound, hkept⟩ := h
  obtain ⟨gle, gbound, gkept⟩ := g
  refine ⟨hle.trans gle, by omega, fun i hi => ?_⟩
  rw [gkept i fun k hk => ?_, hkept i fun k hk => hi k (by omega)]
  have hplace := hi (r'.written.toNat - r.written.toNat + k) (by omega)
  rwa [show r.written.toNat + (r'.written.toNat - r.written.toNat + k) = r'.written.toNat + k by omega] at hplace

theorem RingLater.mono {m n : Nat} {r r' : Ring} (h : RingLater m r r') (hmn : m ≤ n) : RingLater n r r' :=
  ⟨h.le, h.bound.trans (by omega), fun i hi => h.kept i fun k hk => hi k (by omega)⟩

theorem ringWith_of_space (type : EventType) (subject : Nat) (detail : Word)
    (hspace : s.ring.written ≠ 4294967295#32) : ringWith type subject detail s =
      { records := s.ring.records.set (s.ring.written.toNat % 64)
          { sequence := s.ring.written, stamp := s.superframe, type := eventCode type,
            origin := (roleCode s.role).setWidth 8, subject := BitVec.ofNat 16 subject, detail := detail },
        written := s.ring.written + 1 } := if_neg hspace

theorem ringWith_written (type : EventType) (subject : Nat) (detail : Word)
    (hspace : s.ring.written ≠ 4294967295#32) :
    (ringWith type subject detail s).written.toNat = s.ring.written.toNat + 1 := by
  have hlt : s.ring.written.toNat < 2 ^ 32 := s.ring.written.isLt
  have hne : s.ring.written.toNat ≠ 4294967295 := fun h => hspace (BitVec.eq_of_toNat_eq h)
  have hone : (1 : Word).toNat = 1 := rfl
  rw [ringWith_of_space type subject detail hspace, BitVec.toNat_add]
  omega

theorem ringWith_later (type : EventType) (subject : Nat) (detail : Word) (s : State) :
    RingLater 1 s.ring (ringWith type subject detail s) := by
  by_cases hspace : s.ring.written = 4294967295#32
  · rw [ringWith, if_pos hspace]
    exact (RingLater.refl _).mono (by omega)
  · have hwritten := ringWith_written type subject detail hspace
    refine ⟨by omega, by omega, fun i hi => ?_⟩
    rw [ringWith_of_space type subject detail hspace]
    exact List.getElem?_set_ne (by simpa using hi 0 (by omega))

theorem writeEvent_later (type : EventType) (subject : Nat) (detail : Word) (h : t.ring = s.ring) :
    RingLater 1 s.ring (writeEvent type subject detail t).ring := by
  rw [writeEvent_ring, ← h]
  exact ringWith_later type subject detail t

/-- A record is still in its place after at most 63 further events. -/
theorem RingLater.record {n : Nat} {type : EventType} {subject : Nat} {detail : Word} {r : Ring}
    (h : RingLater n (ringWith type subject detail s) r) (hn : n ≤ 63) (hspace : s.ring.written ≠ 4294967295#32)
    (hlength : s.ring.records.length = 64) : r.records[s.ring.written.toNat % 64]? = some
      { sequence := s.ring.written, stamp := s.superframe, type := eventCode type,
        origin := (roleCode s.role).setWidth 8, subject := BitVec.ofNat 16 subject, detail := detail } := by
  have hplace : s.ring.written.toNat % 64 < s.ring.records.length := by omega
  have hwritten := ringWith_written type subject detail hspace
  rw [h.kept _ fun k hk => by omega, ringWith_of_space type subject detail hspace, List.getElem?_set_self hplace]

/-! ## What an event leaves of the scheduler (R108, R173) -/

/-- Of the scheduler only the forward cursor may have moved. -/
def CursorOnly (s t : State) : Prop := t.sched = { s.sched with noteCursor := t.sched.noteCursor }

theorem CursorOnly.of_sched (h : t.sched = s.sched) : CursorOnly s t := by
  unfold CursorOnly
  rw [h]

theorem CursorOnly.trans (h : CursorOnly s t) (g : CursorOnly t u) : CursorOnly s u := by
  unfold CursorOnly at *
  rw [g, h]

theorem CursorOnly.writeEvent (type : EventType) (subject : Nat) (detail : Word) (s : State) :
    CursorOnly s (writeEvent type subject detail s) := by
  unfold Machine.writeEvent appendEvent
  split
  · exact .of_sched rfl
  · rfl

theorem CursorOnly.sending (h : CursorOnly s t) : t.sched.sending = s.sched.sending := by
  unfold CursorOnly at h
  rw [h]

/-! ## A change of a port's state or MARGINAL (R100) -/

theorem portChanged_ring (p : PortId) (s : State) : (portChanged p s).ring =
    ringWith .portState (portNumber p) ((portCode (s.port p)).setWidth 32) s :=
  (writeEvent_ring ..).trans (ringWith_congr rfl rfl rfl)

theorem portChanged_notices (p : PortId) (s : State) : NoticesOnly (setChange (portChange p) s) (portChanged p s) :=
  .writeEvent ..

theorem portChanged_change (p : PortId) (s : State) :
    (portChanged p s).regs.change = s.regs.change ||| changeBit (portChange p) :=
  congrArg Regs.change (portChanged_notices p s)

theorem portChanged_regsKept (p : PortId) (s : State) : RegsKept (setChange (portChange p) s) (portChanged p s) :=
  (Beside.writeEvent ..).regs

theorem portChanged_told (p : PortId) (s : State) :
    noticed .link (portChanged p s) ∧ changed (portChange p) (portChanged p s) :=
  ⟨noticed_of_regsKept (noticed_setChange ..) (portChanged_regsKept p s),
    changed_of_regsKept (changed_setChange ..) (portChanged_regsKept p s)⟩

/-- A port given a new state, and the change told. -/
def portMoved (p : PortId) (v : Port) (s : State) : State := portChanged p (s.setPort p v)

theorem portMoved_keeps (p : PortId) (v : Port) (s : State) :
    Keeps [.portA, .portB, .ring, .sched, .regs] s (portMoved p v s) :=
  ((setPort_keeps s p v).mono (by decide)).next (portChanged_keeps p _) (by decide)

theorem portMoved_port (p : PortId) (v : Port) (s : State) :
    (portMoved p v s).port p = v ∧ (portMoved p v s).port (otherPort p) = s.port (otherPort p) := by
  have hsame := fun q => (portChanged_keeps p (s.setPort p v)).port q (by decide) (by decide)
  exact ⟨(hsame p).trans (State.setPort_port_same ..), (hsame _).trans (setPort_port_other ..)⟩

theorem setPort_keeps_regs (p : PortId) (v : Port) (s : State) : (s.setPort p v).regs = s.regs :=
  (setPort_keeps s p v).part .regs (by decide)

theorem portMoved_change (p : PortId) (v : Port) (s : State) :
    (portMoved p v s).regs.change = s.regs.change ||| changeBit (portChange p) := by
  rw [portMoved, portChanged_change, setPort_keeps_regs]

theorem portMoved_ring (p : PortId) (v : Port) (s : State) :
    (portMoved p v s).ring = ringWith .portState (portNumber p) ((portCode v).setWidth 32) s := by
  have hkeeps := setPort_keeps s p v
  rw [portMoved, portChanged_ring, State.setPort_port_same]
  exact ringWith_congr (hkeeps.part .ring (by decide)) (hkeeps.part .role (by decide))
    (hkeeps.part .superframe (by decide))

theorem portChanged_cursorOnly (p : PortId) (s : State) : CursorOnly s (portChanged p s) :=
  CursorOnly.trans (.of_sched ((setChange_keeps _ _).part .sched (by decide))) (.writeEvent ..)

theorem portMoved_cursorOnly (p : PortId) (v : Port) (s : State) : CursorOnly s (portMoved p v s) :=
  CursorOnly.trans (.of_sched ((setPort_keeps s p v).part .sched (by decide))) (portChanged_cursorOnly p _)

theorem portMoved_told (p : PortId) (v : Port) (s : State) :
    noticed .link (portMoved p v s) ∧ changed (portChange p) (portMoved p v s) := portChanged_told p _

/-! ## A switchover written (R115) -/

theorem flushSwitchover_of_none (h : s.deliverer.switchover = none) : flushSwitchover s = s := by
  simp only [flushSwitchover, h]

theorem flushSwitchover_of_some {src dst : PortId} (h : s.deliverer.switchover = some (src, dst)) :
    flushSwitchover s = writeEvent .switchover (portNumber dst) (switchoverDetail src dst s.deliverer.run)
      (s.setDeliverer { s.deliverer with switchover := none }) := by
  simp only [flushSwitchover, h]

theorem flushSwitchover_later (s : State) : RingLater 1 s.ring (flushSwitchover s).ring := by
  cases hpending : s.deliverer.switchover with
  | none =>
    rw [flushSwitchover_of_none hpending]
    exact (RingLater.refl _).mono (by omega)
  | some ports =>
    obtain ⟨src, dst⟩ := ports
    rw [flushSwitchover_of_some hpending]
    exact writeEvent_later _ _ _ rfl

theorem flushSwitchover_cursorOnly (s : State) : CursorOnly s (flushSwitchover s) := by
  cases hpending : s.deliverer.switchover with
  | none =>
    rw [flushSwitchover_of_none hpending]
    exact .of_sched rfl
  | some ports =>
    obtain ⟨src, dst⟩ := ports
    rw [flushSwitchover_of_some hpending]
    exact .writeEvent _ _ _ (s.setDeliverer { s.deliverer with switchover := none })

/-- The ring with a pending switchover written. -/
def flushedRing (s : State) : Ring := (flushSwitchover s).ring

theorem flushedRing_of_none (h : s.deliverer.switchover = none) : flushedRing s = s.ring := by
  rw [flushedRing, flushSwitchover_of_none h]

theorem flushedRing_of_some {src dst : PortId} (h : s.deliverer.switchover = some (src, dst)) :
    flushedRing s = ringWith .switchover (portNumber dst) (switchoverDetail src dst s.deliverer.run) s := by
  rw [flushedRing, flushSwitchover_of_some h, writeEvent_ring]
  exact ringWith_congr rfl rfl rfl

/-- It depends on the ring, the role, the superframe count and the Deliverer alone. -/
theorem flushedRing_congr (hring : t.ring = s.ring) (hrole : t.role = s.role) (hcount : t.superframe = s.superframe)
    (hdeliverer : t.deliverer = s.deliverer) : flushedRing t = flushedRing s := by
  cases hpending : s.deliverer.switchover with
  | none => rw [flushedRing_of_none hpending, flushedRing_of_none (hdeliverer ▸ hpending), hring]
  | some ports =>
    obtain ⟨src, dst⟩ := ports
    rw [flushedRing_of_some hpending, flushedRing_of_some (s := t) (hdeliverer ▸ hpending), hdeliverer]
    exact ringWith_congr hring hrole hcount

/-! ## The selector's moves (R111, R112, R115) -/

/-- The selector with a new active port, and the change told. -/
def selected (new : Option PortId) (s : State) : State :=
  setChange .active (s.setSelector { active := new, cleanCount := 0 })

theorem selected_keeps (new : Option PortId) (s : State) : Keeps [.selector, .regs] s (selected new s) :=
  ((setSelector_keeps s _).mono (by decide)).next (setChange_keeps _ _) (by decide)

theorem setActive_of_switch {p q : PortId} (h : s.selector.active = some p) : setActive (some q) s =
    ((flushSwitchover (selected (some q) s)).setDeliverer
      { (flushSwitchover (selected (some q) s)).deliverer with switchover := some (p, q) }).setStatus
        { (flushSwitchover (selected (some q) s)).status with
          switches := satSucc (flushSwitchover (selected (some q) s)).status.switches } := by
  simp only [setActive, h]
  rfl

theorem setActive_of_bridge {p : PortId} (h : s.selector.active = some p) :
    setActive none s = linkDeactivated (flushSwitchover (selected none s)) := by
  simp only [setActive, h]
  rfl

theorem selectorLeft_of_none (p : PortId) (h : s.selector.active = none) : selectorLeft p s = s := by
  simp only [selectorLeft, h]

theorem selectorLeft_of_standby {p : PortId} (h : s.selector.active = some (otherPort p)) :
    selectorLeft p s = clearClean s := by
  simp only [selectorLeft, h, otherPort_ne, if_false]

theorem selectorLeft_of_switch {p : PortId} (h : s.selector.active = some p)
    (hother : (s.port (otherPort p)).state = .locked) :
    selectorLeft p s = setActive (some (otherPort p)) s := by
  simp only [selectorLeft, h, hother, if_true]

theorem selectorLeft_of_bridge {p : PortId} (h : s.selector.active = some p)
    (hother : (s.port (otherPort p)).state ≠ .locked) : selectorLeft p s = setActive none s := by
  simp only [selectorLeft, h, hother, if_false, if_true]

theorem selected_told (new : Option PortId) (s : State) : changed .active (selected new s) := changed_setChange ..

/-- What a switch of the active port leaves. -/
structure Switched (p q : PortId) (s t : State) : Prop where
  keeps : Keeps [.ring, .sched, .regs, .selector, .deliverer, .status] s t
  selector : t.selector = { active := some q, cleanCount := 0 }
  ring : t.ring = flushedRing s
  status : t.status = { s.status with switches := satSucc s.status.switches }
  deliverer : t.deliverer = { s.deliverer with switchover := some (p, q) }
  told : changed .active t
  sched : CursorOnly s t

theorem setActive_switched {p q : PortId} (h : s.selector.active = some p) :
    Switched p q s (setActive (some q) s) := by
  have hselected := selected_keeps (some q) s
  have hflush := flushSwitchover_keeps (selected (some q) s)
  have hdeliverer : (flushSwitchover (selected (some q) s)).deliverer = { s.deliverer with switchover := none } := by
    rw [flushSwitchover_deliverer, hselected.part .deliverer (by decide)]
  have hstatus : (flushSwitchover (selected (some q) s)).status = s.status :=
    (hflush.part .status (by decide)).trans (hselected.part .status (by decide))
  rw [setActive_of_switch h, hdeliverer, hstatus]
  refine ⟨?_, ?_, ?_, rfl, rfl, ?_, ?_⟩
  · exact (((hselected.mono (by decide)).next hflush (by decide)).next (setDeliverer_keeps _ _) (by decide)).next
      (setStatus_keeps _ _) (by decide)
  · exact (hflush.part .selector (by decide))
  · exact flushedRing_congr rfl rfl rfl rfl
  · exact changed_of_regsKept (selected_told _ s) (flushSwitchover_acts _).regsKept
  · exact CursorOnly.trans (.of_sched (hselected.part .sched (by decide))) (flushSwitchover_cursorOnly _)

/-! ## The link bridges (R127, R129) -/

theorem linkDeactivated_of_up (h : s.link.state = .connecting ∨ s.link.state = .linked) :
    linkDeactivated s = changeLink .bridging s := by
  rcases h with h | h <;> simp only [linkDeactivated, h]

theorem linkDeactivated_of_idle (h : s.link.state ≠ .connecting ∧ s.link.state ≠ .linked) : linkDeactivated s = s := by
  obtain ⟨hconnecting, hlinked⟩ := h
  unfold linkDeactivated
  split
  next hstate => exact absurd hstate hconnecting
  next hstate => exact absurd hstate hlinked
  all_goals rfl

theorem endTrimPeriod_clock (s : State) : (endTrimPeriod s).clock.period = s.clock.period ∧
    (endTrimPeriod s).clock.frameLen = s.clock.frameLen ∧ (endTrimPeriod s).clock.state = s.clock.state := by
  unfold endTrimPeriod
  split
  · dsimp only
    split
    · exact ⟨rfl, rfl, rfl⟩
    · rw [(writeEvent_keeps _ _ _ _).part .clock (by decide)]
      exact ⟨rfl, rfl, rfl⟩
  · exact ⟨rfl, rfl, rfl⟩

theorem endTrimPeriod_later (s : State) : RingLater 1 s.ring (endTrimPeriod s).ring := by
  unfold endTrimPeriod
  split
  · dsimp only
    split
    · exact (RingLater.refl _).mono (by omega)
    · exact writeEvent_later _ _ _ rfl
  · exact (RingLater.refl _).mono (by omega)

/-- What the entry into BRIDGING leaves. -/
structure Bridged (s t : State) : Prop where
  keeps : Keeps [.ring, .sched, .regs, .deliverer, .link, .clock, .talkSeen] s t
  link : t.link = { s.link with state := .bridging, bridging := 0, returnTo := some s.link.state }
  later : RingLater 2 s.ring t.ring
  ring : s.role = .desk ∨ s.clock.measFrames < 4096 →
    t.ring = ringWith .linkState 0 (linkDetail s.link.state .bridging) s
  switchover : t.deliverer.switchover = s.deliverer.switchover
  told : changed .link t
  stage : s.role = .stage → t.deliverer.maskInUse = 0 ∧ t.clock.state = .holdover ∧
    t.clock.realignPending = false ∧ t.clock.measFrames = 0 ∧ t.clock.runPos = 0 ∧
    t.clock.lastArrival = none ∧ t.clock.period = s.clock.period ∧ t.clock.frameLen = s.clock.frameLen
  desk : s.role = .desk → s.link.state = .linked → t.talkSeen = false
  cycles : s.role = .stage → t.clock.measCycles = 0
  sending : t.sched.sending = s.sched.sending
  deliverer : t.deliverer = { s.deliverer with maskInUse := t.deliverer.maskInUse }
  deskClock : s.role = .desk → t.clock = s.clock
  talk : s.link.state ≠ .linked → t.talkSeen = s.talkSeen

theorem endTrimPeriod_cursorOnly (s : State) : CursorOnly s (endTrimPeriod s) := by
  unfold endTrimPeriod
  split
  · dsimp only
    split
    · exact .of_sched rfl
    · exact .writeEvent _ _ _ (s.setClock _)
  · exact .of_sched rfl

theorem linkBase_bridge_cursorOnly (s : State) : CursorOnly s (linkBase .bridging s) :=
  CursorOnly.writeEvent .linkState 0 (linkDetail s.link.state .bridging)
    (setChange .link (s.setLink { s.link with state := .bridging }))

theorem stageBase_sending (old new : LinkState) (s : State) :
    (stageBase old new s).sched.sending = s.sched.sending := by
  unfold stageBase
  dsimp only
  split_ifs <;> rfl

theorem linkDesk_bridge_keeps {old : LinkState} (hold : old = .connecting ∨ old = .linked) (t : State) :
    Keeps [.talkSeen, .regs] t (linkDesk old .bridging t) := by
  rcases hold with rfl | rfl
  · rw [(linkDesk_bridge t).1]
    exact Keeps.refl _ t
  · rw [(linkDesk_bridge t).2]
    exact dropStageTalk_keeps t

theorem changeLink_bridge_stage (hrole : s.role = .stage) (h : s.link.state = .connecting ∨ s.link.state = .linked) :
    changeLink .bridging s = enterHoldover (stageBase s.link.state .bridging (linkBase .bridging s)) := by
  rw [changeLink_of_stage hrole, linkStage_eq]
  exact if_pos h

theorem changeLink_bridged (h : s.link.state = .connecting ∨ s.link.state = .linked) :
    Bridged s (changeLink .bridging s) := by
  have hlost : s.link.state ≠ .lost := by rcases h with h | h <;> simp [h]
  have hbase := linkBase_keeps_of_audible (new := .bridging) rfl s
  have hevent : RingLater 1 s.ring (linkBase .bridging s).ring := by
    rw [linkBase_ring]
    exact ringWith_later _ _ _ s
  have hsilenced : silenced .bridging s.deliverer = s.deliverer := rfl
  have htold := (changeLink_told .bridging s).2
  have hlink := changeLink_link .bridging s
  cases hrole : s.role with
  | desk =>
    have hdesk := changeLink_of_desk hrole .bridging
    have hkeeps := linkDesk_bridge_keeps h (linkBase .bridging s)
    have hring : (changeLink .bridging s).ring = (linkBase .bridging s).ring := by
      rw [hdesk, hkeeps.part .ring (by decide)]
    refine ⟨?_, hlink, ?_, fun _ => ?_, ?_, htold, fun hstage => absurd (hrole.symm.trans hstage) (by decide),
      fun _ hlinked => ?_, fun hstage => absurd (hrole.symm.trans hstage) (by decide), ?_, ?_,
      fun _ => changeLink_clock_desk hrole .bridging, fun hunlinked => ?_⟩
    · rw [hdesk]
      exact (hbase.mono (by decide)).next hkeeps (by decide)
    · rw [hring]
      exact hevent.mono (by omega)
    · rw [hring, linkBase_ring]
    · rw [changeLink_deliverer_desk hrole, hsilenced]
    · rw [hdesk, hlinked, (linkDesk_bridge _).2, dropStageTalk_talkSeen]
    · rw [hdesk, hkeeps.part .sched (by decide), (linkBase_bridge_cursorOnly s).sending]
    · rw [changeLink_deliverer_desk hrole, hsilenced]
    · rw [hdesk, h.resolve_right hunlinked, (linkDesk_bridge _).1, hbase.part .talkSeen (by decide)]
  | stage =>
    have hstage := changeLink_bridge_stage hrole h
    have hblocks := stageBase_keeps_of_up hlost (by decide : LinkState.bridging ≠ .lost) (linkBase .bridging s)
    have hholdover := enterHoldover_keeps (stageBase s.link.state .bridging (linkBase .bridging s))
    have hclock : (stageBase s.link.state .bridging (linkBase .bridging s)).clock = s.clock :=
      (hblocks.part .clock (by decide)).trans (hbase.part .clock (by decide))
    have hring : (stageBase s.link.state .bridging (linkBase .bridging s)).ring = (linkBase .bridging s).ring :=
      hblocks.part .ring (by decide)
    refine ⟨?_, hlink, ?_, fun hopen => ?_, ?_, htold, fun _ => ?_, fun hdesk => absurd (hrole.symm.trans hdesk)
      (by decide), fun _ => ?_, ?_, ?_, fun hdesk => absurd (hrole.symm.trans hdesk) (by decide), fun _ => ?_⟩
    · rw [hstage]
      exact ((hbase.mono (by decide)).next hblocks (by decide)).next hholdover (by decide)
    · rw [hstage]
      have hended := endTrimPeriod_later (stageBase s.link.state .bridging (linkBase .bridging s))
      rw [hring] at hended
      exact hevent.trans hended
    · exact changeLink_ring_stage hrole (.inr (.inr (.inr (hopen.resolve_left (by simp [hrole])))))
    · rw [changeLink_deliverer_stage hrole, hsilenced]
    · obtain ⟨hperiod, hlength, -⟩ := endTrimPeriod_clock (stageBase s.link.state .bridging (linkBase .bridging s))
      rw [hclock] at hperiod hlength
      refine ⟨?_, ?_⟩
      · rw [changeLink_deliverer_stage hrole]
      · rw [hstage]
        exact ⟨rfl, rfl, rfl, rfl, rfl, hperiod, hlength⟩
    · rw [hstage]
      rfl
    · have hended := (endTrimPeriod_cursorOnly (stageBase s.link.state .bridging (linkBase .bridging s))).sending
      rw [hstage]
      exact hended.trans ((stageBase_sending ..).trans (linkBase_bridge_cursorOnly s).sending)
    · rw [changeLink_deliverer_stage hrole, hsilenced]
    · rw [hstage, hholdover.part .talkSeen (by decide), hblocks.part .talkSeen (by decide),
        hbase.part .talkSeen (by decide)]

/-! ## No port is active any more (R112, R127) -/

/-- The state in which the link hears of it. -/
def deselected (s : State) : State := flushSwitchover (selected none s)

theorem deselected_keeps (s : State) : Keeps [.ring, .sched, .regs, .selector, .deliverer] s (deselected s) :=
  ((selected_keeps none s).mono (by decide)).next (flushSwitchover_keeps _) (by decide)

theorem deselected_ring (s : State) : (deselected s).ring = flushedRing s := flushedRing_congr rfl rfl rfl rfl

theorem deselected_deliverer (s : State) : (deselected s).deliverer = { s.deliverer with switchover := none } := by
  rw [deselected, flushSwitchover_deliverer, (selected_keeps none s).part .deliverer (by decide)]

theorem deselected_selector (s : State) : (deselected s).selector = { active := none, cleanCount := 0 } :=
  (flushSwitchover_keeps _).part .selector (by decide)

theorem deselected_told (s : State) : changed .active (deselected s) :=
  changed_of_regsKept (selected_told none s) (flushSwitchover_acts _).regsKept

theorem deselected_link (s : State) : (deselected s).link = s.link := (deselected_keeps s).part .link (by decide)

theorem setActive_none_eq {p : PortId} (h : s.selector.active = some p) :
    setActive none s = linkDeactivated (deselected s) := setActive_of_bridge h

theorem linkDeactivated_keeps_bridge (s : State) :
    Keeps [.ring, .sched, .regs, .deliverer, .link, .clock, .talkSeen] s (linkDeactivated s) := by
  by_cases h : s.link.state = .connecting ∨ s.link.state = .linked
  · rw [linkDeactivated_of_up h]
    exact (changeLink_bridged h).keeps
  · rw [linkDeactivated_of_idle (not_or.1 h)]
    exact Keeps.refl _ s

theorem linkDeactivated_later (s : State) : RingLater 2 s.ring (linkDeactivated s).ring := by
  by_cases h : s.link.state = .connecting ∨ s.link.state = .linked
  · rw [linkDeactivated_of_up h]
    exact (changeLink_bridged h).later
  · rw [linkDeactivated_of_idle (not_or.1 h)]
    exact (RingLater.refl _).mono (by omega)

/-! ## A port has left LOCKED (R112) -/

/-- Which of its four answers the selector gives. -/
theorem selectorLeft_cases (p : PortId) (s : State) :
    (s.selector.active = none ∧ selectorLeft p s = s) ∨
      (s.selector.active = some (otherPort p) ∧ selectorLeft p s = clearClean s) ∨
      (s.selector.active = some p ∧ (s.port (otherPort p)).state = .locked ∧
        selectorLeft p s = setActive (some (otherPort p)) s) ∨
      (s.selector.active = some p ∧ (s.port (otherPort p)).state ≠ .locked ∧
        selectorLeft p s = linkDeactivated (deselected s)) := by
  cases hactive : s.selector.active with
  | none => exact .inl ⟨rfl, selectorLeft_of_none p hactive⟩
  | some q =>
    by_cases hq : q = p
    · rw [hq] at hactive ⊢
      by_cases hother : (s.port (otherPort p)).state = .locked
      · exact .inr (.inr (.inl ⟨rfl, hother, selectorLeft_of_switch hactive hother⟩))
      · exact .inr (.inr (.inr ⟨rfl, hother,
          (selectorLeft_of_bridge hactive hother).trans (setActive_none_eq hactive)⟩))
    · rw [eq_otherPort hq] at hactive ⊢
      exact .inr (.inl ⟨rfl, selectorLeft_of_standby hactive⟩)

theorem selectorLeft_keeps_path (p : PortId) (s : State) :
    Keeps [.ring, .sched, .regs, .selector, .deliverer, .status, .link, .clock, .talkSeen] s (selectorLeft p s) := by
  rcases selectorLeft_cases p s with ⟨-, h⟩ | ⟨-, h⟩ | ⟨hactive, -, h⟩ | ⟨-, -, h⟩ <;> rw [h]
  · exact Keeps.refl _ s
  · exact (clearClean_keeps s).mono (by decide)
  · exact (setActive_switched hactive).keeps.mono (by decide)
  · exact ((deselected_keeps s).mono (by decide)).next (linkDeactivated_keeps_bridge _) (by decide)

theorem selectorLeft_later (p : PortId) (s : State) : RingLater 3 s.ring (selectorLeft p s).ring := by
  rcases selectorLeft_cases p s with ⟨-, h⟩ | ⟨-, h⟩ | ⟨hactive, -, h⟩ | ⟨-, -, h⟩ <;> rw [h]
  · exact (RingLater.refl _).mono (by omega)
  · exact (RingLater.refl _).mono (by omega)
  · rw [(setActive_switched hactive).ring]
    exact (flushSwitchover_later s).mono (by omega)
  · have hflushed := flushSwitchover_later s
    have hring : (flushSwitchover s).ring = (deselected s).ring := (deselected_ring s).symm
    rw [hring] at hflushed
    exact hflushed.trans (linkDeactivated_later _)

theorem selectorLeft_ring_of_standby {p : PortId} (h : s.selector.active ≠ some p) :
    (selectorLeft p s).ring = s.ring := by
  rcases selectorLeft_cases p s with ⟨-, h'⟩ | ⟨-, h'⟩ | ⟨hactive, -⟩ | ⟨hactive, -⟩
  · rw [h']
  · rw [h']
    rfl
  · exact absurd hactive h
  · exact absurd hactive h

/-! ## Light lost and light back (R95) -/

/-- A port whose light is lost. -/
def darkened (v : Port) : Port :=
  { v with
    los := true, state := .dark, marginal := false, huntRun := 0, failRun := 0, badNow := 0, badLast := 0,
    buffer := List.replicate 8 none, goodNow := false, lockedWhole := false }

theorem losAsserted_of_dark {p : PortId} (h : (s.port p).state = .dark) :
    losAsserted p s = s.setPort p (darkened (s.port p)) := by
  simp only [losAsserted, h, darkened]

theorem losAsserted_of_hunting {p : PortId} (h : (s.port p).state = .hunting) :
    losAsserted p s = portMoved p (darkened (s.port p)) s := by
  simp only [losAsserted, h, darkened, portMoved]

theorem losAsserted_of_locked {p : PortId} (h : (s.port p).state = .locked) :
    losAsserted p s = selectorLeft p (portMoved p (darkened (s.port p)) s) := by
  simp only [losAsserted, h, darkened, portMoved]

theorem losAsserted_port (p : PortId) (s : State) : (losAsserted p s).port p = darkened (s.port p) ∧
    (losAsserted p s).port (otherPort p) = s.port (otherPort p) := by
  obtain ⟨hport, hother⟩ := portMoved_port p (darkened (s.port p)) s
  cases hstate : (s.port p).state with
  | dark =>
    rw [losAsserted_of_dark hstate]
    exact ⟨State.setPort_port_same .., setPort_port_other ..⟩
  | hunting =>
    rw [losAsserted_of_hunting hstate]
    exact ⟨hport, hother⟩
  | locked =>
    have hleft := fun q => (selectorLeft_keeps_path p (portMoved p (darkened (s.port p)) s)).port q (by decide) (by decide)
    rw [losAsserted_of_locked hstate]
    exact ⟨(hleft _).trans hport, (hleft _).trans hother⟩

/-- A port whose light is back. -/
def lit (v : Port) : Port :=
  { v with los := false, state := .hunting, huntRun := 0, lastGood := none, goodNow := false }

theorem losDeasserted_of_dark {p : PortId} (h : (s.port p).state = .dark) :
    losDeasserted p s = portMoved p (lit (s.port p)) s := by
  simp only [losDeasserted, h, lit, portMoved]

theorem losDeasserted_of_lit {p : PortId} (h : (s.port p).state ≠ .dark) :
    losDeasserted p s = s.setPort p { s.port p with los := false } := by
  cases hstate : (s.port p).state
  · exact absurd hstate h
  · simp only [losDeasserted, hstate]
  · simp only [losDeasserted, hstate]

/-- Settles O43. -/
theorem portLight : Obligations.PortLight := by
  unfold Obligations.PortLight
  intro p s v
  refine ⟨⟨_, rfl, (losAsserted_acts p s).regsKept, (losAsserted_port p s).1, (losAsserted_port p s).2, fun h => ?dark,
    fun h => ?hunting, fun h => ?locked⟩, _, rfl, (losDeasserted_acts p s).regsKept, ?other, fun h => ?back,
    fun h => ?lit⟩
  case dark =>
    rw [losAsserted_of_dark h]
    exact setPort_keeps s p _
  case hunting =>
    rw [losAsserted_of_hunting h]
    exact ⟨portMoved_keeps _ _ _, portMoved_ring .., (portMoved_told ..).1, portMoved_change ..⟩
  case locked =>
    rw [losAsserted_of_locked h]
    obtain ⟨hnoticed, hchanged⟩ := portMoved_told p (darkened v) s
    have hregs := (selectorLeft_acts p (portMoved p (darkened v) s)).regsKept
    have hmoved := portMoved_keeps p (darkened v) s
    have hring := portMoved_ring p (darkened v) s
    have hactive : (portMoved p (darkened v) s).selector.active = s.selector.active :=
      congrArg Selector.active (hmoved.part .selector (by decide))
    refine ⟨(hmoved.mono (by decide)).next (selectorLeft_keeps_path _ _) (by decide), noticed_of_regsKept hnoticed hregs,
      changed_of_regsKept hchanged hregs, fun hstandby => ?_, fun hspace hlength => ?_⟩
    · exact (selectorLeft_ring_of_standby (by rwa [hactive])).trans hring
    · have hlater := selectorLeft_later p (portMoved p (darkened v) s)
      rw [hring] at hlater
      exact hlater.record (by omega) hspace hlength
  case other =>
    by_cases h : v.state = .dark
    · rw [losDeasserted_of_dark h]
      exact (portMoved_port ..).2
    · rw [losDeasserted_of_lit h]
      exact setPort_port_other ..
  case back =>
    rw [losDeasserted_of_dark h]
    exact ⟨(portMoved_port ..).1, portMoved_keeps _ _ _, portMoved_ring .., (portMoved_told ..).1, portMoved_change ..⟩
  case lit =>
    rw [losDeasserted_of_lit h]
    exact ⟨State.setPort_port_same .., setPort_keeps s p _⟩

/-! ## A port leaves LOCKED (R95, R97) -/

/-- A LOCKED port's failed frame time, counted. -/
def failed (v : Port) : Port :=
  { v with failRun := min 16 (v.failRun + 1), badNow := v.badNow + 1, badTotal := satSucc v.badTotal, goodNow := false }

/-- A port back in HUNTING. -/
def unlocked (v : Port) : Port :=
  { v with state := .hunting, huntRun := 0, lastGood := none, marginal := false, lockedWhole := false }

theorem setPort_setPort (s : State) (p : PortId) (v w : Port) : (s.setPort p v).setPort p w = s.setPort p w := by
  cases p <;> rfl

theorem failFrameTime_of_short {p : PortId} (h : (s.port p).failRun < 15) :
    failFrameTime p s = s.setPort p (failed (s.port p)) := if_neg (by omega)

theorem failFrameTime_of_16th {p : PortId} (h : 15 ≤ (s.port p).failRun) :
    failFrameTime p s = selectorLeft p (portMoved p (unlocked (failed (s.port p))) s) := by
  have hmoved : unlockPort p (s.setPort p (failed (s.port p))) =
      selectorLeft p (portMoved p (unlocked (failed (s.port p))) s) := by
    rw [unlockPort, State.setPort_port_same, setPort_setPort]
    rfl
  rw [← hmoved]
  exact if_pos (by omega)

theorem judgeUnlock_of_16th {p : PortId} (hlocked : (s.port p).state = .locked) (hbad : (s.port p).goodNow = false)
    (hrun : 15 ≤ (s.port p).failRun) :
    judgeUnlock p s = selectorLeft p (portMoved p (unlocked (failed (s.port p))) s) := by
  rw [← failFrameTime_of_16th hrun]
  exact if_pos ⟨hlocked, hbad, hrun⟩

/-- The port a command leaves that takes it out of LOCKED. -/
def leftPort (c : Instr) (p : PortId) (v : Port) : Port :=
  if c = .losAssert p then darkened v else unlocked (failed v)

theorem leftPort_los (p : PortId) (v : Port) : leftPort (.losAssert p) p v = darkened v := if_pos rfl

theorem leftPort_unlock (p : PortId) (v : Port) : leftPort (.portUnlock p) p v = unlocked (failed v) :=
  if_neg (by simp)

theorem exec_left {c : Instr} {p : PortId} (hlocked : (s.port p).state = .locked)
    (hc : c = .losAssert p ∨ (c = .portUnlock p ∧ (s.port p).goodNow = false ∧ 15 ≤ (s.port p).failRun)) :
    exec c s = .next (selectorLeft p (portMoved p (leftPort c p (s.port p)) s)) := by
  rcases hc with rfl | ⟨rfl, hbad, hrun⟩
  · rw [leftPort_los]
    exact congrArg Host.Outcome.next (losAsserted_of_locked hlocked)
  · rw [leftPort_unlock]
    exact congrArg Host.Outcome.next (judgeUnlock_of_16th hlocked hbad hrun)

theorem leftPort_code (c : Instr) (p : PortId) (v : Port) :
    (portCode (leftPort c p v)).setWidth 32 = if c = .losAssert p then 0#32 else 1#32 := by
  unfold leftPort
  split <;> rfl

/-- Settles O46: a port that leaves LOCKED is one move of the port, and then one of the selector's four answers. -/
theorem selectorMoves : Obligations.SelectorMoves := by
  unfold Obligations.SelectorMoves
  intro c p s hlocked hc left flushed
  have hexec := exec_left hlocked hc
  generalize hx : portMoved p (leftPort c p (s.port p)) s = x at hexec
  have hmoved : Keeps [.portA, .portB, .ring, .sched, .regs] s x := hx ▸ portMoved_keeps _ _ _
  obtain ⟨hport, hother⟩ : x.port p = leftPort c p (s.port p) ∧ x.port (otherPort p) = s.port (otherPort p) :=
    hx ▸ portMoved_port ..
  obtain ⟨hnoticed, hchanged⟩ : noticed .link x ∧ changed (portChange p) x := hx ▸ portMoved_told ..
  have hxRegs : RegsKept s x :=
    hx ▸ (RegsKept.of_regs (setPort_keeps_regs p _ s)).trans (Beside.portChanged p _).regs
  have hring : x.ring = left := by
    rw [← hx, portMoved_ring, leftPort_code]
    rfl
  have hrole : x.role = s.role := hmoved.part .role (by decide)
  have hcount : x.superframe = s.superframe := hmoved.part .superframe (by decide)
  have hdeliverer : x.deliverer = s.deliverer := hmoved.part .deliverer (by decide)
  have hselector : x.selector = s.selector := hmoved.part .selector (by decide)
  have hlink : x.link = s.link := hmoved.part .link (by decide)
  have hclock : x.clock = s.clock := hmoved.part .clock (by decide)
  have hstatus : x.status = s.status := hmoved.part .status (by decide)
  have hflushed : flushedRing x = flushed := by
    cases hpending : s.deliverer.switchover with
    | none =>
      rw [flushedRing_of_none (hdeliverer ▸ hpending), hring]
      simp [flushed, hpending]
    | some ports =>
      obtain ⟨src, dst⟩ := ports
      rw [flushedRing_of_some (s := x) (hdeliverer ▸ hpending), hdeliverer]
      simp only [flushed, hpending]
      exact ringWith_congr hring hrole hcount
  have hleft := selectorLeft_keeps_path p x
  have hregs := (selectorLeft_acts p x).regsKept
  refine ⟨_, hexec, (hleft.port _ (by decide) (by decide)).trans hother, hxRegs.trans hregs,
    noticed_of_regsKept hnoticed hregs, changed_of_regsKept hchanged hregs, (hmoved.mono (by decide)).next hleft (by decide),
    fun hunlock => ?unlock, fun hnone => ?quiet, fun hstandby => ?standby, fun hactive hlock => ?switch,
    fun hactive hlock => ?bridge⟩
  case unlock =>
    have hv : (selectorLeft p x).port p = unlocked (failed (s.port p)) := by
      rw [hleft.port p (by decide) (by decide), hport, hunlock, leftPort_unlock]
    rw [hv]
    exact ⟨rfl, rfl, rfl, rfl, rfl, rfl, rfl⟩
  case quiet =>
    rw [selectorLeft_of_none p (hselector ▸ hnone)]
    exact ⟨hselector, hlink, hdeliverer, hring⟩
  case standby =>
    rw [selectorLeft_of_standby (hselector ▸ hstandby)]
    refine ⟨?_, hlink, hdeliverer, hring⟩
    rw [clearClean, hselector]
    rfl
  case switch =>
    have hactive' : x.selector.active = some p := hselector ▸ hactive
    obtain ⟨hkeeps, hsel, hring', hstatus', hdel, htold, -⟩ := setActive_switched (q := otherPort p) hactive'
    rw [selectorLeft_of_switch hactive' (hother ▸ hlock)]
    refine ⟨hsel, (hkeeps.part .link (by decide)).trans hlink, hring'.trans hflushed, ?_, ?_, htold⟩
    · rw [hstatus', hstatus]
    · rw [hdel, hdeliverer]
  case bridge =>
    have hactive' : x.selector.active = some p := hselector ▸ hactive
    have hd := deselected_keeps x
    have hdLink : (deselected x).link = s.link := (deselected_link x).trans hlink
    have hdRing : (deselected x).ring = flushed := (deselected_ring x).trans hflushed
    have hdClock : (deselected x).clock = s.clock := (hd.part .clock (by decide)).trans hclock
    have hdRole : (deselected x).role = s.role := (hd.part .role (by decide)).trans hrole
    have hdSwitchover : (deselected x).deliverer.switchover = none := by rw [deselected_deliverer]
    have hbridge := linkDeactivated_keeps_bridge (deselected x)
    rw [selectorLeft_of_bridge hactive' (hother ▸ hlock), setActive_none_eq hactive']
    refine ⟨(hbridge.part .selector (by decide)).trans (deselected_selector x), ?_, ?_,
      changed_of_regsKept (deselected_told x) (linkDeactivated_acts _).regsKept, fun hup => ?_, fun h1 h2 => ?_⟩
    · by_cases hup : s.link.state = .connecting ∨ s.link.state = .linked
      · rw [linkDeactivated_of_up (hdLink ▸ hup), (changeLink_bridged (hdLink ▸ hup)).switchover, hdSwitchover]
      · rw [linkDeactivated_of_idle (hdLink ▸ not_or.1 hup), hdSwitchover]
    · rw [hbridge.part .status (by decide), hd.part .status (by decide), hstatus]
    · obtain ⟨hkeeps, hblink, -, hbring, -, htold, hstage, hdesk, -⟩ := changeLink_bridged (s := deselected x) (hdLink ▸ hup)
      rw [linkDeactivated_of_up (hdLink ▸ hup)]
      rw [hdLink] at hblink hbring hdesk
      rw [hdRole, hdClock] at hbring hstage
      rw [hdRole] at hdesk
      refine ⟨hblink, htold, fun hopen => (hbring hopen).trans ?_, hstage, hdesk⟩
      have hdetail : linkDetail s.link.state .bridging =
          if s.link.state = .connecting then 0x00000301#32 else 0x00000302#32 := by
        rcases hup with h | h <;> rw [h] <;> rfl
      rw [hdetail]
      exact ringWith_congr hdRing hdRole ((hd.part .superframe (by decide)).trans hcount)
    · rw [linkDeactivated_of_idle (hdLink ▸ ⟨h1, h2⟩)]
      exact ⟨hdLink, hdClock, hdRing⟩

end Sys2Proof.Machine
end


section
/-! A frame that completes on a port (R93, R96, R99, R117, R130, R131): filed and compared, or the one that locks the
port (R112, R116, R123, R127). -/

namespace Sys2Proof.Machine

variable {s t u : State}

/-! ## Filing a frame (R93, R96, R99) -/

theorem receiveFrame_of_dark {p : PortId} (h : (s.port p).state = .dark) (bytes : List Byte) (phase : Nat) :
    receiveFrame p bytes phase s = s := if_pos h

theorem receiveFrame_of_bad {bytes : List Byte} (h : checkFrame s.role bytes = none) (p : PortId) (phase : Nat) :
    receiveFrame p bytes phase s = s := by
  unfold receiveFrame
  split
  · rfl
  · rw [h]

/-- The hunt run and the last good tag a frame leaves. -/
theorem fileFrame_eq (f : RxFrame) (v : Port) (h : v.state ≠ .dark) : fileFrame f v = { v with
    buffer := v.buffer.set (f.tag % 8) (some f), newest := some f.tag, goodNow := true,
    huntRun := if v.state = .locked then v.huntRun else huntAfter v f.tag,
    lastGood := if v.state = .locked then v.lastGood else some f.tag } := by
  unfold fileFrame
  dsimp only
  cases hstate : v.state with
  | dark => exact absurd hstate h
  | hunting => simp [huntAfter]
  | locked => simp

theorem fileFrame_state (f : RxFrame) (v : Port) : (fileFrame f v).state = v.state := by
  unfold fileFrame
  dsimp only
  split <;> rfl

theorem huntAfter_eq (v : Port) (tag : Nat) : huntAfter v tag =
    if v.lastGood.any (fun l => tag == (l + 1) % 12288) then min 3 (v.huntRun + 1) else 1 := by
  unfold huntAfter
  cases hlast : v.lastGood with
  | none => rfl
  | some l =>
    by_cases htag : tag = (l + 1) % 12288
    · simp [nextTag, tagCount, ← htag]
    · simp [nextTag, tagCount, htag]

/-- The state once the frame is filed, and on the active port compared and taken by the clock. -/
def framed (p : PortId) (f : RxFrame) (phase : Nat) (s : State) : State :=
  if s.selector.active = some p then
    clockArrival p f.tag phase (adjustCursor f.tag (s.setPort p (fileFrame f (s.port p))))
  else s.setPort p (fileFrame f (s.port p))

theorem framed_keeps (p : PortId) (f : RxFrame) (phase : Nat) (s : State) :
    Keeps [.deliverer, .clock] (s.setPort p (fileFrame f (s.port p))) (framed p f phase s) := by
  unfold framed
  split
  · exact ((adjustCursor_keeps _ _).mono (by decide)).next (clockArrival_keeps _ _ _ _) (by decide)
  · exact Keeps.refl _ _

theorem framed_port (p : PortId) (f : RxFrame) (phase : Nat) (s : State) :
    (framed p f phase s).port p = fileFrame f (s.port p) ∧
      (framed p f phase s).port (otherPort p) = s.port (otherPort p) := by
  have hsame := fun q => (framed_keeps p f phase s).port q (by decide) (by decide)
  exact ⟨(hsame p).trans (State.setPort_port_same ..), (hsame _).trans (setPort_port_other ..)⟩

theorem setPort_active (p : PortId) (v : Port) (s : State) : (s.setPort p v).selector = s.selector :=
  (setPort_keeps s p v).part .selector (by decide)

theorem receiveFrame_eq {p : PortId} {bytes : List Byte} {f : RxFrame} (hstate : (s.port p).state ≠ .dark)
    (hf : checkFrame s.role bytes = some f) (phase : Nat) : receiveFrame p bytes phase s =
      if (s.port p).state = .hunting ∧ 3 ≤ huntAfter (s.port p) f.tag then lockPort p (framed p f phase s)
      else framed p f phase s := by
  have hcondition : ((framed p f phase s).port p).state = .hunting ∧ 3 ≤ ((framed p f phase s).port p).huntRun ↔
      (s.port p).state = .hunting ∧ 3 ≤ huntAfter (s.port p) f.tag := by
    rw [(framed_port p f phase s).1, fileFrame_state]
    refine and_congr_right fun hhunting => ?_
    rw [fileFrame_eq f _ hstate, if_neg (by simp [hhunting])]
  rw [← if_congr hcondition rfl rfl]
  unfold receiveFrame framed
  rw [if_neg hstate, hf]
  simp only [setPort_active]

/-! ## The comparison with the cursor (R117) -/

theorem adjustCursor_deliverer (newest : Nat) (s : State) :
    let ahead := tagAhead newest s.deliverer.cursor
    (1 ≤ ahead → ahead ≤ 7 → (adjustCursor newest s).deliverer = s.deliverer) ∧
      (8 ≤ ahead → ahead ≤ 12284 →
        (adjustCursor newest s).deliverer = { s.deliverer with cursor := (newest + 12284) % 12288, hold := 0 }) ∧
      (ahead = 0 → (adjustCursor newest s).deliverer = { s.deliverer with hold := 4 }) ∧
      (12285 ≤ ahead →
        (adjustCursor newest s).deliverer = { s.deliverer with hold := min 7 (4 + (12288 - ahead)) }) := by
  intro ahead
  have hbound : ahead < 12288 := Nat.mod_lt _ (by decide)
  unfold adjustCursor
  dsimp only
  change _ ∧ _
  rw [show tagAhead newest s.deliverer.cursor = ahead from rfl]
  refine ⟨fun h1 h2 => ?_, fun h1 h2 => ?_, fun h => ?_, fun h => ?_⟩
  · rw [if_pos ⟨h1, h2⟩]
  · rw [if_neg (by omega)]
    by_cases hnear : ahead ≤ 6143
    · rw [if_pos ⟨h1, hnear⟩]
      rfl
    · rw [if_neg (by omega), if_neg (by omega)]
      rfl
  · rw [if_neg (by omega), if_neg (by omega), if_pos (.inl h), h]
    rfl
  · have hhold : (tagCount - ahead) % tagCount = 12288 - ahead := Nat.mod_eq_of_lt (Nat.sub_lt (by decide) (by omega))
    rw [if_neg (by omega), if_neg (by omega), if_pos (.inr h), hhold]
    rfl

/-! ## The clock at an arrival (R130, R131) -/

theorem clockArrival_of_idle (h : ¬ (s.role = .stage ∧ s.clock.state = .locked)) (p : PortId) (tag phase : Nat) :
    clockArrival p tag phase s = s := if_neg h

theorem realign_eq (phase : Nat) (c : Clock) :
    let ideal : Rat := if phase < 256 then c.period else phase
    realign phase c = { c with
      realignPending := false, measFrames := 0, measCycles := 0,
      cut := if phase = 0 then .whole else if phase < 256 then .repeated phase else .skipped phase,
      ideal := ideal, frameLen := ideal.ceil.toNat } := by
  intro ideal
  unfold realign
  dsimp only
  by_cases hzero : phase = 0
  · subst hzero
    rfl
  · by_cases hshort : phase < 256
    · simp only [ideal, if_neg hzero, if_pos hshort, idealFrame]
    · simp only [ideal, if_neg hzero, if_neg hshort, fixedFrame]
      rfl

theorem clockArrival_of_pending (hrole : s.role = .stage) (hlocked : s.clock.state = .locked)
    (hpending : s.clock.realignPending = true) (p : PortId) (tag phase : Nat) :
    (clockArrival p tag phase s).clock = { realign phase s.clock with
      lastArrival := some { port := p, tag := tag, moment := if phase < 256 then 0 else phase } } := by
  simp only [clockArrival, hrole, hlocked, hpending, and_self, if_true, true_and]
  by_cases hshort : phase < 256
  · simp only [if_pos hshort]
    rfl
  · simp only [if_neg hshort]
    rfl

theorem clockArrival_of_measured (hrole : s.role = .stage) (hlocked : s.clock.state = .locked)
    (hpending : s.clock.realignPending = false) (p : PortId) (tag phase : Nat) :
    (clockArrival p tag phase s).clock = { measurePeriod p tag phase s.clock with
      lastArrival := some { port := p, tag := tag, moment := phase } } := by
  simp only [clockArrival, hrole, hlocked, hpending, and_self, if_true, Bool.false_eq_true, false_and, if_false]
  rfl

theorem measurePeriod_of_next {p : PortId} {tag phase : Nat} {c : Clock} {a : Arrival} (h : c.lastArrival = some a)
    (hport : a.port = p) (htag : tag = (a.tag + 1) % 12288) : measurePeriod p tag phase c = { c with
      period := Config.measuredPeriod c.spacings c.period (phase - a.moment), spacings := c.spacings + 1 } := by
  simp only [measurePeriod, h]
  exact if_pos ⟨hport, htag⟩

theorem measurePeriod_of_other {p : PortId} {tag phase : Nat} {c : Clock}
    (h : ∀ a, c.lastArrival = some a → a.port ≠ p ∨ tag ≠ (a.tag + 1) % 12288) : measurePeriod p tag phase c = c := by
  unfold measurePeriod
  split
  next a ha => exact if_neg fun hsame => (h a ha).elim (absurd hsame.1) (absurd hsame.2)
  next => rfl

/-- Settles O44. -/
theorem arrivalFiled : Obligations.ArrivalFiled := by
  unfold Obligations.ArrivalFiled
  intro p bytes phase s v c
  refine ⟨fun h => congrArg Host.Outcome.next ?dropped, ?filed⟩
  case dropped =>
    exact h.elim (fun h => receiveFrame_of_dark h bytes phase) (fun h => receiveFrame_of_bad h p phase)
  intro f hf hstate next run ahead hquiet
  have hrun : huntAfter v f.tag = run := huntAfter_eq v f.tag
  have hexec : exec c s = .next (framed p f phase s) := by
    refine congrArg Host.Outcome.next ((receiveFrame_eq hstate hf phase).trans (if_neg ?_))
    rw [hrun]
    rintro ⟨hhunting, hthree⟩
    rcases hquiet with hlocked | hshort
    · exact absurd (hhunting.symm.trans hlocked) (by decide)
    · omega
  have hset := setPort_keeps s p (fileFrame f (s.port p))
  have hkeeps := framed_keeps p f phase s
  obtain ⟨hport, hother⟩ := framed_port p f phase s
  refine ⟨_, hexec, (hset.mono (by decide)).next hkeeps (by decide), hother, ?_, fun hstandby => ?_, fun hactive => ?_⟩
  · rw [hport, fileFrame_eq f _ hstate, ← hrun]
  · rw [framed, if_neg hstandby]
    exact ⟨hset.part .deliverer (by decide), hset.part .clock (by decide)⟩
  · have hframed : framed p f phase s =
        clockArrival p f.tag phase (adjustCursor f.tag (s.setPort p (fileFrame f (s.port p)))) := if_pos hactive
    generalize hu : s.setPort p (fileFrame f (s.port p)) = u at hset hframed
    have hclock : (adjustCursor f.tag u).clock = s.clock :=
      ((adjustCursor_keeps _ u).part .clock (by decide)).trans (hset.part .clock (by decide))
    have hrole : (adjustCursor f.tag u).role = s.role :=
      ((adjustCursor_keeps _ u).part .role (by decide)).trans (hset.part .role (by decide))
    have hdeliverer : (framed p f phase s).deliverer = (adjustCursor f.tag u).deliverer := by
      rw [hframed, (clockArrival_keeps _ _ _ _).part .deliverer (by decide)]
    obtain ⟨hnear, hfar, hlevel, hpast⟩ := adjustCursor_deliverer f.tag u
    rw [hset.part .deliverer (by decide), ← hdeliverer] at hnear hfar hlevel hpast
    refine ⟨hnear, hfar, hlevel, hpast, fun hstage hlocked hpending => ?_, fun hstage hlocked hpending => ⟨?_, ?_⟩,
      fun hidle => ?_⟩
    · rw [hframed, clockArrival_of_pending (hrole.trans hstage) (hclock ▸ hlocked) (hclock ▸ hpending), hclock, realign_eq]
    · intro a ha hsame hnext
      rw [hframed, clockArrival_of_measured (hrole.trans hstage) (hclock ▸ hlocked) (hclock ▸ hpending), hclock,
        measurePeriod_of_next ha hsame hnext]
    · intro hno
      rw [hframed, clockArrival_of_measured (hrole.trans hstage) (hclock ▸ hlocked) (hclock ▸ hpending), hclock,
        measurePeriod_of_other hno]
    · rw [hframed, clockArrival_of_idle (by rwa [hrole, hclock]), hclock]

/-! ## A link that comes up again (R123, R127) -/

/-- Outside CONNECTING and LINKED no event but LINK_STATE is written. -/
theorem changeLink_ring_idle {new : LinkState} (h : s.link.state ≠ .connecting ∧ s.link.state ≠ .linked) :
    (changeLink new s).ring = ringWith .linkState 0 (linkDetail s.link.state new) s := by
  cases hrole : s.role
  · exact changeLink_ring_desk hrole fun hjoin => h.1 hjoin.1
  · exact changeLink_ring_stage hrole (.inl h)

theorem linkDesk_keeps_idle {old : LinkState} (h : old ≠ .connecting ∧ old ≠ .linked) (new : LinkState) (t : State) :
    Keeps [.desk] t (linkDesk old new t) := by
  obtain ⟨hconnecting, hlinked⟩ := h
  unfold linkDesk
  dsimp only
  rw [if_neg hlinked, if_neg fun hjoin => hconnecting hjoin.1]
  split
  · exact returnInFlight_keeps_desk t
  · exact Keeps.refl _ t

theorem changeLink_keeps_idle {new : LinkState} (h : s.link.state ≠ .connecting ∧ s.link.state ≠ .linked) :
    Keeps [.deliverer, .link, .clock, .island, .desk, .output, .ring, .sched, .regs] s (changeLink new s) := by
  have hbase := linkBase_keeps new s
  cases hrole : s.role
  · rw [changeLink_of_desk hrole]
    exact (hbase.mono (by decide)).next (linkDesk_keeps_idle h _ _) (by decide)
  · rw [changeLink_of_stage hrole]
    exact (hbase.mono (by decide)).next (linkStage_keeps _ _ _) (by decide)

theorem silenced_cursor (new : LinkState) (d : Deliverer) :
    (silenced new d).cursor = d.cursor ∧ (silenced new d).hold = d.hold := by
  unfold silenced
  split <;> exact ⟨rfl, rfl⟩

theorem changeLink_cursor (new : LinkState) (s : State) :
    (changeLink new s).deliverer.cursor = s.deliverer.cursor ∧
      (changeLink new s).deliverer.hold = s.deliverer.hold := by
  cases hrole : s.role
  · rw [changeLink_deliverer_desk hrole]
    exact silenced_cursor new _
  · rw [changeLink_deliverer_stage hrole]
    exact silenced_cursor new _

theorem stageBase_sched {old : LinkState} (h : old ≠ .linked) (new : LinkState) (t : State) :
    (stageBase old new t).sched = t.sched := by
  unfold stageBase
  dsimp only
  rw [if_neg h]
  split_ifs <;> rfl

/-- A link that enters CONNECTING owes a HELLO. -/
theorem changeLink_helloDue (h : s.link.state ≠ .connecting ∧ s.link.state ≠ .linked) :
    (changeLink .connecting s).sched.helloDue = true := by
  cases hrole : s.role
  · rw [changeLink_of_desk hrole, (linkDesk_keeps_idle h _ _).part .sched (by decide), linkBase_helloDue]
  · rw [changeLink_up_stage hrole (.inl rfl), (enterLocked_keeps_clock _).part .sched (by decide),
      stageBase_sched h.2, linkBase_helloDue]

theorem bridgingExpiry_of_early (h : ¬ (s.link.state = .bridging ∧ 48 ≤ s.link.bridging)) : bridgingExpiry s = s :=
  if_neg h

theorem linkActivated_of_up (h : s.link.state = .connecting ∨ s.link.state = .linked) : linkActivated s = s := by
  have hearly : bridgingExpiry s = s := bridgingExpiry_of_early fun hb => by rcases h with h | h <;> simp [h] at hb
  unfold linkActivated
  rw [hearly]
  rcases h with h | h <;> simp only [h]

theorem linkActivated_of_silent (h : s.link.state = .down ∨ s.link.state = .lost) :
    linkActivated s = changeLink .connecting s := by
  have hearly : bridgingExpiry s = s := bridgingExpiry_of_early fun hb => by rcases h with h | h <;> simp [h] at hb
  unfold linkActivated
  rw [hearly]
  rcases h with h | h <;> simp only [h]

theorem linkActivated_of_bridging (h : s.link.state = .bridging) (hshort : s.link.bridging < 48) :
    linkActivated s = changeLink (s.link.returnTo.getD .connecting) s := by
  have hearly : bridgingExpiry s = s := bridgingExpiry_of_early fun hb => absurd hb.2 (not_le.2 hshort)
  unfold linkActivated
  rw [hearly]
  simp only [h]

theorem linkActivated_of_ended (h : s.link.state = .bridging) (hended : 48 ≤ s.link.bridging) :
    linkActivated s = changeLink .connecting (changeLink .lost s) := by
  have hlost : bridgingExpiry s = changeLink .lost s := if_pos ⟨h, hended⟩
  have hstate : (changeLink .lost s).link.state = .lost := by rw [changeLink_link, linkAfter_state]
  unfold linkActivated
  rw [hlost]
  simp only [hstate]

/-- What happens to the link where a port becomes active. -/
theorem linkActivated_cases (s : State) :
    ((s.link.state = .connecting ∨ s.link.state = .linked) ∧ linkActivated s = s) ∨
      ((s.link.state ≠ .connecting ∧ s.link.state ≠ .linked) ∧
        ((∃ new, linkActivated s = changeLink new s) ∨
          linkActivated s = changeLink .connecting (changeLink .lost s))) := by
  by_cases hup : s.link.state = .connecting ∨ s.link.state = .linked
  · exact .inl ⟨hup, linkActivated_of_up hup⟩
  · refine .inr ⟨not_or.1 hup, ?_⟩
    cases hstate : s.link.state with
    | down => exact .inl ⟨_, linkActivated_of_silent (.inl hstate)⟩
    | lost => exact .inl ⟨_, linkActivated_of_silent (.inr hstate)⟩
    | connecting => exact absurd (.inl hstate) hup
    | linked => exact absurd (.inr hstate) hup
    | bridging =>
      by_cases hended : 48 ≤ s.link.bridging
      · exact .inr (linkActivated_of_ended hstate hended)
      · exact .inl ⟨_, linkActivated_of_bridging hstate (not_le.1 hended)⟩

theorem lost_idle (s : State) :
    (changeLink .lost s).link.state ≠ .connecting ∧ (changeLink .lost s).link.state ≠ .linked := by
  simp

theorem linkActivated_keeps_idle (s : State) :
    Keeps [.deliverer, .link, .clock, .island, .desk, .output, .ring, .sched, .regs] s (linkActivated s) := by
  rcases linkActivated_cases s with ⟨-, h⟩ | ⟨hidle, ⟨new, h⟩ | h⟩ <;> rw [h]
  · exact Keeps.refl _ s
  · exact changeLink_keeps_idle hidle
  · exact (changeLink_keeps_idle hidle).next (changeLink_keeps_idle (lost_idle s)) (by decide)

theorem linkActivated_cursor (s : State) : (linkActivated s).deliverer.cursor = s.deliverer.cursor ∧
    (linkActivated s).deliverer.hold = s.deliverer.hold := by
  rcases linkActivated_cases s with ⟨-, h⟩ | ⟨-, ⟨new, h⟩ | h⟩ <;> rw [h]
  · exact ⟨rfl, rfl⟩
  · exact changeLink_cursor new s
  · obtain ⟨hcursor, hhold⟩ := changeLink_cursor .lost s
    obtain ⟨hcursor', hhold'⟩ := changeLink_cursor .connecting (changeLink .lost s)
    exact ⟨hcursor'.trans hcursor, hhold'.trans hhold⟩

theorem linkActivated_told (h : s.link.state ≠ .connecting ∧ s.link.state ≠ .linked) :
    changed .link (linkActivated s) := by
  rcases linkActivated_cases s with ⟨hup, -⟩ | ⟨-, ⟨new, h'⟩ | h'⟩
  · exact absurd hup (not_or.2 h)
  · rw [h']
    exact (changeLink_told new s).2
  · rw [h']
    exact (changeLink_told .connecting _).2

theorem linkActivated_of_desk (hrole : s.role = .desk) :
    (linkActivated s).island = s.island ∧ (linkActivated s).clock = s.clock := by
  rcases linkActivated_cases s with ⟨-, h⟩ | ⟨-, ⟨new, h⟩ | h⟩ <;> rw [h]
  · exact ⟨rfl, rfl⟩
  · exact ⟨changeLink_island_desk hrole new, changeLink_clock_desk hrole new⟩
  · have hlost : (changeLink .lost s).role = .desk := ((changeLink_keeps _ s).part .role (by decide)).trans hrole
    exact ⟨(changeLink_island_desk hlost _).trans (changeLink_island_desk hrole _),
      (changeLink_clock_desk hlost _).trans (changeLink_clock_desk hrole _)⟩

/-- A bridge that enters LOST leaves the stage clock alone (R129). -/
theorem changeLink_clock_lost (hrole : s.role = .stage) (hbridging : s.link.state = .bridging) :
    (changeLink .lost s).clock = s.clock := by
  rw [changeLink_lost_stage hrole hbridging, (stageBase_keeps _ _ _).part .clock (by decide),
    (linkBase_keeps _ s).part .clock (by decide)]

/-- The stage clock where a port becomes active and the link was down (R129). -/
theorem linkActivated_clock (hrole : s.role = .stage)
    (h : s.link.state = .down ∨ s.link.state = .lost ∨ (s.link.state = .bridging ∧ (48 ≤ s.link.bridging ∨
      s.link.returnTo = some .connecting ∨ s.link.returnTo = some .linked))) :
    (linkActivated s).clock =
      if s.clock.state = .locked then s.clock else { s.clock with state := .locked, realignPending := true } := by
  have hsilent : s.link.state = .down ∨ s.link.state = .lost → (linkActivated s).clock =
      if s.clock.state = .locked then s.clock else { s.clock with state := .locked, realignPending := true } := by
    intro h
    rw [linkActivated_of_silent h, changeLink_clock_up hrole (.inl rfl)]
  rcases h with h | h | ⟨hbridging, hreturn⟩
  · exact hsilent (.inl h)
  · exact hsilent (.inr h)
  · by_cases hended : 48 ≤ s.link.bridging
    · have hlost : (changeLink .lost s).role = .stage := ((changeLink_keeps _ s).part .role (by decide)).trans hrole
      rw [linkActivated_of_ended hbridging hended, changeLink_clock_up hlost (.inl rfl),
        changeLink_clock_lost hrole hbridging]
    · rw [linkActivated_of_bridging hbridging (not_le.1 hended)]
      refine changeLink_clock_up hrole ?_
      rcases hreturn with h | h | h
      · exact absurd h hended
      · exact .inl (by rw [h]; rfl)
      · exact .inr (by rw [h]; rfl)

/-! ## The port locks and is chosen (R96, R112, R116) -/

/-- A port that has locked on a frame. -/
def lockedOn (f : RxFrame) (v : Port) : Port :=
  { v with
    buffer := v.buffer.set (f.tag % 8) (some f), newest := some f.tag, goodNow := true, huntRun := 3,
    lastGood := some f.tag, state := .locked, failRun := 0, badNow := 0, badLast := 0, marginal := false,
    lockedWhole := false }

/-- The arrival brings the hunt run to 3. -/
structure Locking (p : PortId) (bytes : List Byte) (f : RxFrame) (s : State) : Prop where
  hunting : (s.port p).state = .hunting
  good : checkFrame s.role bytes = some f
  run : huntAfter (s.port p) f.tag = 3

theorem Locking.of_next {p : PortId} {bytes : List Byte} {f : RxFrame} {l : Nat} (hhunting : (s.port p).state = .hunting)
    (hf : checkFrame s.role bytes = some f) (hlast : (s.port p).lastGood = some l) (htag : f.tag = (l + 1) % 12288)
    (hrun : 2 ≤ (s.port p).huntRun) : Locking p bytes f s := by
  refine ⟨hhunting, hf, ?_⟩
  rw [huntAfter_eq, hlast, if_pos (by simpa using htag)]
  omega

theorem receiveFrame_of_locking {p : PortId} {bytes : List Byte} {f : RxFrame} (h : Locking p bytes f s)
    (hactive : s.selector.active ≠ some p) (phase : Nat) : receiveFrame p bytes phase s =
      selectorEntered p (portMoved p (lockedOn f (s.port p)) s) := by
  obtain ⟨hhunting, hf, hrun⟩ := h
  have hdark : (s.port p).state ≠ .dark := by simp [hhunting]
  rw [receiveFrame_eq hdark hf phase, if_pos ⟨hhunting, hrun.ge⟩, framed, if_neg hactive, lockPort,
    State.setPort_port_same, setPort_setPort, fileFrame_eq f _ hdark, hhunting, hrun]
  rfl

/-- Either row carries it (log 4). -/
theorem exec_locking {p : PortId} {bytes : List Byte} {f : RxFrame} {phase : Nat} {c : Instr} (h : Locking p bytes f s)
    (hc : c = .portLock p bytes phase ∨ c = .frameReceived p bytes phase) :
    exec c s = .next (receiveFrame p bytes phase s) := by
  rcases hc with rfl | rfl
  · refine congrArg Host.Outcome.next (if_pos ?_)
    simp [arrivalLocks, h.hunting, h.good, h.run]
  · rfl

theorem selectorEntered_of_active {p q : PortId} (h : s.selector.active = some q) :
    selectorEntered p s = clearClean s := by
  simp only [selectorEntered, h]

/-- The state in which the link hears of the new active port. -/
def activated (p : PortId) (s : State) : State :=
  anchorCursor ((s.port p).newest.getD 0) (selected (some p) s)

theorem selectorEntered_of_none {p : PortId} (h : s.selector.active = none) :
    selectorEntered p s = linkActivated (activated p s) := by
  have hport : (selected (some p) s).port p = s.port p := (selected_keeps _ s).port p (by decide) (by decide)
  rw [activated, ← hport]
  simp only [selectorEntered, setActive, h, selected]

theorem activated_keeps (p : PortId) (s : State) : Keeps [.selector, .deliverer, .regs] s (activated p s) :=
  ((selected_keeps _ s).mono (by decide)).next (anchorCursor_keeps _ _) (by decide)

theorem activated_cursor {p : PortId} {tag : Nat} (h : (s.port p).newest = some tag) :
    (activated p s).deliverer.cursor = (tag + 12284) % 12288 ∧ (activated p s).deliverer.hold = 0 := by
  rw [activated, h]
  exact ⟨rfl, rfl⟩

theorem activated_selector (p : PortId) (s : State) :
    (activated p s).selector = { active := some p, cleanCount := 0 } := (anchorCursor_keeps _ _).part .selector (by decide)

theorem activated_told (p : PortId) (s : State) : changed .active (activated p s) :=
  changed_of_regsKept (selected_told _ s) (.of_regs ((anchorCursor_keeps _ _).part .regs (by decide)))

/-- The events of a link that comes up again. -/
theorem linkActivated_ring (s : State) :
    (s.link.state = .connecting ∨ s.link.state = .linked → (linkActivated s).ring = s.ring) ∧
      (s.link.state = .down → (linkActivated s).ring = ringWith .linkState 0 0x00000100#32 s) ∧
      (s.link.state = .lost → (linkActivated s).ring = ringWith .linkState 0 0x00000104#32 s) ∧
      (s.link.state = .bridging → 48 ≤ s.link.bridging → (linkActivated s).ring =
        ringWith .linkState 0 0x00000104#32 (s.setRing (ringWith .linkState 0 0x00000403#32 s))) ∧
      (s.link.state = .bridging → s.link.bridging < 48 → (linkActivated s).ring =
        ringWith .linkState 0 (linkDetail .bridging (s.link.returnTo.getD .connecting)) s) := by
  refine ⟨fun h => by rw [linkActivated_of_up h], fun h => ?_, fun h => ?_, fun h hended => ?_, fun h hshort => ?_⟩
  · rw [linkActivated_of_silent (.inl h), changeLink_ring_idle (by simp [h]), h]
    rfl
  · rw [linkActivated_of_silent (.inr h), changeLink_ring_idle (by simp [h]), h]
    rfl
  · have hlost : (changeLink .lost s).ring = ringWith .linkState 0 0x00000403#32 s := by
      rw [changeLink_ring_idle (by simp [h]), h]
      rfl
    have hkeeps := changeLink_keeps .lost s
    rw [linkActivated_of_ended h hended, changeLink_ring_idle (lost_idle s), changeLink_link, linkAfter_state]
    exact ringWith_congr hlost (hkeeps.part .role (by decide)) (hkeeps.part .superframe (by decide))
  · rw [linkActivated_of_bridging h hshort, changeLink_ring_idle (by simp [h]), h]

/-- The link that comes up again. -/
theorem linkActivated_link (s : State) :
    (s.link.state = .connecting ∨ s.link.state = .linked → (linkActivated s).link = s.link) ∧
      (s.link.state = .down ∨ s.link.state = .lost ∨ (s.link.state = .bridging ∧ 48 ≤ s.link.bridging) →
        (linkActivated s).link.state = .connecting ∧ (linkActivated s).link.heard = false ∧
          (linkActivated s).link.roleFault = false ∧ (linkActivated s).sched.helloDue = true) ∧
      (∀ r, s.link.state = .bridging → s.link.bridging < 48 → s.link.returnTo = some r →
        (linkActivated s).link.state = r ∧ (linkActivated s).link.heard = s.link.heard ∧
          (r = .connecting → (linkActivated s).sched.helloDue = true)) := by
  refine ⟨fun h => by rw [linkActivated_of_up h], fun h => ?_, fun r h hshort hreturn => ?_⟩
  · have hsilent : s.link.state = .down ∨ s.link.state = .lost →
        (linkActivated s).link.state = .connecting ∧ (linkActivated s).link.heard = false ∧
          (linkActivated s).link.roleFault = false ∧ (linkActivated s).sched.helloDue = true := by
      intro h
      have hidle : s.link.state ≠ .connecting ∧ s.link.state ≠ .linked := by rcases h with h | h <;> simp [h]
      have hsilence : isSilent s.link.state = true := by rcases h with h | h <;> rw [h] <;> rfl
      rw [linkActivated_of_silent h, changeLink_link]
      exact ⟨rfl, by simp [linkAfter, hsilence], by simp [linkAfter, hsilence], changeLink_helloDue hidle⟩
    rcases h with h | h | ⟨h, hended⟩
    · exact hsilent (.inl h)
    · exact hsilent (.inr h)
    · rw [linkActivated_of_ended h hended, changeLink_link, changeLink_link]
      exact ⟨rfl, by simp [linkAfter, isSilent], by simp [linkAfter, isSilent], changeLink_helloDue (lost_idle s)⟩
  · rw [linkActivated_of_bridging h hshort, changeLink_link, hreturn]
    refine ⟨linkAfter_state .., ?_, ?_⟩
    · cases r <;> simp [linkAfter, h, isSilent]
    · rintro rfl
      exact changeLink_helloDue (by simp [h])

/-- The island where a link leaves DOWN or LOST (R52). -/
theorem linkActivated_island (hrole : s.role = .stage) :
    (s.link.state = .lost → (linkActivated s).island =
        { count := 0, engaged := false, lastElapsed := s.island.count / 1000, lastEngaged := s.island.engaged }) ∧
      (s.link.state ≠ .lost → s.link.state ≠ .bridging → (linkActivated s).island = s.island) := by
  refine ⟨fun h => ?_, fun hlost hbridging => ?_⟩
  · rw [linkActivated_of_silent (.inr h), changeLink_island_stage hrole, h]
    rfl
  · cases h : s.link.state with
    | down =>
      rw [linkActivated_of_silent (.inl h), changeLink_island_stage hrole, h]
      rfl
    | connecting => rw [linkActivated_of_up (.inl h)]
    | linked => rw [linkActivated_of_up (.inr h)]
    | lost => exact absurd h hlost
    | bridging => exact absurd h hbridging

/-- Settles O45: the arrival is one move of the port; with no active port the link hears of it. -/
theorem portLocks : Obligations.PortLocks := by
  unfold Obligations.PortLocks
  intro p bytes phase l f c s hc hhunting hf hlast htag hrun hactive v
  have hlocking : Locking p bytes f s := .of_next hhunting hf hlast htag hrun
  have hexec : exec c s = .next (selectorEntered p (portMoved p (lockedOn f v) s)) := by
    rw [exec_locking hlocking hc, receiveFrame_of_locking hlocking hactive]
  generalize hx : portMoved p (lockedOn f v) s = x at hexec
  have hmoved : Keeps [.portA, .portB, .ring, .sched, .regs] s x := hx ▸ portMoved_keeps _ _ _
  obtain ⟨hport, hother⟩ : x.port p = lockedOn f v ∧ x.port (otherPort p) = s.port (otherPort p) :=
    hx ▸ portMoved_port ..
  obtain ⟨hnoticed, hchanged⟩ : noticed .link x ∧ changed (portChange p) x := hx ▸ portMoved_told ..
  have hxRegs : RegsKept s x :=
    hx ▸ (RegsKept.of_regs (setPort_keeps_regs p _ s)).trans (Beside.portChanged p _).regs
  have hring : x.ring = ringWith .portState (portNumber p) 2 s := by
    rw [← hx, portMoved_ring]
    rfl
  have hrole : x.role = s.role := hmoved.part .role (by decide)
  have hcount : x.superframe = s.superframe := hmoved.part .superframe (by decide)
  have hselector : x.selector = s.selector := hmoved.part .selector (by decide)
  have hlink : x.link = s.link := hmoved.part .link (by decide)
  have hclock : x.clock = s.clock := hmoved.part .clock (by decide)
  have hisland : x.island = s.island := hmoved.part .island (by decide)
  have hentered := selectorEntered_keeps p x
  have hregs := (selectorEntered_acts p x).regsKept
  refine ⟨_, hexec, (hentered.port _ (by decide) (by decide)).trans hother,
    (hentered.port _ (by decide) (by decide)).trans hport, hxRegs.trans hregs, noticed_of_regsKept hnoticed hregs,
    changed_of_regsKept hchanged hregs, fun hsome => ?some, fun hnone => ?none⟩
  case some =>
    obtain ⟨q, hq⟩ := Option.ne_none_iff_exists'.1 hsome
    rw [selectorEntered_of_active (s := x) (hselector ▸ hq)]
    refine ⟨?_, hring, (hmoved.mono (by decide)).next (clearClean_keeps x) (by decide)⟩
    rw [clearClean, hselector]
    rfl
  case none =>
    intro left
    have hy := activated_keeps p x
    have hkeeps := linkActivated_keeps_idle (activated p x)
    have hnone' : x.selector.active = none := hselector ▸ hnone
    have hyLink : (activated p x).link = s.link := (hy.part .link (by decide)).trans hlink
    have hyClock : (activated p x).clock = s.clock := (hy.part .clock (by decide)).trans hclock
    have hyIsland : (activated p x).island = s.island := (hy.part .island (by decide)).trans hisland
    have hyRole : (activated p x).role = s.role := (hy.part .role (by decide)).trans hrole
    have hyRing : (activated p x).ring = left.ring := (hy.part .ring (by decide)).trans hring
    have hyCount : (activated p x).superframe = s.superframe := (hy.part .superframe (by decide)).trans hcount
    obtain ⟨hcursor, hhold⟩ := activated_cursor (p := p) (s := x) (tag := f.tag) (by rw [hport]; rfl)
    obtain ⟨hcursor', hhold'⟩ := linkActivated_cursor (activated p x)
    have hwritten : ∀ d, ringWith .linkState 0 d (activated p x) = ringWith .linkState 0 d left :=
      fun d => ringWith_congr hyRing hyRole hyCount
    obtain ⟨hringUp, hringDown, hringLost, hringEnded, hringBridging⟩ := linkActivated_ring (activated p x)
    obtain ⟨hlinkUp, hlinkDown, hlinkBridging⟩ := linkActivated_link (activated p x)
    rw [hyLink] at hringUp hringDown hringLost hringEnded hringBridging hlinkUp hlinkDown hlinkBridging
    have hall : Keeps [.portA, .portB, .selector, .deliverer, .link, .clock, .island, .desk, .output, .ring, .sched,
        .regs] s (linkActivated (activated p x)) :=
      ((hmoved.mono (by decide)).next hy (by decide)).next hkeeps (by decide)
    rw [selectorEntered_of_none hnone']
    refine ⟨(hkeeps.part .selector (by decide)).trans (activated_selector p x),
      changed_of_regsKept (activated_told p x) (linkActivated_acts _).regsKept, hcursor'.trans hcursor,
      hhold'.trans hhold, fun h => (hringUp h).trans hyRing, fun h1 h2 => linkActivated_told (by rw [hyLink]; exact ⟨h1, h2⟩),
      fun h => (hringDown h).trans (hwritten _), fun h => (hringLost h).trans (hwritten _),
      fun h hended => ⟨(hringEnded h hended).trans ?_, hlinkDown (.inr (.inr ⟨h, hended⟩))⟩,
      fun h hshort => ⟨fun hreturn => ?_, fun hreturn => ?_⟩, fun h => hlinkDown (h.imp_right .inl), hlinkBridging, hlinkUp,
      fun hdesk => ?_, fun hstage => ⟨?_, ?_, fun h => ?_⟩, hall⟩
    · exact ringWith_congr (hwritten _) hyRole hyCount
    · rw [hringBridging h hshort, hwritten, hreturn]
      rfl
    · rw [hringBridging h hshort, hwritten, hreturn]
      rfl
    · obtain ⟨h1, h2⟩ := linkActivated_of_desk (hyRole.trans hdesk)
      exact ⟨h1.trans hyIsland, h2.trans hyClock⟩
    · intro h
      rw [(linkActivated_island (hyRole.trans hstage)).1 (by rwa [hyLink]), hyIsland]
    · intro h1 h2
      rw [(linkActivated_island (hyRole.trans hstage)).2 (by rwa [hyLink]) (by rwa [hyLink]), hyIsland]
    · rw [linkActivated_clock (hyRole.trans hstage) (by rwa [hyLink]), hyClock]
      exact ⟨fun hl => if_pos hl, fun hl => if_neg hl⟩

end Sys2Proof.Machine
end


section
/-! The judging of the frame times (R96, R97): what it makes of a port, and of everything else. -/

namespace Sys2Proof.Machine

variable {s t u : State}

/-! ## A port's frame time -/

/-- A port whose frame time has been judged. -/
def judgedPort (v : Port) : Port :=
  match v.state with
  | .dark => { v with goodNow := false }
  | .hunting => { v with huntRun := if v.goodNow then v.huntRun else 0, goodNow := false }
  | .locked =>
    if v.goodNow then { v with failRun := 0, goodNow := false }
    else if 15 ≤ v.failRun then unlocked (failed v) else failed v

/-- The 16th failed frame time in a row (R97). -/
def Unlocks (v : Port) : Prop := v.state = .locked ∧ v.goodNow = false ∧ 15 ≤ v.failRun

theorem judgePort_of_unlocks {p : PortId} (h : Unlocks (s.port p)) :
    judgePort p s = selectorLeft p (portMoved p (judgedPort (s.port p)) s) := by
  obtain ⟨hlocked, hbad, hrun⟩ := h
  simp only [judgePort, judgedPort, hlocked, hbad, if_pos hrun, Bool.false_eq_true, if_false]
  exact failFrameTime_of_16th hrun

theorem judgePort_of_stays {p : PortId} (h : ¬ Unlocks (s.port p)) :
    judgePort p s = s.setPort p (judgedPort (s.port p)) := by
  cases hstate : (s.port p).state with
  | dark => simp only [judgePort, judgedPort, hstate]
  | hunting => simp only [judgePort, judgedPort, hstate]
  | locked =>
    cases hgood : (s.port p).goodNow with
    | true => simp only [judgePort, judgedPort, hstate, hgood, if_true]
    | false =>
      have hrun : ¬ 15 ≤ (s.port p).failRun := fun hrun => h ⟨hstate, hgood, hrun⟩
      simp only [judgePort, judgedPort, hstate, hgood, if_neg hrun, Bool.false_eq_true, if_false]
      exact failFrameTime_of_short (not_le.1 hrun)

theorem judgedPort_judged (v : Port) : FrameTimeJudged v (judgedPort v) := by
  cases hstate : v.state with
  | dark => refine ⟨?_, ?_, ?_, ?_, ?_, ?_⟩ <;> simp [judgedPort, hstate]
  | hunting => refine ⟨?_, ?_, ?_, ?_, ?_, ?_⟩ <;> simp [judgedPort, hstate]
  | locked =>
    cases hgood : v.goodNow with
    | true => refine ⟨?_, ?_, ?_, ?_, ?_, ?_⟩ <;> simp [judgedPort, hstate, hgood]
    | false =>
      by_cases hrun : 15 ≤ v.failRun
      · refine ⟨?_, ?_, ?_, ?_, ?_, ?_⟩ <;> simp [judgedPort, hstate, hgood, hrun, unlocked, failed]
      · have hshort : min 16 (v.failRun + 1) = v.failRun + 1 := by omega
        refine ⟨?_, ?_, ?_, ?_, ?_, ?_⟩ <;> simp [judgedPort, hstate, hgood, hrun, failed, hshort]

theorem judgedPort_unlocked {v : Port} (h : Unlocks v) : (judgedPort v).state = .hunting := by
  obtain ⟨hlocked, hbad, hrun⟩ := h
  simp only [judgedPort, hlocked, hbad, if_pos hrun, Bool.false_eq_true, if_false, unlocked]

/-! ## What the judging touches beside the port -/

/-- The stage clock as a bridge finds it in its first frame (R129). -/
structure HeldOver (c : Clock) : Prop where
  state : c.state = .holdover
  realignPending : c.realignPending = false
  measFrames : c.measFrames = 0
  measCycles : c.measCycles = 0
  runPos : c.runPos = 0

/-- What the judging of frame times may do: a port that leaves LOCKED may switch the active port or make the link
bridge. -/
structure JudgeStep (s t : State) : Prop where
  keeps : Keeps [.portA, .portB, .ring, .sched, .regs, .selector, .deliverer, .status, .link, .clock, .talkSeen] s t
  regs : RegsKept s t
  sending : t.sched.sending = s.sched.sending
  deliverer : t.deliverer =
    { s.deliverer with switchover := t.deliverer.switchover, maskInUse := t.deliverer.maskInUse }
  status : t.status = { s.status with switches := t.status.switches }
  desk : s.role = .desk → t.clock = s.clock
  talk : s.link.state ≠ .linked → t.talkSeen = s.talkSeen
  link : (t.link = s.link ∧ t.deliverer.maskInUse = s.deliverer.maskInUse ∧ t.talkSeen = s.talkSeen ∧
      t.clock = s.clock) ∨
    ((s.link.state = .connecting ∨ s.link.state = .linked) ∧ t.link.state = .bridging ∧
      (s.role = .stage → t.deliverer.maskInUse = 0 ∧ HeldOver t.clock))

/-- A step that touches ports, events and selector alone. -/
theorem JudgeStep.of_path {T : List Part} (h : Keeps T s t) (hregs : RegsKept s t) (hsched : CursorOnly s t)
    (hT : T ⊆ [.portA, .portB, .ring, .sched, .regs, .selector]) : JudgeStep s t := by
  have hall : Keeps [.portA, .portB, .ring, .sched, .regs, .selector] s t := h.mono hT
  have hdeliverer := hall.part .deliverer (by decide)
  have hstatus := hall.part .status (by decide)
  have hclock := hall.part .clock (by decide)
  refine ⟨hall.mono (by decide), hregs, hsched.sending, ?_, ?_, fun _ => hclock, fun _ => hall.part .talkSeen (by decide),
    .inl ⟨hall.part .link (by decide), congrArg Deliverer.maskInUse hdeliverer, hall.part .talkSeen (by decide), hclock⟩⟩
  · rw [show t.deliverer = s.deliverer from hdeliverer]
  · rw [show t.status = s.status from hstatus]

theorem JudgeStep.refl (s : State) : JudgeStep s s :=
  .of_path (Keeps.refl [] s) (.refl s) (.of_sched rfl) (by decide)

theorem JudgeStep.trans (h : JudgeStep s t) (g : JudgeStep t u) : JudgeStep s u := by
  have hrole : t.role = s.role := h.keeps.part .role (by decide)
  refine ⟨h.keeps.next g.keeps (fun _ => id), h.regs.trans g.regs, g.sending.trans h.sending, ?_, ?_,
    fun hdesk => (g.desk (hrole.trans hdesk)).trans (h.desk hdesk), fun hunlinked => (g.talk ?_).trans (h.talk hunlinked),
    ?_⟩
  · rw [g.deliverer, h.deliverer]
  · rw [g.status, h.status]
  · rcases h.link with ⟨hlink, -⟩ | ⟨-, hlink, -⟩
    · rwa [hlink]
    · simp [hlink]
  · rcases g.link with ⟨glink, gmask, gtalk, gclock⟩ | ⟨gup, glink, gstage⟩
    · rcases h.link with ⟨hlink, hmask, htalk, hclock⟩ | ⟨hup, hlink, hstage⟩
      · exact .inl ⟨glink.trans hlink, gmask.trans hmask, gtalk.trans htalk, gclock.trans hclock⟩
      · refine .inr ⟨hup, by rw [glink, hlink], fun hrole => ?_⟩
        rw [gmask, gclock]
        exact hstage hrole
    · rcases h.link with ⟨hlink, -⟩ | ⟨-, hlink, -⟩
      · exact .inr ⟨hlink ▸ gup, glink, fun hs => gstage (hrole.trans hs)⟩
      · rcases gup with gup | gup <;> exact absurd (gup.symm.trans hlink) (by decide)

theorem JudgeStep.setPort (s : State) (p : PortId) (v : Port) : JudgeStep s (s.setPort p v) :=
  .of_path (setPort_keeps s p v) (.of_regs (setPort_keeps_regs p v s))
    (.of_sched ((setPort_keeps s p v).part .sched (by decide))) (by decide)

theorem JudgeStep.portMoved (s : State) (p : PortId) (v : Port) : JudgeStep s (portMoved p v s) :=
  .of_path (portMoved_keeps p v s)
    ((RegsKept.of_regs (setPort_keeps_regs p v s)).trans (Beside.portChanged p _).regs)
    (portMoved_cursorOnly p v s) (by decide)

/-- A switch of the active port. -/
theorem JudgeStep.switched {p q : PortId} (h : Switched p q s t) (hregs : RegsKept s t) : JudgeStep s t := by
  obtain ⟨hkeeps, -, -, hstatus, hdeliverer, -, hsched⟩ := h
  have hclock := hkeeps.part .clock (by decide)
  refine ⟨hkeeps.mono (by decide), hregs, hsched.sending, by rw [hdeliverer], by rw [hstatus], fun _ => hclock,
    fun _ => hkeeps.part .talkSeen (by decide),
    .inl ⟨hkeeps.part .link (by decide), by rw [hdeliverer], hkeeps.part .talkSeen (by decide), hclock⟩⟩

theorem JudgeStep.bridged (h : Bridged s t) (hup : s.link.state = .connecting ∨ s.link.state = .linked)
    (hregs : RegsKept s t) : JudgeStep s t := by
  obtain ⟨hkeeps, hlink, -, -, hswitchover, -, hstage, -, hcycles, hsending, hdeliverer, hclock, htalk⟩ := h
  refine ⟨hkeeps.mono (by decide), hregs, hsending, ?_, ?_, hclock, htalk, .inr ⟨hup, by rw [hlink], fun hrole => ?_⟩⟩
  · rw [hdeliverer]
  · rw [show t.status = s.status from hkeeps.part .status (by decide)]
  · obtain ⟨hmask, hstate, hpending, hframes, hpos, -⟩ := hstage hrole
    exact ⟨hmask, hstate, hpending, hframes, hcycles hrole, hpos⟩

/-- The selector and a switchover no more pending. -/
theorem JudgeStep.deselected (s : State) : JudgeStep s (deselected s) := by
  have hkeeps := deselected_keeps s
  have hclock := hkeeps.part .clock (by decide)
  have hregs : RegsKept s (Machine.deselected s) :=
    (setChange_regsKept .active (s.setSelector { active := none, cleanCount := 0 })).trans
      (flushSwitchover_acts _).regsKept
  have hsched : CursorOnly s (Machine.deselected s) :=
    CursorOnly.trans (.of_sched ((selected_keeps none s).part .sched (by decide))) (flushSwitchover_cursorOnly _)
  refine ⟨hkeeps.mono (by decide), hregs, hsched.sending, by rw [deselected_deliverer], ?_, fun _ => hclock,
    fun _ => hkeeps.part .talkSeen (by decide),
    .inl ⟨deselected_link s, by rw [deselected_deliverer], hkeeps.part .talkSeen (by decide), hclock⟩⟩
  rw [show (Machine.deselected s).status = s.status from hkeeps.part .status (by decide)]

theorem JudgeStep.linkDeactivated (s : State) : JudgeStep s (linkDeactivated s) := by
  have hregs := (linkDeactivated_acts s).regsKept
  by_cases hup : s.link.state = .connecting ∨ s.link.state = .linked
  · rw [linkDeactivated_of_up hup] at hregs ⊢
    exact .bridged (changeLink_bridged hup) hup hregs
  · rw [linkDeactivated_of_idle (not_or.1 hup)]
    exact .refl s

theorem JudgeStep.selectorLeft (p : PortId) (s : State) : JudgeStep s (selectorLeft p s) := by
  have hregs := (selectorLeft_acts p s).regsKept
  rcases selectorLeft_cases p s with ⟨-, h⟩ | ⟨-, h⟩ | ⟨hactive, -, h⟩ | ⟨-, -, h⟩ <;> rw [h] at hregs ⊢
  · exact .refl s
  · exact .of_path (clearClean_keeps s) hregs (.of_sched rfl) (by decide)
  · exact .switched (setActive_switched hactive) hregs
  · exact (JudgeStep.deselected s).trans (.linkDeactivated _)

theorem JudgeStep.judgePort (p : PortId) (s : State) : JudgeStep s (judgePort p s) := by
  by_cases h : Unlocks (s.port p)
  · rw [judgePort_of_unlocks h]
    exact (JudgeStep.portMoved s p _).trans (.selectorLeft p _)
  · rw [judgePort_of_stays h]
    exact .setPort s p _

theorem JudgeStep.judgePorts (s : State) : JudgeStep s (judgePorts s) :=
  (JudgeStep.judgePort .a s).trans (.judgePort .b _)

/-! ## The judging of both ports -/

theorem judgePort_port (p : PortId) (s : State) : (judgePort p s).port p = judgedPort (s.port p) ∧
    (judgePort p s).port (otherPort p) = s.port (otherPort p) := by
  by_cases h : Unlocks (s.port p)
  · obtain ⟨hport, hother⟩ := portMoved_port p (judgedPort (s.port p)) s
    have hleft := fun q =>
      (selectorLeft_keeps_path p (portMoved p (judgedPort (s.port p)) s)).port q (by decide) (by decide)
    rw [judgePort_of_unlocks h]
    exact ⟨(hleft _).trans hport, (hleft _).trans hother⟩
  · rw [judgePort_of_stays h]
    exact ⟨State.setPort_port_same .., setPort_port_other ..⟩

theorem judgePorts_port (p : PortId) (s : State) : (judgePorts s).port p = judgedPort (s.port p) := by
  cases p
  · exact ((judgePort_port .b (judgePort .a s)).2).trans (judgePort_port .a s).1
  · rw [judgePorts, (judgePort_port .b (judgePort .a s)).1]
    exact congrArg judgedPort (judgePort_port .a s).2

/-- Where no port unlocks, the judging changes the ports alone. -/
theorem judgePorts_keeps_of_stay (h : ∀ p, ¬ Unlocks (s.port p)) : Keeps [.portA, .portB] s (judgePorts s) := by
  have hb : ¬ Unlocks ((judgePort .a s).port .b) := by
    have hsame : (judgePort .a s).port .b = s.port .b := (judgePort_port .a s).2
    rw [hsame]
    exact h .b
  rw [judgePorts, judgePort_of_stays hb, judgePort_of_stays (h .a)]
  exact (setPort_keeps s .a _).next (setPort_keeps _ .b _) (by decide)

/-- A port that has the state it had has not unlocked. -/
theorem not_unlocks_of_state {p : PortId} (h : ((judgePorts s).port p).state = (s.port p).state) :
    ¬ Unlocks (s.port p) := by
  intro hunlocks
  rw [judgePorts_port, judgedPort_unlocked hunlocks] at h
  exact absurd (h.trans hunlocks.1) (by decide)

end Sys2Proof.Machine
end


section
/-! The control bytes of a frame (R105, R106, R109): which byte a position hands over, and what it leaves alone. -/

namespace Sys2Proof.Machine

variable {s t u : State}

/-! ## When nothing is eligible (R106, R109) -/

theorem pullCandidate_eq_none_iff (d : DeskRepl) :
    pullCandidate d = none ↔ ∀ e ∈ d.adoption, e.record < 226 → e.pulled ≠ none := by
  have hunsent : pullCandidate d = none ↔ ∀ r ∈ List.range recordCount, ¬ isUnsent d r = true := List.find?_eq_none
  rw [hunsent]
  refine ⟨fun h e he hr hpulled => h e.record (List.mem_range.2 hr) (isUnsent_iff.2 ⟨e, he, rfl, hpulled⟩),
    fun h r hr hr' => ?_⟩
  obtain ⟨e, he, rfl, hpulled⟩ := isUnsent_iff.1 hr'
  exact h e he (List.mem_range.1 hr) hpulled

theorem pushCandidate_eq_none_iff (d : DeskRepl) :
    pushCandidate d = none ↔ ∀ r ∈ d.dirty, ∃ e ∈ d.inFlight, e.record = r := by
  simp only [pushCandidate, List.find?_eq_none, Bool.not_eq_true', Bool.not_eq_false, isInFlight_iff]

theorem ite_none_iff {α : Type} {p : Prop} [Decidable p] {o : Option α} :
    (if p then o else none) = none ↔ ¬ p ∨ o = none := by
  by_cases h : p <;> simp [h]

theorem pickDesk_eq_none_iff (s : State) : pickDesk s = none ↔ s.sched.helloDue = false ∧ (s.link.state = .linked →
    (8 ≤ s.desk.adoption.countP (fun e => e.pulled.isSome) ∨
      ∀ e ∈ s.desk.adoption, e.record < 226 → e.pulled ≠ none) ∧
    (8 ≤ s.desk.inFlight.length ∨ ∀ r ∈ s.desk.dirty, ∃ e ∈ s.desk.inFlight, e.record = r)) := by
  rw [← pullCandidate_eq_none_iff, ← pushCandidate_eq_none_iff, ← Nat.not_lt, ← Nat.not_lt]
  unfold pickDesk
  cases hhello : s.sched.helloDue with
  | true => simp
  | false =>
    by_cases hlinked : s.link.state = .linked
    · have hpulls : (if pullsOutstanding s.desk < 8 then pullCandidate s.desk else none) = none ↔
          ¬ s.desk.adoption.countP (fun e => e.pulled.isSome) < 8 ∨ pullCandidate s.desk = none := ite_none_iff
      have hpushes : (if s.desk.inFlight.length < 8 then pushCandidate s.desk else none) = none ↔
          ¬ s.desk.inFlight.length < 8 ∨ pushCandidate s.desk = none := ite_none_iff
      rw [← hpulls, ← hpushes]
      simp only [Bool.false_eq_true, if_false, hlinked, if_true, true_and, forall_const]
      cases hpull : (if pullsOutstanding s.desk < 8 then pullCandidate s.desk else none) with
      | some r => simp
      | none => simp
    · simp [hlinked]

theorem ite_some_eq_none_iff {α : Type} {p : Prop} [Decidable p] {a : α} {o : Option α} :
    (if p then some a else o) = none ↔ ¬ p ∧ o = none := by
  by_cases h : p <;> simp [h]

theorem pickStage_eq_none_iff (s : State) : pickStage s = none ↔ s.sched.helloDue = false ∧
    (s.link.state = .connecting ∨ s.link.state = .linked → s.sched.replies = []) ∧
    (s.link.state = .linked → s.ring.written.toNat ≤ s.sched.noteCursor.toNat ∧ s.sched.statusDue = false ∧
      2 ≤ s.sched.meterCount) := by
  simp only [pickStage, ite_some_eq_none_iff, not_and, Ne, not_not, not_lt, Bool.not_eq_true, and_true]
  tauto

theorem nothingEligible_iff (s : State) : NothingEligible s ↔ pick s = none := by
  unfold NothingEligible
  cases hrole : s.role with
  | desk => simp [pick_of_desk hrole, pickDesk_eq_none_iff]
  | stage => simp [pick_of_stage hrole, pickStage_eq_none_iff]

/-! ## A message begun (R105) -/

theorem messageBytes_ne_nil (m : MsgType) (payload : List Byte) : messageBytes m payload ≠ [] := by
  simp [messageBytes, withCheck]

theorem replies_of_pick (h : pick s = some .reply) : s.sched.replies ≠ [] := by
  cases hrole : s.role with
  | desk => rcases pickDesk_cases (pick_of_desk hrole ▸ h) with hk | ⟨r, hk⟩ | ⟨r, hk⟩ <;> cases hk
  | stage =>
    rw [pick_of_stage hrole, pickStage] at h
    split_ifs at h with hhello hreply <;> simp_all

theorem beginReply_of_ne_nil {r : Reply} {rest : List Reply} (h : s.sched.replies = r :: rest) :
    beginReply s = (send (replyMessage s r).1 (replyMessage s r).2 s).setSched
      { (send (replyMessage s r).1 (replyMessage s r).2 s).sched with replies := rest } := by
  simp only [beginReply, h]

/-- A pick begins a whole message. -/
theorem beginPick_sending {k : Pick} (h : pick s = some k) : (beginPick k s).sched.sending ≠ [] := by
  cases k with
  | reply =>
    obtain ⟨r, rest, hreplies⟩ := List.exists_cons_of_ne_nil (replies_of_pick h)
    rw [beginPick, beginReply_of_ne_nil hreplies]
    exact messageBytes_ne_nil _ _
  | hello => exact messageBytes_ne_nil _ _
  | note => exact messageBytes_ne_nil _ _
  | status => exact messageBytes_ne_nil _ _
  | meter => exact messageBytes_ne_nil _ _
  | pull r => exact messageBytes_ne_nil _ _
  | push r => exact messageBytes_ne_nil _ _

theorem exec_beginRow {k : Pick} (hidle : s.sched.sending = []) (h : pick s = some k) :
    exec (beginRow k) s = .next (beginPick k s) := by
  have hmay := mayBegin_of_pick hidle h
  cases k with
  | pull r => exact exec_pullBegin hidle h
  | push r => exact exec_pushBegin hidle h
  | hello => exact congrArg Host.Outcome.next (if_pos hmay)
  | reply => exact congrArg Host.Outcome.next (if_pos hmay)
  | note => exact congrArg Host.Outcome.next (if_pos hmay)
  | status => exact congrArg Host.Outcome.next (if_pos hmay)
  | meter => exact congrArg Host.Outcome.next (if_pos hmay)

theorem pickNow_of_busy (h : s.sched.sending ≠ []) : pickNow s = s := by
  unfold pickNow
  split
  next hidle _ => exact absurd hidle h
  next => rfl

theorem pickNow_of_none (h : pick s = none) : pickNow s = s := by
  unfold pickNow
  split
  next hpick => exact absurd (h.symm.trans hpick) (by simp)
  next => rfl

theorem pickNow_of_pick {k : Pick} (hidle : s.sched.sending = []) (h : pick s = some k) : pickNow s = beginPick k s := by
  simp only [pickNow, hidle, h]

theorem handByte_of_sending {b : Byte} {rest : List Byte} (h : (pickNow s).sched.sending = b :: rest) :
    handByte s = ((pickNow s).setSched { (pickNow s).sched with sending := rest }, b) := by
  simp only [handByte, h]

theorem handByte_of_idle (h : (pickNow s).sched.sending = []) : handByte s = (pickNow s, 0) := by
  simp only [handByte, h]

/-- One byte position, at either end (R105). -/
theorem handsOver (s : State) : HandsOver s := by
  refine ⟨fun b rest hsending => ?_, fun hidle hnone => ?_, fun hidle hsome => ?_⟩
  · have hbusy : pickNow s = s := pickNow_of_busy (by simp [hsending])
    have hhand := handByte_of_sending (s := s) (by rw [hbusy, hsending])
    rwa [hbusy] at hhand
  · have hnow : pickNow s = s := pickNow_of_none ((nothingEligible_iff s).1 hnone)
    have hhand := handByte_of_idle (s := s) (by rw [hnow, hidle])
    rwa [hnow] at hhand
  · obtain ⟨k, hpick⟩ := Option.ne_none_iff_exists'.1 (mt (nothingEligible_iff s).2 hsome)
    obtain ⟨b, rest, hsending⟩ := List.exists_cons_of_ne_nil (beginPick_sending hpick)
    have hnow := pickNow_of_pick hidle hpick
    have hhand := handByte_of_sending (s := s) (by rw [hnow, hsending])
    rw [hnow] at hhand
    exact ⟨k, _, b, rest, hpick, exec_beginRow hidle hpick, hsending, hhand⟩

/-! ## What the control bytes leave alone -/

/-- A run of byte positions: at the desk no audio, no clock and no event. -/
structure HandStep (s t : State) : Prop where
  keeps : Keeps [.channels, .mixes, .meters, .link, .sched, .desk, .status, .regs] s t
  regs : RegsKept s t
  link : t.link = { s.link with helloAge := t.link.helloAge }
  status : t.status = { s.status with statusCount := t.status.statusCount }
  desk : s.role = .desk → Keeps [.link, .sched, .desk] s t

theorem HandStep.of_sched (h : Keeps [.sched] s t) : HandStep s t := by
  refine ⟨h.mono (by decide), .of_regs (h.part .regs (by decide)), ?_, ?_, fun _ => h.mono (by decide)⟩
  · rw [show t.link = s.link from h.part .link (by decide)]
  · rw [show t.status = s.status from h.part .status (by decide)]

theorem HandStep.refl (s : State) : HandStep s s := .of_sched (Keeps.refl _ s)

theorem HandStep.trans (h : HandStep s t) (g : HandStep t u) : HandStep s u := by
  have hrole : t.role = s.role := h.keeps.part .role (by decide)
  refine ⟨h.keeps.next g.keeps (fun _ => id), h.regs.trans g.regs, ?_, ?_,
    fun hdesk => (h.desk hdesk).next (g.desk (hrole.trans hdesk)) (fun _ => id)⟩
  · rw [g.link, h.link]
  · rw [g.status, h.status]

theorem HandStep.beginPick {k : Pick} (h : pick s = some k) : HandStep s (beginPick k s) := by
  have hregs := (beginPick_acts h).regsKept
  have hstage : s.role = .desk → k ≠ .reply ∧ k ≠ .note ∧ k ≠ .status ∧ k ≠ .meter := by
    intro hdesk
    rcases pickDesk_cases (pick_of_desk hdesk ▸ h) with rfl | ⟨r, rfl⟩ | ⟨r, rfl⟩ <;> simp
  cases k with
  | hello =>
    have hkeeps : Keeps [.link, .sched] s (beginHello s) := beginHello_keeps s
    exact ⟨hkeeps.mono (by decide), hregs, rfl, rfl, fun _ => hkeeps.mono (by decide)⟩
  | reply => exact .of_sched (beginReply_keeps s)
  | note => exact .of_sched (beginNote_keeps s)
  | status =>
    have hkeeps : Keeps [.sched, .status] s (beginStatus s) := beginStatus_keeps s
    exact ⟨hkeeps.mono (by decide), hregs, rfl, rfl, fun hdesk => absurd rfl (hstage hdesk).2.2.1⟩
  | meter =>
    have hkeeps := beginMeter_keeps s
    refine ⟨hkeeps.mono (by decide), hregs, ?_, ?_, fun hdesk => absurd rfl (hstage hdesk).2.2.2⟩
    · rw [show (Machine.beginPick .meter s).link = s.link from hkeeps.part .link (by decide)]
    · rw [show (Machine.beginPick .meter s).status = s.status from hkeeps.part .status (by decide)]
  | pull r =>
    have hkeeps : Keeps [.sched, .desk] s (beginPullMessage r s) := beginPullMessage_keeps r s
    exact ⟨hkeeps.mono (by decide), hregs, rfl, rfl, fun _ => hkeeps.mono (by decide)⟩
  | push r =>
    have hkeeps : Keeps [.sched, .desk] s (beginPushMessage r s) := beginPushMessage_keeps r s
    exact ⟨hkeeps.mono (by decide), hregs, rfl, rfl, fun _ => hkeeps.mono (by decide)⟩

theorem HandStep.handByte (s : State) : HandStep s (handByte s).1 := by
  have hnow : HandStep s (pickNow s) := by
    by_cases hidle : s.sched.sending = []
    · cases hpick : pick s with
      | none =>
        rw [pickNow_of_none hpick]
        exact .refl s
      | some k =>
        rw [pickNow_of_pick hidle hpick]
        exact .beginPick hpick
    · rw [pickNow_of_busy hidle]
      exact .refl s
  cases hsending : (pickNow s).sched.sending with
  | nil =>
    rw [handByte_of_idle hsending]
    exact hnow
  | cons b rest =>
    rw [handByte_of_sending hsending]
    exact hnow.trans (.of_sched (setSched_keeps _ _))

theorem HandStep.handBytes (n : Nat) (s : State) : HandStep s (handBytes n s).1 := by
  induction n generalizing s with
  | zero => exact .refl s
  | succ n ih => exact (HandStep.handByte s).trans (ih _)

end Sys2Proof.Machine
end


section
/-! One local frame (R37, R48, R66, R90, R91, R105): what goes before it, its blocks in order, and what an end sends. -/

namespace Sys2Proof.Machine

variable {s t u : State}

/-! ## Before a frame (R92, log 3) -/

theorem superframeStep_superframe (pinLow : Bool) (s : State) :
    (superframeStep pinLow s).superframe = s.superframe + 1 := by
  have hclose := (boundaryHello_keeps (closePorts (advanceSuperframe (endSuperframe s)))).part .superframe (by decide)
  have hports := (closePorts_keeps (advanceSuperframe (endSuperframe s))).part .superframe (by decide)
  have hadvance : (advanceSuperframe (endSuperframe s)).superframe = s.superframe + 1 :=
    congrArg (· + 1) ((endSuperframe_keeps s).part .superframe (by decide))
  unfold superframeStep boundary
  dsimp only
  split
  · exact ((countScan_keeps _).part .superframe (by decide)).trans (hclose.trans (hports.trans hadvance))
  · exact ((boundaryStage_keeps pinLow _).part .superframe (by decide)).trans (hclose.trans (hports.trans hadvance))

theorem beforeFrame_of_within (h : s.frameIndex < 48) : beforeFrame s = settle s :=
  if_neg (by simpa [boundaryDue] using h)

theorem beforeFrame_of_due (h : 48 ≤ s.frameIndex) :
    beforeFrame s = settle (superframeStep s.button.pinLow s) := if_pos (by simpa [boundaryDue] using h)

/-- The count of frames and superframes before a frame. -/
theorem beforeFrame_counts (s : State) :
    (s.frameIndex < 48 → (beforeFrame s).frameIndex = s.frameIndex ∧ (beforeFrame s).superframe = s.superframe) ∧
      (48 ≤ s.frameIndex → (beforeFrame s).frameIndex = 0 ∧ (beforeFrame s).superframe = s.superframe + 1) := by
  refine ⟨fun h => ?_, fun h => ?_⟩
  · rw [beforeFrame_of_within h]
    exact ⟨(settle_keeps s).part .frameIndex (by decide), (settle_keeps s).part .superframe (by decide)⟩
  · rw [beforeFrame_of_due h, (settle_keeps _).part .frameIndex (by decide),
      (settle_keeps _).part .superframe (by decide)]
    exact ⟨superframeStep_frameIndex .., superframeStep_superframe ..⟩

theorem beforeFrame_role (s : State) : (beforeFrame s).role = s.role := (beforeFrame_keeps s).part .role (by decide)

/-! ## The blocks of a frame in order (log 5) -/

/-- The state once the far end's frame is taken. -/
def farTaken (s : State) : State := farFrame (clockStep s)

theorem farTaken_keeps (s : State) :
    Keeps [.talkSeen, .deliverer, .sched, .receiver, .ring, .status, .regs, .clock] s (farTaken s) :=
  ((clockStep_keeps s).mono (by decide)).next (farFrame_keeps _) (by decide)

theorem farTaken_regsKept (s : State) : RegsKept s (farTaken s) :=
  (clockStep_acts s).regsKept.trans (farFrame_acts _).regsKept

theorem frameBlocks_eq (slots : List Sample) (s : State) :
    frameBlocks slots s = advanceFrame (countBridging (audioStep slots (farTaken s))) := rfl

/-- The audio, the control bytes, and the frame they make. -/
structure AudioStep (s t : State) : Prop where
  keeps : Keeps [.channels, .mixes, .meters, .link, .sched, .desk, .status, .regs, .output] s t
  regs : RegsKept s t
  link : t.link = { s.link with helloAge := t.link.helloAge }
  status : t.status = { s.status with statusCount := t.status.statusCount }
  desk : s.role = .desk → Keeps [.link, .sched, .desk, .output] s t

/-- The lanes, the bytes of the control channel, and the frame sent. -/
theorem AudioStep.of_hands {x y : State} (hlanes : Keeps [.channels, .mixes, .output] s x)
    (hdesk : s.role = .desk → Keeps [.output] s x) (hhands : HandStep x y) (hsent : Keeps [.output] y t) :
    AudioStep s t := by
  have hrole : x.role = s.role := hlanes.part .role (by decide)
  have hxLink : x.link = s.link := hlanes.part .link (by decide)
  have hxStatus : x.status = s.status := hlanes.part .status (by decide)
  have htLink : t.link = y.link := hsent.part .link (by decide)
  have htStatus : t.status = y.status := hsent.part .status (by decide)
  refine ⟨((hlanes.mono (by decide)).next hhands.keeps (by decide)).next hsent (by decide),
    ((RegsKept.of_regs (hlanes.part .regs (by decide))).trans hhands.regs).trans (.of_regs (hsent.part .regs (by decide))),
    ?_, ?_, fun hd => ?_⟩
  · rw [htLink, hhands.link, hxLink]
  · rw [htStatus, hhands.status, hxStatus]
  · exact (((hdesk hd).mono (by decide)).next (hhands.desk (hrole.trans hd)) (by decide)).next hsent (by decide)

theorem audioStep_of_stage (hrole : s.role = .stage) (slots : List Sample) : audioStep slots s = stageAudio slots s := by
  simp only [audioStep, hrole]

theorem audioStep_of_desk (hrole : s.role = .desk) (slots : List Sample) : audioStep slots s = deskAudio slots s := by
  simp only [audioStep, hrole]

theorem audioStep_step (slots : List Sample) (s : State) : AudioStep s (audioStep slots s) := by
  cases hrole : s.role with
  | desk =>
    rw [audioStep_of_desk hrole]
    exact .of_hands ((setOutput_keeps s _).mono (by decide)) (fun _ => setOutput_keeps s _) (.handBytes 4 _)
      (setOutput_keeps _ _)
  | stage =>
    rw [audioStep_of_stage hrole]
    exact .of_hands (stageLanes_keeps slots s) (fun hdesk => absurd (hrole.symm.trans hdesk) (by decide)) (.handBytes 4 _)
      (setOutput_keeps _ _)

/-- The end of a frame: the bridging counter and the frame index. -/
theorem frameEnd_keeps (s : State) : Keeps [.link, .frameIndex] s (advanceFrame (countBridging s)) :=
  ((countBridging_keeps s).mono (by decide)).next (advanceFrame_keeps _) (by decide)

theorem frameStep_judged (slots : List Sample) (s : State) : JudgeStep (frameBlocks slots s) (frameStep slots s) := by
  unfold frameStep
  split
  · exact .refl _
  · exact .judgePorts _

theorem frameBlocks_regsKept (slots : List Sample) (s : State) : RegsKept s (frameBlocks slots s) :=
  ((farTaken_regsKept s).trans (audioStep_step slots _).regs).trans
    (.of_regs ((frameEnd_keeps _).part .regs (by decide)))

theorem frameStep_regsKept (slots : List Sample) (s : State) : RegsKept s (frameStep slots s) :=
  (frameBlocks_regsKept slots s).trans (frameStep_judged slots s).regs

theorem frameBlocks_frameIndex (slots : List Sample) (s : State) :
    (frameBlocks slots s).frameIndex = s.frameIndex + 1 := by
  have hindex : (audioStep slots (farTaken s)).frameIndex = s.frameIndex :=
    ((audioStep_keeps _ _).part .frameIndex (by decide)).trans ((farTaken_keeps s).part .frameIndex (by decide))
  have hcount : (countBridging (audioStep slots (farTaken s))).frameIndex = s.frameIndex :=
    ((countBridging_keeps _).part .frameIndex (by decide)).trans hindex
  exact congrArg (· + 1) hcount

/-- What of the sent frame the rest of a frame leaves. -/
theorem frameStep_sent (slots : List Sample) (s : State) :
    Keeps [.link, .frameIndex, .portA, .portB, .ring, .sched, .regs, .selector, .deliverer, .status, .clock, .talkSeen]
        (audioStep slots (farTaken s)) (frameStep slots s) ∧
      (frameStep slots s).sched.sending = (audioStep slots (farTaken s)).sched.sending ∧
      (frameStep slots s).deliverer.lastOut = (farTaken s).deliverer.lastOut ∧
      (frameStep slots s).frameIndex = s.frameIndex + 1 ∧ (frameStep slots s).superframe = s.superframe := by
  have hend := frameEnd_keeps (audioStep slots (farTaken s))
  have hjudged := frameStep_judged slots s
  have hlast : (frameStep slots s).deliverer.lastOut = (frameBlocks slots s).deliverer.lastOut := by
    rw [hjudged.deliverer]
  refine ⟨(hend.mono (by decide)).next hjudged.keeps (by decide), ?_, ?_, ?_,
    (frameStep_keeps slots s).part .superframe (by decide)⟩
  · rw [hjudged.sending]
    exact congrArg Scheduler.sending (hend.part .sched (by decide))
  · rw [hlast, frameBlocks_eq, hend.part .deliverer (by decide), (audioStep_keeps _ _).part .deliverer (by decide)]
  · rw [hjudged.keeps.part .frameIndex (by decide), frameBlocks_frameIndex]

/-! ## The desk's frame (R66, R90, R91) -/

/-- The state whose scheduler hands over the control bytes of a desk frame. -/
def deskLanes (s : State) : State := s.setOutput { s.output with slots := s.deliverer.lastOut }

theorem deskAudio_eq (slots : List Sample) (s : State) : deskAudio slots s =
    (handBytes 4 (deskLanes s)).1.setOutput { (deskLanes s).output with
      frame := deskFrame s.superframe s.frameIndex (headerMask s) ((List.range 16).map fun j => (slots.getD j 0).toInt)
        (talkSlot s slots) (handBytes 4 (deskLanes s)).2 } := rfl

theorem farTaken_of_desk (hrole : s.role = .desk) : farTaken s = farFrame s := by
  simp only [farTaken, clockStep, hrole]

/-- Settles O26. -/
theorem deskFrameSent : Obligations.DeskFrameSent := by
  unfold Obligations.DeskFrameSent
  refine ⟨fun x _ => handsOver x, ?_⟩
  intro slots cycles s hrole u w h0 h1 h2 h3
  have hu : u.role = .desk := (beforeFrame_role s).trans hrole
  have hfar : farTaken u = w := farTaken_of_desk hu
  have hw : w.role = .desk := (farFrame_keeps u).part .role (by decide) |>.trans hu
  have haudio : audioStep slots (farTaken u) = deskAudio slots w := by rw [hfar, audioStep_of_desk hw]
  have hlanes : deskLanes w = w.setOutput { w.output with slots := w.deliverer.lastOut } := rfl
  have hhands : handBytes 4 (deskLanes w) = (h3.1, [h0.2, h1.2, h2.2, h3.2]) := rfl
  obtain ⟨hkeeps, hsending, hlast, hindex, hcount⟩ := frameStep_sent slots u
  have harbiter : w.arbiter = u.arbiter := (farFrame_keeps u).part .arbiter (by decide)
  have hmask : headerMask w = match u.arbiter.carried with
      | some .a => u.arbiter.a.mask
      | some .b => u.arbiter.b.mask
      | none => 0 := by
    cases hcarried : u.arbiter.carried with
    | none => simp only [headerMask, harbiter, hcarried]
    | some src => cases src <;> simp only [headerMask, talkRecord, harbiter, hcarried]
  have htalk : talkSlot w slots = match u.arbiter.carried with
      | some .a => (slots.getD 16 0).toInt
      | some .b => (slots.getD 17 0).toInt
      | none => 0 := by
    cases hcarried : u.arbiter.carried with
    | none => simp only [talkSlot, harbiter, hcarried]
    | some src => cases src <;> simp only [talkSlot, harbiter, hcarried]
  obtain ⟨hwithin, hdue⟩ := beforeFrame_counts s
  refine ⟨_, rfl, hwithin, hdue, ?_, hindex, hcount, ?_, ?_, hlast.trans (by rw [hfar]), frameStep_regsKept slots u, ?_⟩
  · rw [hsending, haudio, deskAudio_eq, hhands]
    rfl
  · rw [hkeeps.part .output (by decide), haudio, deskAudio_eq, hhands, hmask, htalk,
      (farFrame_keeps u).part .superframe (by decide), (farFrame_keeps u).part .frameIndex (by decide)]
    rfl
  · rw [hlast, hfar, hkeeps.part .output (by decide), haudio, deskAudio_eq]
    rfl
  · have hjudged := frameStep_judged slots u
    have hblocks : (frameBlocks slots u).role = .desk := ((frameBlocks_keeps slots u).part .role (by decide)).trans hu
    have hpath : Keeps [.clock, .portA, .portB, .ring, .sched, .regs, .selector, .deliverer, .status, .link, .talkSeen]
        (frameBlocks slots u) (frameStep slots u) := hjudged.keeps.mono (by decide)
    have hdesk := (audioStep_step slots w).desk hw
    have hbegun : Keeps [.talkSeen, .deliverer, .sched, .receiver, .ring, .status, .regs, .link, .desk, .output,
        .frameIndex] u (frameBlocks slots u) := by
      rw [frameBlocks_eq, hfar]
      exact (((farFrame_keeps u).mono (by decide)).next hdesk (by decide)).next (frameEnd_keeps _) (by decide)
    exact (hbegun.mono (by decide)).next (hpath.without (hjudged.desk hblocks)) (by decide)

/-! ## The stage's frame (R37, R48, R90) -/

/-- A mix reads no channel of the table (R37). -/
theorem mixAll_setChannels (s : State) (cs : List Channel) (sources : List Int) (d t : Int) (m : Nat) (xs : List Mix) :
    mixAll (s.setChannels cs) sources d t m xs = mixAll s sources d t m xs := by
  induction xs generalizing m with
  | nil => rfl
  | cons x xs ih =>
    rw [mixAll, mixAll, ih]
    rfl

theorem stageAudio_eq (slots : List Sample) (s : State) : stageAudio slots s =
    (handBytes 4 (stageLanes slots s)).1.setOutput { (stageLanes slots s).output with
      frame := stageFrame s.superframe s.frameIndex
        (stageHeader s.button.pressed s.island.engaged s.link.state) (postGateSamples slots s)
        (handBytes 4 (stageLanes slots s)).2 } := rfl

theorem liveByte_of_stage (h : t.stage = s.stage) (r k : Nat) : liveByte t r k = liveByte s r k := by
  unfold liveByte liveContents
  rw [h]

/-- Settles O25. -/
theorem stageFrameSent : Obligations.StageFrameSent := by
  unfold Obligations.StageFrameSent
  refine ⟨fun x _ => handsOver x, ?_⟩
  intro slots cycles s hrole u w chain postGate returns route stageTalk mixes ran h0 h1 h2 h3
  have hu : u.role = .stage := (beforeFrame_role s).trans hrole
  have hfar : Keeps [.talkSeen, .deliverer, .sched, .receiver, .ring, .status, .regs, .clock] u w := farTaken_keeps u
  have hw : w.role = .stage := (hfar.part .role (by decide)).trans hu
  have hchannels : w.channels = u.channels := hfar.part .channels (by decide)
  have haudio : audioStep slots (farTaken u) = stageAudio slots w := audioStep_of_stage hw slots
  have hpostGate : postGateSamples slots w = postGate := by
    rw [postGateSamples, hchannels]
  have hran : stageLanes slots w = ran := by
    rw [stageLanes, hpostGate, chainedChannels, hchannels]
  have hhands : handBytes 4 ran = (h3.1, [h0.2, h1.2, h2.2, h3.2]) := rfl
  have hmixes : mixAll (w.setChannels (chain.map Prod.fst)) (postGate ++ returns) (w.deliverer.lastOut.getD 16 0)
      stageTalk 0 w.mixes = mixes := by
    rw [mixAll_setChannels, hfar.part .mixes (by decide)]
  have htalk : stageTalkSample (w.setChannels (chain.map Prod.fst)) postGate = stageTalk := by
    have hroute : talkRouteChannel (w.setChannels (chain.map Prod.fst)) = route :=
      congrArg BitVec.toNat (liveByte_of_stage (hfar.part .stage (by decide)) 224 0)
    rw [stageTalkSample, hroute]
  have hranMixes : ran.mixes = mixes.map Prod.fst := by
    rw [← hmixes, ← htalk]
    rfl
  have hranSlots : ran.output.slots = mixes.map Prod.snd ++ returns := by
    rw [← hmixes, ← htalk]
    rfl
  obtain ⟨hkeeps, hsending, hlast, hindex, hcount⟩ := frameStep_sent slots u
  have hsent : audioStep slots (farTaken u) = h3.1.setOutput { ran.output with
      frame := stageFrame u.superframe u.frameIndex (stageHeader u.button.pressed u.island.engaged u.link.state) postGate
        [h0.2, h1.2, h2.2, h3.2] } := by
    rw [haudio, stageAudio_eq, hran, hhands, hpostGate, hfar.part .superframe (by decide), hfar.part .frameIndex (by decide),
      hfar.part .button (by decide), hfar.part .island (by decide), hfar.part .link (by decide)]
  obtain ⟨hwithin, hdue⟩ := beforeFrame_counts s
  refine ⟨_, rfl, hwithin, hdue, length_inputChain .., fun n _ => getElem?_inputChain .., length_mixAll .., fun m _ => ?_,
    rfl, hranMixes, rfl, ?_, ?_, ?_, hindex, hcount, ?_, ?_, hlast, frameStep_regsKept slots u,
    (frameStep_keeps slots u).mono (by decide)⟩
  · rw [getElem?_mixAll, Nat.zero_add]
  · rw [hsending, hsent]
    rfl
  · rw [hkeeps.part .channels (by decide), hsent]
    rfl
  · rw [hkeeps.part .mixes (by decide), hsent]
    rfl
  · rw [hkeeps.part .output (by decide), hsent]
    rfl
  · rw [hkeeps.part .output (by decide), hsent]
    exact hranSlots

end Sys2Proof.Machine
end


section
/-! What a local frame gives out of the far end (R116 to R121, R68, R72, R104, R127), and what the rest of the frame
leaves of it. -/

namespace Sys2Proof.Machine

variable {s t u : State}

/-! ## The rest of a frame after the far end's -/

theorem countBridging_link (s : State) : (countBridging s).link =
    if s.link.state = .bridging then { s.link with bridging := min 48 (s.link.bridging + 1) } else s.link := by
  unfold countBridging
  split <;> rfl

/-- The link once the blocks of a frame have run. -/
theorem frameBlocks_link (slots : List Sample) (s : State) :
    (frameBlocks slots s).link.state = s.link.state ∧
      (s.link.state = .bridging → (frameBlocks slots s).link.bridging = min 48 (s.link.bridging + 1)) ∧
      (frameBlocks slots s).link.returnTo = s.link.returnTo := by
  have hfar : (farTaken s).link = s.link := (farTaken_keeps s).part .link (by decide)
  have haudio := (audioStep_step slots (farTaken s)).link
  have hend : (frameBlocks slots s).link = (countBridging (audioStep slots (farTaken s))).link := rfl
  rw [hend, countBridging_link, haudio, hfar]
  split
  · exact ⟨rfl, fun _ => rfl, rfl⟩
  next h => exact ⟨rfl, fun hbridging => absurd hbridging h, rfl⟩

/-- What the rest of a frame leaves of the far end's. -/
structure FrameRest (w t : State) : Prop where
  regs : RegsKept w t
  deliverer : t.deliverer =
    { w.deliverer with switchover := t.deliverer.switchover, maskInUse := t.deliverer.maskInUse }
  concealed : t.status.concealed = w.status.concealed
  farIsland : t.status.farIsland = w.status.farIsland
  farLink : t.status.farLink = w.status.farLink
  receiver : t.receiver = w.receiver
  talk : w.link.state ≠ .linked → t.talkSeen = w.talkSeen
  same : t.link.state = w.link.state →
    t.deliverer.maskInUse = w.deliverer.maskInUse ∧ t.talkSeen = w.talkSeen ∧ t.clock = w.clock
  bridged : t.link.state ≠ w.link.state → w.role = .stage → t.deliverer.maskInUse = 0 ∧ HeldOver t.clock
  ports : t.portA.state = w.portA.state → t.portB.state = w.portB.state →
    t.deliverer = w.deliverer ∧ t.ring = w.ring

theorem frameRest (slots : List Sample) (s : State) : FrameRest (farTaken s) (frameStep slots s) := by
  have haudio := audioStep_step slots (farTaken s)
  have hend := frameEnd_keeps (audioStep slots (farTaken s))
  have hjudged := frameStep_judged slots s
  have hblocks : Keeps [.channels, .mixes, .meters, .link, .sched, .desk, .status, .regs, .output, .frameIndex]
      (farTaken s) (frameBlocks slots s) := (haudio.keeps.mono (by decide)).next hend (by decide)
  have hblocksRegs : RegsKept (farTaken s) (frameBlocks slots s) :=
    haudio.regs.trans (.of_regs (hend.part .regs (by decide)))
  have hdeliverer : (frameBlocks slots s).deliverer = (farTaken s).deliverer := hblocks.part .deliverer (by decide)
  have htalk : (frameBlocks slots s).talkSeen = (farTaken s).talkSeen := hblocks.part .talkSeen (by decide)
  have hclock : (frameBlocks slots s).clock = (farTaken s).clock := hblocks.part .clock (by decide)
  have hrole : (frameBlocks slots s).role = (farTaken s).role := hblocks.part .role (by decide)
  have hlink : (frameBlocks slots s).link.state = (farTaken s).link.state :=
    (frameBlocks_link slots s).1.trans (congrArg Link.state ((farTaken_keeps s).part .link (by decide)).symm)
  have hblocksStatus : (frameBlocks slots s).status = { (farTaken s).status with
      statusCount := (audioStep slots (farTaken s)).status.statusCount } := by
    rw [frameBlocks_eq, hend.part .status (by decide)]
    exact haudio.status
  have hstatus := hjudged.status
  rw [hblocksStatus] at hstatus
  refine ⟨hblocksRegs.trans hjudged.regs, ?_, by rw [hstatus], by rw [hstatus], by rw [hstatus],
    (hjudged.keeps.part .receiver (by decide)).trans (hblocks.part .receiver (by decide)),
    fun hunlinked => (hjudged.talk (by rwa [hlink])).trans htalk, fun hsame => ?_, fun hchanged hstage => ?_,
    fun hportA hportB => ?_⟩
  · rw [← hdeliverer]
    exact hjudged.deliverer
  · rcases hjudged.link with ⟨-, hmask, htalk', hclock'⟩ | ⟨hup, hbridging, -⟩
    · exact ⟨hmask.trans (congrArg Deliverer.maskInUse hdeliverer), htalk'.trans htalk, hclock'.trans hclock⟩
    · rw [hlink, ← hsame, hbridging] at hup
      rcases hup with hup | hup <;> cases hup
  · rcases hjudged.link with ⟨hsame, -⟩ | ⟨-, -, hheld⟩
    · exact absurd ((congrArg Link.state hsame).trans hlink) hchanged
    · exact hheld (hrole.trans hstage)
  · have hring : (frameBlocks slots s).ring = (farTaken s).ring := hblocks.part .ring (by decide)
    rw [← hdeliverer, ← hring]
    unfold frameStep at hportA hportB ⊢
    split
    · exact ⟨rfl, rfl⟩
    next hindex =>
      rw [if_neg hindex] at hportA hportB
      have hstates : ∀ p, ((judgePorts (frameBlocks slots s)).port p).state = ((frameBlocks slots s).port p).state := by
        intro p
        rw [hblocks.port p (by decide) (by decide)]
        cases p
        · exact hportA
        · exact hportB
      have hkeeps := judgePorts_keeps_of_stay fun p => not_unlocks_of_state (hstates p)
      exact ⟨hkeeps.part .deliverer (by decide), hkeeps.part .ring (by decide)⟩

theorem frameStep_bridging (slots : List Sample) (h : s.link.state = .bridging) :
    (frameStep slots s).link.state = .bridging ∧ (frameStep slots s).link.bridging = min 48 (s.link.bridging + 1) ∧
      (frameStep slots s).link.returnTo = s.link.returnTo := by
  obtain ⟨hstate, hcount, hreturn⟩ := frameBlocks_link slots s
  rcases (frameStep_judged slots s).link with ⟨hlink, -⟩ | ⟨hup, -⟩
  · rw [hlink]
    exact ⟨hstate.trans h, hcount h, hreturn⟩
  · rw [hstate, h] at hup
    rcases hup with hup | hup <;> cases hup

/-! ## The three ways of the far end's frame (R116, R119, R120) -/

theorem isSilent_iff {l : LinkState} : isSilent l = true ↔ l = .down ∨ l = .lost := by cases l <;> simp [isSilent]

theorem farFrame_of_silent (h : s.link.state = .down ∨ s.link.state = .lost) : farFrame s = silentFrame s :=
  if_pos (isSilent_iff.2 h)

theorem farFrame_of_present {p : PortId} {f : RxFrame} (h : ¬ (s.link.state = .down ∨ s.link.state = .lost))
    (hactive : s.selector.active = some p) (hhold : s.deliverer.hold = 0)
    (hf : presentFrame (s.port p) s.deliverer.cursor = some f) : farFrame s = deliverFrame f s := by
  unfold farFrame
  rw [if_neg (mt isSilent_iff.1 h), hactive]
  simp only [hhold, if_true, hf]

/-- The cursor's and the hold's own step, at a frame that is concealed (R116). -/
def passed (s : State) : State := if s.selector.active = none then s else passCursor s

theorem farFrame_of_missing (h : ¬ (s.link.state = .down ∨ s.link.state = .lost))
    (hmissing : s.selector.active = none ∨ s.deliverer.hold ≠ 0 ∨
      ∃ p, s.selector.active = some p ∧ presentFrame (s.port p) s.deliverer.cursor = none) :
    farFrame s = concealFrame (passed s) := by
  unfold farFrame passed
  rw [if_neg (mt isSilent_iff.1 h)]
  cases hactive : s.selector.active with
  | none => simp
  | some p =>
    have hnone : (if s.deliverer.hold = 0 then presentFrame (s.port p) s.deliverer.cursor else none) = none := by
      rcases hmissing with hidle | hhold | ⟨q, hq, habsent⟩
      · exact absurd (hactive.symm.trans hidle) (by simp)
      · exact if_neg hhold
      · rw [hactive] at hq
        rw [Option.some.inj hq, habsent, ite_self]
    simp only [hnone]
    rfl

/-! ## A delivered frame -/

theorem startRejoin_eq (d : Deliverer) : startRejoin d = { d with
    gate := if d.rejoinPending then rampTarget unity (rampForce 0) else d.gate, rejoinPending := false } := by
  obtain ⟨cursor, hold, lastOut, run, gate, pending, switchover, mask⟩ := d
  cases pending <;> rfl

/-- The state at a delivered frame, before its header and control bytes go to their consumers. -/
def delivered (f : RxFrame) (s : State) : State :=
  (flushSwitchover s).setDeliverer { startRejoin (flushSwitchover s).deliverer with
    gate := rampAdvance (startRejoin (flushSwitchover s).deliverer).gate,
    lastOut := f.slots.map fun x => gainRound (x * (rampAdvance (startRejoin (flushSwitchover s).deliverer).gate).current),
    run := 0, cursor := nextTag (startRejoin (flushSwitchover s).deliverer).cursor }

theorem deliverFrame_eq (f : RxFrame) (s : State) :
    deliverFrame f s = receiveBytes f.control (deliverHeader f.header (delivered f s)) := rfl

theorem delivered_keeps (f : RxFrame) (s : State) : Keeps [.deliverer, .sched, .ring, .regs] s (delivered f s) :=
  (flushSwitchover_keeps s).next (setDeliverer_keeps _ _) (by decide)

/-- The gate before its advance: forced to 0 where a rejoin is pending (R121). -/
def rejoinGate (d : Deliverer) : Ramp := if d.rejoinPending then rampTarget unity (rampForce 0) else d.gate

theorem delivered_deliverer (f : RxFrame) (s : State) : (delivered f s).deliverer = { s.deliverer with
    switchover := none, rejoinPending := false, gate := rampAdvance (rejoinGate s.deliverer),
    lastOut := f.slots.map fun x => gainRound (x * (rampAdvance (rejoinGate s.deliverer)).current), run := 0,
    cursor := nextTag s.deliverer.cursor } := by
  rw [delivered, State.setDeliverer_deliverer, flushSwitchover_deliverer, startRejoin_eq]
  rfl

theorem delivered_ring (f : RxFrame) (s : State) : (delivered f s).ring = flushedRing s := rfl

theorem deliverHeader_of_stage (hrole : s.role = .stage) (header : Half) : deliverHeader header s =
    if s.link.state = .linked then s.setDeliverer { s.deliverer with maskInUse := header } else s := by
  simp only [deliverHeader, hrole]

theorem deliverHeader_of_desk (hrole : s.role = .desk) (header : Half) : deliverHeader header s =
    compareStageTalk (header.getLsbD 0)
      (s.setStatus { s.status with farIsland := header.getLsbD 1, farLink := header.extractLsb' 2 3 }) := by
  simp only [deliverHeader, hrole]

/-- The stage-talk bit turns (R72). -/
def Turned (talk : Bool) (s : State) : Prop := s.role = .desk ∧ s.link.state = .linked ∧ talk ≠ s.talkSeen

theorem compareStageTalk_of_turned {talk : Bool} (h : Turned talk s) : compareStageTalk talk s =
    writeEvent .stageTalk 0 (if talk then 1 else 0) (setNotice .talk (setChange .stageTalk (s.setTalkSeen talk))) :=
  if_pos h

theorem compareStageTalk_of_same {talk : Bool} (h : ¬ Turned talk s) : compareStageTalk talk s = s := if_neg h

theorem compareStageTalk_turned {talk : Bool} (h : Turned talk s) :
    (compareStageTalk talk s).talkSeen = talk ∧ noticed .talk (compareStageTalk talk s) ∧
      changed .stageTalk (compareStageTalk talk s) ∧
      (compareStageTalk talk s).ring = ringWith .stageTalk 0 (if talk then 1 else 0) s := by
  rw [compareStageTalk_of_turned h]
  have hevent := (Beside.writeEvent .stageTalk 0 (if talk then 1 else 0)
    (setNotice .talk (setChange .stageTalk (s.setTalkSeen talk)))).regs
  refine ⟨(writeEvent_keeps _ _ _ _).part .talkSeen (by decide), noticed_of_regsKept (noticed_setNotice ..) hevent,
    changed_of_regsKept (changed_of_regsKept (changed_setChange ..) (setNotice_regsKept .talk _)) hevent, ?_⟩
  rw [writeEvent_ring]
  exact ringWith_congr rfl rfl rfl

/-- What a delivered frame leaves at the stage. -/
theorem deliverFrame_stage (f : RxFrame) (hrole : s.role = .stage) :
    (deliverFrame f s).deliverer = { (delivered f s).deliverer with
        maskInUse := if s.link.state = .linked then f.header else s.deliverer.maskInUse } ∧
      (deliverFrame f s).ring = flushedRing s ∧ (deliverFrame f s).status = s.status := by
  have hdelivered := delivered_keeps f s
  have hbytes := receiveBytes_keeps f.control (deliverHeader f.header (delivered f s))
  have hrole' : (delivered f s).role = .stage := (hdelivered.part .role (by decide)).trans hrole
  have hlink : (delivered f s).link = s.link := hdelivered.part .link (by decide)
  have hmask : (delivered f s).deliverer.maskInUse = s.deliverer.maskInUse := by rw [delivered_deliverer]
  rw [deliverFrame_eq, hbytes.part .deliverer (by decide), hbytes.part .ring (by decide), hbytes.part .status (by decide),
    deliverHeader_of_stage hrole', hlink]
  split
  · exact ⟨rfl, delivered_ring f s, hdelivered.part .status (by decide)⟩
  · exact ⟨by rw [← hmask], delivered_ring f s, hdelivered.part .status (by decide)⟩

/-- What it leaves at the desk. -/
theorem deliverFrame_desk (f : RxFrame) (hrole : s.role = .desk) :
    (deliverFrame f s).deliverer = (delivered f s).deliverer ∧
      (deliverFrame f s).status =
        { s.status with farIsland := f.header.getLsbD 1, farLink := f.header.extractLsb' 2 3 } ∧
      (s.link.state ≠ .linked → (deliverFrame f s).talkSeen = s.talkSeen) ∧
      (s.link.state = .linked → (deliverFrame f s).talkSeen = f.header.getLsbD 0) ∧
      (Turned (f.header.getLsbD 0) s → noticed .talk (deliverFrame f s) ∧ changed .stageTalk (deliverFrame f s) ∧
        (deliverFrame f s).ring =
          ringWith .stageTalk 0 (if f.header.getLsbD 0 then 1 else 0) (s.setRing (flushedRing s))) ∧
      (¬ Turned (f.header.getLsbD 0) s → (deliverFrame f s).ring = flushedRing s) := by
  have hdelivered := delivered_keeps f s
  have hbytes := receiveBytes_keeps f.control (deliverHeader f.header (delivered f s))
  have hrole' : (delivered f s).role = .desk := (hdelivered.part .role (by decide)).trans hrole
  generalize hx : (delivered f s).setStatus { (delivered f s).status with
    farIsland := f.header.getLsbD 1, farLink := f.header.extractLsb' 2 3 } = x
  have hheader : deliverHeader f.header (delivered f s) = compareStageTalk (f.header.getLsbD 0) x := by
    rw [deliverHeader_of_desk hrole', hx]
  have hset : Keeps [.status] (delivered f s) x := hx ▸ setStatus_keeps _ _
  have hcompare := compareStageTalk_keeps (f.header.getLsbD 0) x
  have hxRole : x.role = s.role := (hset.part .role (by decide)).trans (hdelivered.part .role (by decide))
  have hxLink : x.link = s.link := (hset.part .link (by decide)).trans (hdelivered.part .link (by decide))
  have hxTalk : x.talkSeen = s.talkSeen := (hset.part .talkSeen (by decide)).trans (hdelivered.part .talkSeen (by decide))
  have hxRing : x.ring = flushedRing s := (hset.part .ring (by decide)).trans (delivered_ring f s)
  have hxCount : x.superframe = s.superframe :=
    (hset.part .superframe (by decide)).trans (hdelivered.part .superframe (by decide))
  have hturned : Turned (f.header.getLsbD 0) x ↔ Turned (f.header.getLsbD 0) s := by
    unfold Turned
    rw [hxRole, hxLink, hxTalk]
  have hregs : RegsKept (compareStageTalk (f.header.getLsbD 0) x) (deliverFrame f s) :=
    .of_regs (by rw [deliverFrame_eq, hbytes.part .regs (by decide), hheader])
  have htalk : (deliverFrame f s).talkSeen = (compareStageTalk (f.header.getLsbD 0) x).talkSeen := by
    rw [deliverFrame_eq, hbytes.part .talkSeen (by decide), hheader]
  have hring : (deliverFrame f s).ring = (compareStageTalk (f.header.getLsbD 0) x).ring := by
    rw [deliverFrame_eq, hbytes.part .ring (by decide), hheader]
  refine ⟨?_, ?_, fun hunlinked => ?_, fun hlinked => ?_, fun hturn => ?_, fun hsame => ?_⟩
  · rw [deliverFrame_eq, hbytes.part .deliverer (by decide), hheader, hcompare.part .deliverer (by decide),
      hset.part .deliverer (by decide)]
  · rw [deliverFrame_eq, hbytes.part .status (by decide), hheader, hcompare.part .status (by decide), ← hx,
      State.setStatus_status, hdelivered.part .status (by decide)]
  · rw [htalk, compareStageTalk_of_same fun hturn => hunlinked (hturned.1 hturn).2.1, hxTalk]
  · rw [htalk]
    by_cases hturn : Turned (f.header.getLsbD 0) x
    · exact (compareStageTalk_turned hturn).1
    · rw [compareStageTalk_of_same hturn, hxTalk]
      by_contra hne
      exact hturn (hturned.2 ⟨hrole, hlinked, Ne.symm hne⟩)
  · obtain ⟨-, hnoticed, hchanged, hevent⟩ := compareStageTalk_turned (hturned.2 hturn)
    exact ⟨noticed_of_regsKept hnoticed hregs, changed_of_regsKept hchanged hregs,
      hring.trans (hevent.trans (ringWith_congr hxRing hxRole hxCount))⟩
  · rw [hring, compareStageTalk_of_same (mt hturned.1 hsame), hxRing]

theorem deliverFrame_receiver (f : RxFrame) (s : State) :
    let taken := receiveLoop (receiveFuel s.receiver.held f.control) s.receiver.held f.control
    (deliverFrame f s).receiver =
      { held := taken.1, inbox := s.receiver.inbox ++ taken.2.filter (handedOn s.role) } := by
  have hheader := deliverHeader_keeps f.header (delivered f s)
  have hdelivered := delivered_keeps f s
  have hreceiver : (deliverHeader f.header (delivered f s)).receiver = s.receiver :=
    (hheader.part .receiver (by decide)).trans (hdelivered.part .receiver (by decide))
  have hrole : (deliverHeader f.header (delivered f s)).role = s.role :=
    (hheader.part .role (by decide)).trans (hdelivered.part .role (by decide))
  intro taken
  rw [deliverFrame_eq, receiveBytes, hreceiver, hrole]
  rfl

/-! ## A concealed frame -/

theorem passed_eq (s : State) : passed s = s.setDeliverer { s.deliverer with
    hold := if s.selector.active = none then s.deliverer.hold else s.deliverer.hold - 1,
    cursor := if s.selector.active = none ∨ s.deliverer.hold ≠ 0 then s.deliverer.cursor
      else nextTag s.deliverer.cursor } := by
  unfold passed passCursor
  by_cases hactive : s.selector.active = none
  · simp only [hactive, true_or, if_true]
    rfl
  · by_cases hhold : s.deliverer.hold = 0
    · simp only [hactive, hhold, false_or, if_false, if_true, ne_eq, not_true_eq_false]
    · simp only [hactive, hhold, false_or, if_false, ne_eq, not_false_eq_true, if_true]

/-- What a concealed frame leaves. -/
theorem concealFrame_spec (s : State) :
    Keeps [.deliverer, .receiver, .status] s (concealFrame s) ∧
      (concealFrame s).deliverer = { s.deliverer with
        gate := rampAdvance s.deliverer.gate, run := s.deliverer.run + 1,
        lastOut := if s.deliverer.run = 0 then s.deliverer.lastOut else s.deliverer.lastOut.map decay } ∧
      (concealFrame s).status = { s.status with concealed := satSucc s.status.concealed } ∧
      (concealFrame s).receiver = { s.receiver with held := [] } :=
  ⟨concealFrame_keeps s, rfl, rfl, rfl⟩

theorem clockStep_eq (s : State) : ∃ c, clockStep s = s.setClock c := by
  cases hrole : s.role with
  | desk => exact ⟨s.clock, by simp only [clockStep, hrole]; rfl⟩
  | stage => exact ⟨clockFrame s.clock, by simp only [clockStep, hrole]⟩

/-- Settles O27: the Deliverer takes one of three ways, and the rest of the frame leaves what it gives out. -/
theorem farEndFrame : Obligations.FarEndFrame := by
  unfold Obligations.FarEndFrame
  intro slots cycles s u d silent gate0 switched
  obtain ⟨c, hclock⟩ := clockStep_eq u
  have hfar : farTaken u = farFrame (u.setClock c) := by rw [farTaken, hclock]
  have hrest := frameRest slots u
  have hkeeps := farTaken_keeps u
  have hlink : (farTaken u).link = u.link := hkeeps.part .link (by decide)
  have hrole : (farTaken u).role = u.role := hkeeps.part .role (by decide)
  have hportA : (farTaken u).portA = u.portA := hkeeps.part .portA (by decide)
  have hportB : (farTaken u).portB = u.portB := hkeeps.part .portB (by decide)
  have hswitched : flushedRing (u.setClock c) = switched := by
    refine (flushedRing_congr (s := u) (t := u.setClock c) rfl rfl rfl rfl).trans ?_
    cases hpending : u.deliverer.switchover with
    | none =>
      rw [flushedRing_of_none hpending]
      simp only [switched, d, hpending]
    | some ports =>
      obtain ⟨src, dst⟩ := ports
      rw [flushedRing_of_some hpending]
      simp only [switched, d, hpending]
      rfl
  refine ⟨_, rfl, frameStep_bridging slots, fun hsilent => ?silent, fun haudible => ⟨fun p f hactive hhold hf => ?delivered,
    fun hmissing => ?concealed⟩⟩
  case silent =>
    rw [hfar, farFrame_of_silent (s := u.setClock c) hsilent] at hrest
    refine ⟨?_, ?_, hrest.concealed, ?_, hrest.receiver, hrest.farIsland, hrest.farLink⟩
    · rw [hrest.deliverer]
      rfl
    · rw [hrest.deliverer]
      rfl
    · rw [hrest.deliverer]
      rfl
  case concealed =>
    obtain ⟨hconcealed, hdeliverer, hstatus, hreceiver⟩ := concealFrame_spec (passed (u.setClock c))
    have hw : farTaken u = concealFrame (passed (u.setClock c)) := by
      rw [hfar, farFrame_of_missing (s := u.setClock c) haudible hmissing]
    rw [← hw] at hconcealed hdeliverer hstatus hreceiver
    have htalk : (farTaken u).talkSeen = u.talkSeen := by
      rw [hconcealed.part .talkSeen (by decide), passed_eq]
      rfl
    rw [passed_eq] at hdeliverer hstatus hreceiver
    refine ⟨?_, ?_, ?_, hrest.receiver.trans hreceiver, ?_, ?_, ?_, fun hsame => ?_, ?_, ?_⟩
    · rw [hrest.deliverer, hdeliverer]
      rfl
    · rw [hrest.deliverer, hdeliverer]
      rfl
    · rw [hrest.deliverer, hdeliverer]
      rfl
    · rw [hrest.concealed, hstatus]
      rfl
    · rw [hrest.farIsland, hstatus]
      rfl
    · rw [hrest.farLink, hstatus]
      rfl
    · obtain ⟨hmask, htalk', -⟩ := hrest.same (hsame.trans (congrArg Link.state hlink.symm))
      rw [hmask, htalk', htalk, hdeliverer]
      exact ⟨rfl, rfl⟩
    · rw [hrest.deliverer, hdeliverer]
      rfl
    · rw [hrest.deliverer, hdeliverer]
      rfl
  case delivered =>
    intro taken talk turned
    have hw : farTaken u = deliverFrame f (u.setClock c) := by
      rw [hfar, farFrame_of_present (s := u.setClock c) haudible hactive hhold hf]
    have hreceiver : (farTaken u).receiver =
        { held := taken.1, inbox := u.receiver.inbox ++ taken.2.filter (handedOn u.role) } := by
      rw [hw]
      exact deliverFrame_receiver f (u.setClock c)
    have hstageFrame := deliverFrame_stage (s := u.setClock c) f
    have hdeskFrame := deliverFrame_desk (s := u.setClock c) f
    rw [← hw, hswitched] at hstageFrame hdeskFrame
    have hconcealed : (farTaken u).status.concealed = u.status.concealed := by
      cases hr : u.role with
      | desk =>
        rw [(hdeskFrame hr).2.1]
        rfl
      | stage =>
        rw [(hstageFrame hr).2.2]
        rfl
    have hdeliverer : (farTaken u).deliverer = { (delivered f (u.setClock c)).deliverer with
        maskInUse := (farTaken u).deliverer.maskInUse } := by
      cases hr : u.role with
      | desk => rw [(hdeskFrame hr).1]
      | stage => rw [(hstageFrame hr).1]
    rw [delivered_deliverer] at hdeliverer
    refine ⟨?_, ?_, ?_, ?_, ?_, hrest.concealed.trans hconcealed, hrest.receiver.trans hreceiver, fun hstage => ?atStage,
      fun hdesk => ?atDesk, fun hturned => ?turned, fun hA hB => ?ports⟩
    · rw [hrest.deliverer, hdeliverer]
      rfl
    · rw [hrest.deliverer, hdeliverer]
      rfl
    · rw [hrest.deliverer, hdeliverer]
    · rw [hrest.deliverer, hdeliverer]
    · rw [hrest.deliverer, hdeliverer]
      rfl
    case atStage =>
      refine ⟨fun hsame => ?_, fun hchanged => ?_⟩
      · rw [(hrest.same (hsame.trans (congrArg Link.state hlink.symm))).1, (hstageFrame hstage).1]
        rfl
      · exact (hrest.bridged (by rwa [hlink]) (hrole.trans hstage)).1
    case atDesk =>
      obtain ⟨-, hstatus, hunlinked, hlinked, -⟩ := hdeskFrame hdesk
      refine ⟨?_, ?_, fun h => ?_, fun h hafter => ?_⟩
      · rw [hrest.farIsland, hstatus]
      · rw [hrest.farLink, hstatus]
      · exact (hrest.talk (by rwa [hlink])).trans (hunlinked h)
      · have hsame := hafter.trans (h.symm.trans (congrArg Link.state hlink.symm))
        exact (hrest.same hsame).2.1.trans (hlinked h)
    case turned =>
      obtain ⟨-, -, -, -, htold, -⟩ := hdeskFrame hturned.1
      obtain ⟨hnoticed, hchanged, -⟩ := htold hturned
      exact ⟨noticed_of_regsKept hnoticed hrest.regs, changed_of_regsKept hchanged hrest.regs⟩
    case ports =>
      obtain ⟨hsame, hring⟩ := hrest.ports (hA.trans (congrArg Port.state hportA.symm))
        (hB.trans (congrArg Port.state hportB.symm))
      refine ⟨by rw [hsame, hdeliverer], fun hturned => ?_, fun hstill => ?_⟩
      · obtain ⟨-, -, -, -, htold, -⟩ := hdeskFrame hturned.1
        exact hring.trans ((htold hturned).2.2.trans (ringWith_congr rfl rfl rfl))
      · refine hring.trans ?_
        cases hr : u.role with
        | desk => exact (hdeskFrame hr).2.2.2.2.2 hstill
        | stage => exact (hstageFrame hr).2.1

end Sys2Proof.Machine
end


section
/-! A superframe boundary (R98, R113, R114, R123, R106, R164, R50, R51, R69, R9, R176): its ports and selector, its
counters, and what it leaves alone. -/

namespace Sys2Proof.Machine

variable {s t u : State}

/-! ## A port closes the superframe (R98) -/

/-- A port with its superframe's count closed. -/
def closedCounts (v : Port) : Port :=
  if v.state = .locked then
    { v with badLast := v.badNow, badNow := 0, marginal := marginalAfter v.badNow v.marginal }
  else v

/-- MARGINAL changes as the count closes. -/
def Turns (v : Port) : Prop := (closedCounts v).marginal ≠ v.marginal

/-- The ring with the PORT_STATE of a MARGINAL that changed. -/
def closedRing (p : PortId) (s : State) (r : Ring) : Ring :=
  if (closedCounts (s.port p)).marginal ≠ (s.port p).marginal then
    ringWith .portState (portNumber p) (if (closedCounts (s.port p)).marginal then 3 else 2) (s.setRing r)
  else r

theorem closeSuperframe_of_idle {p : PortId} (h : (s.port p).state ≠ .locked) : closeSuperframe p s = s := by
  cases hstate : (s.port p).state with
  | dark => simp only [closeSuperframe, hstate]
  | hunting => simp only [closeSuperframe, hstate]
  | locked => exact absurd hstate h

theorem closedCounts_of_idle {v : Port} (h : v.state ≠ .locked) : closedCounts v = v := if_neg h

theorem closedCounts_state (v : Port) : (closedCounts v).state = v.state := by
  unfold closedCounts
  split <;> rfl

theorem closeSuperframe_of_still {p : PortId} (h : (s.port p).state = .locked) (hstill : ¬ Turns (s.port p)) :
    closeSuperframe p s = s.setPort p (closedCounts (s.port p)) := by
  unfold Turns closedCounts at hstill
  rw [if_pos h, not_not] at hstill
  rw [closedCounts, if_pos h]
  simp only [closeSuperframe, h]
  exact if_pos hstill

theorem closeSuperframe_of_turns {p : PortId} (hturns : Turns (s.port p)) :
    closeSuperframe p s = portMoved p (closedCounts (s.port p)) s := by
  have h : (s.port p).state = .locked := by
    by_contra h
    exact hturns (by rw [closedCounts_of_idle h])
  unfold Turns closedCounts at hturns
  rw [if_pos h] at hturns
  rw [closedCounts, if_pos h]
  simp only [closeSuperframe, h]
  exact if_neg hturns

theorem portCode_closed {v : Port} (hturns : Turns v) :
    (portCode (closedCounts v)).setWidth 32 = if (closedCounts v).marginal then 3#32 else 2#32 := by
  have h : (closedCounts v).state = .locked := by
    rw [closedCounts_state]
    by_contra h
    exact hturns (by rw [closedCounts_of_idle h])
  simp only [portCode, h]
  split <;> rfl

/-- What the closing of one port's count leaves. -/
structure PortClosed (p : PortId) (s t : State) : Prop where
  keeps : Keeps [.portA, .portB, .sched, .ring, .regs] s t
  port : t.port p = closedCounts (s.port p)
  other : t.port (otherPort p) = s.port (otherPort p)
  sched : CursorOnly s t
  regs : RegsKept s t
  ring : t.ring = closedRing p s s.ring
  told : Turns (s.port p) → noticed .link t ∧ changed (portChange p) t

theorem closeSuperframe_closed (p : PortId) (s : State) : PortClosed p s (closeSuperframe p s) := by
  have hkeeps := closeSuperframe_keeps p s
  have hregs := (closeSuperframe_acts p s).regsKept
  by_cases hturns : Turns (s.port p)
  · rw [closeSuperframe_of_turns hturns] at hkeeps hregs ⊢
    obtain ⟨hport, hother⟩ := portMoved_port p (closedCounts (s.port p)) s
    refine ⟨hkeeps, hport, hother, portMoved_cursorOnly .., hregs, ?_, fun _ => portMoved_told ..⟩
    rw [portMoved_ring, portCode_closed hturns]
    exact (if_pos hturns).symm
  · have hring : closedRing p s s.ring = s.ring := if_neg hturns
    by_cases h : (s.port p).state = .locked
    · rw [closeSuperframe_of_still h hturns] at hkeeps hregs ⊢
      have hset := setPort_keeps s p (closedCounts (s.port p))
      exact ⟨hkeeps, State.setPort_port_same .., setPort_port_other .., .of_sched (hset.part .sched (by decide)), hregs,
        (hset.part .ring (by decide)).trans hring.symm, fun h => absurd h hturns⟩
    · rw [closeSuperframe_of_idle h] at hkeeps hregs ⊢
      exact ⟨hkeeps, (closedCounts_of_idle h).symm, rfl, .of_sched rfl, hregs, hring.symm, fun h => absurd h hturns⟩

/-! ## The tallies of a boundary (R98, R113) -/

/-- A port as a boundary leaves it. -/
def closedPort (v : Port) : Port := { closedCounts v with lockedWhole := v.state == .locked }

/-- The standby clean count of a boundary (R113). -/
def cleanAfter (s : State) : Nat :=
  match s.selector.active with
  | some p => if standbyClean (closedCounts (s.port (otherPort p))) then min 255 (s.selector.cleanCount + 1) else 0
  | none => 0

/-- The ports and the clean count of a boundary, before the marginal switch. -/
def tallied (s : State) : State :=
  markLocked .b (markLocked .a (updateClean (closeSuperframe .b (closeSuperframe .a s))))

theorem closePorts_eq (s : State) : closePorts s = marginalSwitch (tallied s) := rfl

/-- What the tallies leave. -/
structure Tallied (s t : State) : Prop where
  keeps : Keeps [.portA, .portB, .selector, .sched, .ring, .regs] s t
  port : ∀ p, t.port p = closedPort (s.port p)
  selector : t.selector = { s.selector with cleanCount := cleanAfter s }
  sched : CursorOnly s t
  regs : RegsKept s t
  ring : t.ring = closedRing .b s (closedRing .a s s.ring)
  told : ∀ p, Turns (s.port p) → noticed .link t ∧ changed (portChange p) t

theorem markLocked_port (p : PortId) (s : State) :
    (markLocked p s).port p = { s.port p with lockedWhole := (s.port p).state == .locked } ∧
      (markLocked p s).port (otherPort p) = s.port (otherPort p) :=
  ⟨State.setPort_port_same .., setPort_port_other ..⟩

theorem updateClean_selector (s : State) (x : State) (hactive : s.selector = x.selector)
    (hports : ∀ p, s.port p = closedCounts (x.port p)) :
    (updateClean s).selector = { x.selector with cleanCount := cleanAfter x } := by
  rw [updateClean, State.setSelector_selector, cleanAfter, ← hactive]
  cases h : s.selector.active with
  | none => rfl
  | some p => simp only [hports]

theorem closedRing_congr {p : PortId} (hport : t.port p = s.port p) (hrole : t.role = s.role)
    (hcount : t.superframe = s.superframe) (r : Ring) : closedRing p t r = closedRing p s r := by
  unfold closedRing
  rw [hport, ringWith_congr (t := t.setRing r) (s := s.setRing r) rfl hrole hcount]

theorem tallied_tallied (s : State) : Tallied s (tallied s) := by
  have ha := closeSuperframe_closed .a s
  have hb := closeSuperframe_closed .b (closeSuperframe .a s)
  generalize hx : closeSuperframe .a s = x at ha hb
  generalize hy : closeSuperframe .b x = y at hb
  have hcounts : ∀ p, y.port p = closedCounts (s.port p) := by
    intro p
    cases p
    · exact hb.other.trans ha.port
    · have hsame : x.port .b = s.port .b := ha.other
      rw [hb.port, hsame]
  have hxy : Keeps [.portA, .portB, .sched, .ring, .regs] s y := ha.keeps.next hb.keeps (by decide)
  have hclean := updateClean_keeps y
  have hmarkA := markLocked_keeps .a (updateClean y)
  have hmarkB := markLocked_keeps .b (markLocked .a (updateClean y))
  have heq : tallied s = markLocked .b (markLocked .a (updateClean y)) := by rw [tallied, hx, hy]
  have hrest : Keeps [.portA, .portB, .selector] y (tallied s) := by
    rw [heq]
    exact ((hclean.mono (by decide)).next hmarkA (by decide)).next hmarkB (by decide)
  have hyRegs : RegsKept y (tallied s) := .of_regs (hrest.part .regs (by decide))
  refine ⟨(hxy.mono (by decide)).next hrest (by decide), fun p => ?_, ?_,
    (ha.sched.trans hb.sched).trans (.of_sched (hrest.part .sched (by decide))), (ha.regs.trans hb.regs).trans hyRegs, ?_,
    fun p hturns => ?_⟩
  · have hport : ∀ q, (updateClean y).port q = closedCounts (s.port q) := fun q =>
      (hclean.port q (by decide) (by decide)).trans (hcounts q)
    obtain ⟨hA, hAother⟩ := markLocked_port .a (updateClean y)
    obtain ⟨hB, hBother⟩ := markLocked_port .b (markLocked .a (updateClean y))
    rw [heq]
    cases p
    · refine hBother.trans (hA.trans ?_)
      rw [hport, closedCounts_state]
      rfl
    · have hsame : (markLocked .a (updateClean y)).port .b = (updateClean y).port .b := hAother
      rw [hB, hsame, hport, closedCounts_state]
      rfl
  · rw [heq, hmarkB.part .selector (by decide), hmarkA.part .selector (by decide)]
    exact updateClean_selector y s (hxy.part .selector (by decide)) hcounts
  · have hport : x.port .b = s.port .b := ha.other
    rw [hrest.part .ring (by decide), hb.ring, ha.ring]
    exact closedRing_congr hport (ha.keeps.part .role (by decide)) (ha.keeps.part .superframe (by decide)) _
  · cases p
    · obtain ⟨hnoticed, hchanged⟩ := ha.told hturns
      exact ⟨noticed_of_regsKept hnoticed (hb.regs.trans hyRegs), changed_of_regsKept hchanged (hb.regs.trans hyRegs)⟩
    · have hport : x.port .b = s.port .b := ha.other
      obtain ⟨hnoticed, hchanged⟩ := hb.told (by rwa [hport])
      exact ⟨noticed_of_regsKept hnoticed hyRegs, changed_of_regsKept hchanged hyRegs⟩

/-! ## The marginal switch (R114) -/

/-- The standby was LOCKED throughout the superframe that ends, with no bad frame (R113). -/
def Clean (v : Port) : Prop := v.state = .locked ∧ v.lockedWhole = true ∧ v.badNow = 0

theorem standbyClean_iff (v : Port) : standbyClean (closedCounts v) = true ↔ Clean v := by
  unfold standbyClean closedCounts Clean
  by_cases h : v.state = .locked <;> simp [h]

theorem closedCounts_marginal (v : Port) : (closedCounts v).marginal = if v.state = .locked then
    (if 4 ≤ v.badNow then true else if v.badNow = 0 then false else v.marginal) else v.marginal := by
  unfold closedCounts
  split <;> rfl

theorem closedPort_eq (v : Port) : closedPort v = { v with
    badLast := if v.state = .locked then v.badNow else v.badLast,
    badNow := if v.state = .locked then 0 else v.badNow,
    marginal := (closedCounts v).marginal, lockedWhole := v.state == .locked } := by
  unfold closedPort closedCounts
  split <;> rfl

theorem tallied_active (s : State) : (tallied s).selector.active = s.selector.active := by
  rw [(tallied_tallied s).selector]

theorem cleanAfter_of_clean {p : PortId} (h : s.selector.active = some p) (hclean : Clean (s.port (otherPort p))) :
    cleanAfter s = min 255 (s.selector.cleanCount + 1) := by
  simp only [cleanAfter, h, (standbyClean_iff _).2 hclean, if_true]

theorem cleanAfter_of_not_clean {p : PortId} (h : s.selector.active = some p)
    (hclean : ¬ Clean (s.port (otherPort p))) : cleanAfter s = 0 := by
  simp only [cleanAfter, h]
  exact if_neg (mt (standbyClean_iff _).1 hclean)

theorem marginalSwitch_of_none (h : s.selector.active = none) : marginalSwitch s = s := by
  simp only [marginalSwitch, h]

theorem marginalSwitch_of_active {p : PortId} (h : s.selector.active = some p) : marginalSwitch s =
    if (s.port p).marginal = true ∧ 1 ≤ s.selector.cleanCount then setActive (some (otherPort p)) s else s := by
  simp only [marginalSwitch, h]

/-- The active port gives way (R114). -/
def GivesWay (p : PortId) (s : State) : Prop :=
  Clean (s.port (otherPort p)) ∧ (closedCounts (s.port p)).marginal = true

theorem tallied_marginal (p : PortId) (s : State) :
    ((tallied s).port p).marginal = (closedCounts (s.port p)).marginal := by
  rw [(tallied_tallied s).port p]
  rfl

theorem closePorts_of_none (h : s.selector.active = none) : closePorts s = tallied s :=
  marginalSwitch_of_none ((tallied_active s).trans h)

theorem closePorts_of_switch {p : PortId} (h : s.selector.active = some p) (hgives : GivesWay p s) :
    Switched p (otherPort p) (tallied s) (closePorts s) := by
  have hactive : (tallied s).selector.active = some p := (tallied_active s).trans h
  have hcount : (tallied s).selector.cleanCount = min 255 (s.selector.cleanCount + 1) := by
    rw [(tallied_tallied s).selector]
    exact cleanAfter_of_clean h hgives.1
  have hswitch : closePorts s = setActive (some (otherPort p)) (tallied s) := by
    rw [closePorts_eq, marginalSwitch_of_active hactive]
    exact if_pos ⟨(tallied_marginal p s).trans hgives.2, by omega⟩
  rw [hswitch]
  exact setActive_switched hactive

theorem closePorts_of_stay {p : PortId} (h : s.selector.active = some p) (hstays : ¬ GivesWay p s) :
    closePorts s = tallied s := by
  rw [closePorts_eq, marginalSwitch_of_active ((tallied_active s).trans h)]
  refine if_neg ?_
  rintro ⟨hmarginal, hcount⟩
  rw [(tallied_tallied s).selector] at hcount
  refine hstays ⟨?_, (tallied_marginal p s).symm.trans hmarginal⟩
  by_contra hclean
  rw [cleanAfter_of_not_clean h hclean] at hcount
  exact absurd hcount (Nat.not_succ_le_zero 0)

/-- What the ports and the selector of a boundary touch. -/
structure PortsClosed (s t : State) : Prop where
  keeps : Keeps [.portA, .portB, .selector, .deliverer, .status, .ring, .sched, .regs] s t
  sched : CursorOnly s t
  regs : RegsKept s t
  switch : Keeps [.selector, .deliverer, .status, .ring, .sched, .regs] (tallied s) t
  switchRegs : RegsKept (tallied s) t

theorem Tallied.portsClosed (h : Tallied s (tallied s)) : PortsClosed s (tallied s) :=
  ⟨h.keeps.mono (by decide), h.sched, h.regs, Keeps.refl _ _, .refl _⟩

theorem closePorts_closed (s : State) : PortsClosed s (closePorts s) := by
  have htally := tallied_tallied s
  cases hactive : s.selector.active with
  | none =>
    rw [closePorts_of_none hactive]
    exact htally.portsClosed
  | some p =>
    by_cases hgives : GivesWay p s
    · have hswitched := closePorts_of_switch hactive hgives
      exact ⟨(htally.keeps.mono (by decide)).next hswitched.keeps (by decide), htally.sched.trans hswitched.sched,
        (closePorts_acts s).regsKept, hswitched.keeps.mono (by decide), (marginalSwitch_acts (tallied s)).regsKept⟩
    · rw [closePorts_of_stay hactive hgives]
      exact htally.portsClosed

/-! ## The rest of a boundary -/

theorem engageIsland_of_idle (h : islandDue s = false) : engageIsland s = s := if_neg (by simp [h])

theorem islandDue_of_not_lost (h : s.link.state ≠ .lost) : islandDue s = false := by simp [islandDue, h]

/-- What follows the ports and the selector in a boundary. -/
structure BoundaryRest (c t : State) : Prop where
  keeps : Keeps [.link, .sched, .scanner, .stepperDue, .island, .button, .ring, .status, .regs] c t
  regs : RegsKept c t
  ring : c.link.state ≠ .lost → t.ring = c.ring
  status : t.status = { c.status with stageStatus := t.status.stageStatus }

theorem boundary_of_desk (hrole : s.role = .desk) (pin : Bool) :
    boundary pin s = countScan (boundaryHello (closePorts (advanceSuperframe s))) := by
  have hrole' : (boundaryHello (closePorts (advanceSuperframe s))).role = .desk :=
    ((boundaryHello_keeps _).part .role (by decide)).trans
      (((closePorts_keeps _).part .role (by decide)).trans (((advanceSuperframe_keeps s).part .role (by decide)).trans hrole))
  simp only [boundary, hrole']

theorem boundary_of_stage (hrole : s.role = .stage) (pin : Bool) :
    boundary pin s = boundaryStage pin (boundaryHello (closePorts (advanceSuperframe s))) := by
  have hrole' : (boundaryHello (closePorts (advanceSuperframe s))).role = .stage :=
    ((boundaryHello_keeps _).part .role (by decide)).trans
      (((closePorts_keeps _).part .role (by decide)).trans (((advanceSuperframe_keeps s).part .role (by decide)).trans hrole))
  simp only [boundary, hrole']

theorem boundaryHello_link (s : State) :
    (boundaryHello s).link = { s.link with helloAge := min 3 (s.link.helloAge + 1) } := by
  unfold boundaryHello
  dsimp only
  split <;> rfl

/-- The state in which a stage's blocks count (R50, R51, R106). -/
def islandCounted (s : State) : State := engageIsland (countIsland (boundaryScheduler s))

theorem boundaryStage_eq (pin : Bool) (s : State) : boundaryStage pin s =
    refreshStatus (boundaryStepper (sampleButton pin (islandCounted s))) := rfl

theorem islandCounted_keeps (s : State) : Keeps [.sched, .island, .ring, .regs] s (islandCounted s) :=
  (((boundaryScheduler_keeps s).mono (by decide)).next (countIsland_keeps _) (by decide)).next (engageIsland_keeps _)
    (by decide)

theorem islandCounted_ring (h : s.link.state ≠ .lost) : (islandCounted s).ring = s.ring := by
  have hlink : (countIsland (boundaryScheduler s)).link = s.link :=
    ((countIsland_keeps _).part .link (by decide)).trans ((boundaryScheduler_keeps s).part .link (by decide))
  rw [islandCounted, engageIsland_of_idle (islandDue_of_not_lost (by rwa [hlink])),
    (countIsland_keeps _).part .ring (by decide), (boundaryScheduler_keeps s).part .ring (by decide)]

theorem boundaryStage_rest (pin : Bool) (s : State) : BoundaryRest s (boundaryStage pin s) := by
  have hisland := islandCounted_keeps s
  have hsample := sampleButton_keeps pin (islandCounted s)
  have hstep := boundaryStepper_keeps (sampleButton pin (islandCounted s))
  have hstatus : (boundaryStepper (sampleButton pin (islandCounted s))).status = s.status :=
    (hstep.part .status (by decide)).trans ((hsample.part .status (by decide)).trans (hisland.part .status (by decide)))
  refine ⟨(boundaryStage_keeps pin s).mono (by decide), (boundaryStage_acts pin s).regsKept, fun hlost => ?_, ?_⟩
  · rw [boundaryStage_eq, (refreshStatus_keeps _).part .ring (by decide), hstep.part .ring (by decide),
      hsample.part .ring (by decide), islandCounted_ring hlost]
  · rw [boundaryStage_eq, refreshStatus, State.setStatus_status, hstatus]

theorem boundary_rest (pin : Bool) (s : State) :
    BoundaryRest (closePorts (advanceSuperframe s)) (boundary pin s) := by
  generalize hc : closePorts (advanceSuperframe s) = c
  have hhello := boundaryHello_keeps c
  have hhelloRegs : RegsKept c (boundaryHello c) := .of_regs (hhello.part .regs (by decide))
  have hstatus : (boundaryHello c).status = c.status := hhello.part .status (by decide)
  have hlink : (boundaryHello c).link.state = c.link.state := by rw [boundaryHello_link]
  cases hrole : s.role with
  | desk =>
    have hscan := countScan_keeps (boundaryHello c)
    rw [boundary_of_desk hrole, hc]
    refine ⟨(hhello.mono (by decide)).next hscan (by decide), hhelloRegs.trans (.of_regs (hscan.part .regs (by decide))),
      fun _ => (hscan.part .ring (by decide)).trans (hhello.part .ring (by decide)), ?_⟩
    rw [hscan.part .status (by decide), hstatus]
  | stage =>
    obtain ⟨hkeeps, hregs, hring, hsame⟩ := boundaryStage_rest pin (boundaryHello c)
    rw [boundary_of_stage hrole, hc]
    refine ⟨(hhello.mono (by decide)).next hkeeps (by decide), hhelloRegs.trans hregs,
      fun hlost => (hring (by rwa [hlink])).trans (hhello.part .ring (by decide)), ?_⟩
    rw [hstatus] at hsame
    exact hsame

theorem exec_boundary_of_due (h : 48 ≤ s.frameIndex) (pin : Bool) :
    exec (.superframeBoundary pin) s = .next (superframeStep pin s) :=
  congrArg Host.Outcome.next (if_pos (by simpa [boundaryDue] using h))

theorem exec_boundary_of_within (h : s.frameIndex < 48) (pin : Bool) : exec (.superframeBoundary pin) s = .next s :=
  congrArg Host.Outcome.next (if_neg (by simpa [boundaryDue] using h))

/-- What a boundary touches of the state in which it closes its ports. -/
theorem boundary_keeps_path (pin : Bool) (s : State) :
    Keeps [.superframe, .frameIndex, .stepperDue, .island, .button, .portA, .portB, .selector, .deliverer, .link, .sched,
      .scanner, .ring, .status, .regs] s (boundary pin s) :=
  (((advanceSuperframe_keeps s).mono (by decide)).next (closePorts_closed _).keeps (by decide)).next
    (boundary_rest pin s).keeps (by decide)

theorem closedRing_eq {p : PortId} {marginal : Bool} (hmarginal : (closedCounts (s.port p)).marginal = marginal) (r : Ring) :
    (marginal ≠ (s.port p).marginal →
        closedRing p s r = ringWith .portState (portNumber p) (if marginal then 3 else 2) (s.setRing r)) ∧
      (marginal = (s.port p).marginal → closedRing p s r = r) := by
  rw [← hmarginal]
  exact ⟨fun h => if_pos h, fun h => if_neg (not_not.2 h)⟩

/-- Settles O29: the ports and the selector close in the state that has begun the new superframe. -/
theorem superframePorts : Obligations.SuperframePorts := by
  unfold Obligations.SuperframePorts
  intro pin s u marginalOf cleanOf turned now told ports
  refine ⟨fun h => exec_boundary_of_within h pin, fun h => ⟨_, exec_boundary_of_due h pin, ?_⟩⟩
  have ht : superframeStep pin s = boundary pin u := rfl
  have hn := advanceSuperframe_keeps u
  generalize hnEq : advanceSuperframe u = n at hn
  have hclosed := closePorts_closed n
  have hrest := boundary_rest pin u
  have htally := tallied_tallied n
  rw [hnEq] at hrest
  have hport : ∀ p, n.port p = u.port p := fun p => hn.port p (by decide) (by decide)
  have hselector : n.selector = u.selector := hn.part .selector (by decide)
  have hdeliverer : n.deliverer = u.deliverer := hn.part .deliverer (by decide)
  have hstatus : n.status = u.status := hn.part .status (by decide)
  have hring : n.ring = u.ring := hn.part .ring (by decide)
  have hrole : n.role = u.role := hn.part .role (by decide)
  have hcount : n.superframe = u.superframe + 1 := by rw [← hnEq]; rfl
  have hlink : (closePorts n).link = u.link := (hclosed.keeps.part .link (by decide)).trans (hn.part .link (by decide))
  have hmarginal : ∀ p, (closedCounts (n.port p)).marginal = marginalOf (u.port p) := fun p => by
    rw [closedCounts_marginal, hport]
  have htold : ∀ p r, closedRing p n r = told p r := by
    intro p r
    obtain ⟨hturn, hstill⟩ := closedRing_eq (hmarginal p) r
    by_cases hturned : turned p
    · rw [hturn (by rwa [hport])]
      dsimp only [told]
      rw [if_pos hturned]
      exact ringWith_congr rfl hrole hcount
    · rw [hstill (by rw [hport]; exact not_not.1 hturned)]
      dsimp only [told]
      rw [if_neg hturned]
  have hports : (tallied n).ring = ports := by rw [htally.ring, htold, htold, hring]
  have hgives : ∀ p, GivesWay p n ↔ cleanOf (u.port (otherPort p)) ∧ marginalOf (u.port p) = true := by
    intro p
    rw [GivesWay, hport, hmarginal]
    rfl
  have htSelector : (superframeStep pin s).selector = (closePorts n).selector := hrest.keeps.part .selector (by decide)
  have htDeliverer : (superframeStep pin s).deliverer = (closePorts n).deliverer :=
    hrest.keeps.part .deliverer (by decide)
  have htRegs : RegsKept (closePorts n) (superframeStep pin s) := hrest.regs
  have htRing : u.link.state ≠ .lost → (superframeStep pin s).ring = (closePorts n).ring := fun hlost =>
    hrest.ring (by rwa [hlink])
  have htSwitches : (superframeStep pin s).status.switches = (closePorts n).status.switches := by
    rw [ht, hrest.status]
  refine ⟨?superframe, superframeStep_frameIndex pin s, fun p => ?port, fun p hturned => ?told, fun hnone => ?quiet,
    fun p hactive hclean hmarg => ?switch, fun p hactive hstays => ?stay, fun hlost hstays => ?ring, ?status,
    boundary_keeps_path pin u⟩
  case superframe =>
    rw [ht, hrest.keeps.part .superframe (by decide), hclosed.keeps.part .superframe (by decide), hcount]
  case port =>
    rw [ht, hrest.keeps.port p (by decide) (by decide), hclosed.switch.port p (by decide) (by decide), htally.port, hport,
      closedPort_eq, closedCounts_marginal]
  case told =>
    obtain ⟨hnoticed, hchanged⟩ := htally.told p (by unfold Turns; rwa [hmarginal, hport])
    have hregs := hclosed.switchRegs.trans htRegs
    exact ⟨noticed_of_regsKept hnoticed hregs, changed_of_regsKept hchanged hregs⟩
  case quiet =>
    have hstay := closePorts_of_none (s := n) (by rw [hselector]; exact hnone)
    have hclean : cleanAfter n = 0 := by simp only [cleanAfter, hselector, hnone]
    rw [htSelector, htDeliverer, htSwitches, hstay, htally.selector, hclean, hselector,
      htally.keeps.part .deliverer (by decide), htally.keeps.part .status (by decide), hdeliverer, hstatus]
    exact ⟨congrArg (Selector.mk · 0) hnone, rfl, rfl⟩
  case switch =>
    have hswitched := closePorts_of_switch (s := n) (by rw [hselector]; exact hactive) ((hgives p).2 ⟨hclean, hmarg⟩)
    rw [htSelector, htDeliverer, htSwitches, hswitched.selector, hswitched.deliverer, hswitched.status,
      htally.keeps.part .deliverer (by decide), htally.keeps.part .status (by decide), hdeliverer, hstatus]
    refine ⟨rfl, rfl, rfl, changed_of_regsKept hswitched.told htRegs, fun hlost => ?_⟩
    have hpending : (tallied n).deliverer = u.deliverer := (htally.keeps.part .deliverer (by decide)).trans hdeliverer
    have hpast : (tallied n).role = now.role ∧ (tallied n).superframe = now.superframe :=
      ⟨(htally.keeps.part .role (by decide)).trans hrole, (htally.keeps.part .superframe (by decide)).trans hcount⟩
    rw [htRing hlost, hswitched.ring]
    cases hsw : u.deliverer.switchover with
    | none =>
      rw [flushedRing_of_none (by rw [hpending, hsw])]
      exact hports
    | some moved =>
      obtain ⟨src, dst⟩ := moved
      rw [flushedRing_of_some (src := src) (dst := dst) (by rw [hpending, hsw]), hpending]
      exact ringWith_congr hports hpast.1 hpast.2
  case stay =>
    have hactive' : n.selector.active = some p := by rw [hselector]; exact hactive
    have hstay := closePorts_of_stay hactive' (mt (hgives p).1 hstays)
    rw [htSelector, htDeliverer, htSwitches, hstay, htally.selector, hselector,
      htally.keeps.part .deliverer (by decide), htally.keeps.part .status (by decide), hdeliverer, hstatus]
    refine ⟨hactive, rfl, rfl, fun hclean => ?_, fun hclean => ?_⟩
    · have hcounted := cleanAfter_of_clean hactive' (by rw [hport]; exact hclean)
      rw [hselector] at hcounted
      exact hcounted
    · exact cleanAfter_of_not_clean hactive' (by rw [hport]; exact hclean)
  case ring =>
    have hstay : closePorts n = tallied n := by
      cases hactive : u.selector.active with
      | none => exact closePorts_of_none (by rw [hselector, hactive])
      | some p => exact closePorts_of_stay (by rw [hselector, hactive]) (mt (hgives p).1 (hstays p hactive))
    rw [htRing hlost, hstay, hports]
  case status =>
    have hclosedStatus : (closePorts n).status =
        { u.status with switches := (superframeStep pin s).status.switches } := by
      rw [htSwitches]
      cases hactive : u.selector.active with
      | none =>
        rw [closePorts_of_none (s := n) (by rw [hselector, hactive]), htally.keeps.part .status (by decide), hstatus]
      | some p =>
        by_cases hmoves : GivesWay p n
        · rw [(closePorts_of_switch (s := n) (by rw [hselector, hactive]) hmoves).status,
            htally.keeps.part .status (by decide), hstatus]
        · rw [closePorts_of_stay (s := n) (by rw [hselector, hactive]) hmoves, htally.keeps.part .status (by decide),
            hstatus]
    have hall := hrest.status
    rw [hclosedStatus] at hall
    exact hall

end Sys2Proof.Machine
end


section
/-! What counts at a superframe boundary (R9, R50, R51, R69, R106, R123, R164, R176), and the timers of the stage that
the boundary and the frame carry (R130 to R133). -/

namespace Sys2Proof.Machine

variable {s t u : State}

/-! ## The ports' own part leaves the counters alone -/

theorem tallied_status (s : State) : (tallied s).status = s.status :=
  (tallied_tallied s).keeps.part .status (by decide)

theorem closePorts_status (s : State) :
    (closePorts s).status = { s.status with switches := (closePorts s).status.switches } := by
  have hstay : closePorts s = tallied s →
      (closePorts s).status = { s.status with switches := (closePorts s).status.switches } := fun h => by
    rw [h, tallied_status]
  cases hactive : s.selector.active with
  | none => exact hstay (closePorts_of_none hactive)
  | some p =>
    by_cases hgives : GivesWay p s
    · rw [(closePorts_of_switch hactive hgives).status, tallied_status]
    · exact hstay (closePorts_of_stay hactive hgives)

/-- The state whose counters a boundary counts. -/
def counting (s : State) : State := boundaryHello (closePorts (advanceSuperframe s))

theorem counting_keeps (s : State) : Keeps [.superframe, .frameIndex, .portA, .portB, .selector, .deliverer, .status, .ring,
    .sched, .regs, .link] s (counting s) :=
  (((advanceSuperframe_keeps s).mono (by decide)).next (closePorts_closed _).keeps (by decide)).next
    (boundaryHello_keeps _) (by decide)

theorem counting_regs (s : State) : RegsKept s (counting s) :=
  ((advanceSuperframe_acts s).regsKept.trans (closePorts_closed _).regs).trans
    (.of_regs ((boundaryHello_keeps _).part .regs (by decide)))

theorem counting_link (s : State) :
    (counting s).link = { s.link with helloAge := min 3 (s.link.helloAge + 1) } := by
  rw [counting, boundaryHello_link, (closePorts_closed _).keeps.part .link (by decide),
    (advanceSuperframe_keeps s).part .link (by decide)]

theorem counting_superframe (s : State) : (counting s).superframe = s.superframe + 1 := by
  rw [counting, (boundaryHello_keeps _).part .superframe (by decide),
    (closePorts_closed _).keeps.part .superframe (by decide)]
  rfl

theorem counting_ctrl (s : State) : (counting s).regs.ctrl = s.regs.ctrl := by
  obtain ⟨hregs, -, -⟩ := counting_regs s
  rw [hregs]

theorem counting_stageStatus (s : State) : (counting s).status.stageStatus = s.status.stageStatus := by
  rw [counting, (boundaryHello_keeps _).part .status (by decide), closePorts_status,
    (advanceSuperframe_keeps s).part .status (by decide)]

theorem boundaryHello_sched (s : State) : (boundaryHello s).sched =
    { s.sched with helloDue := s.link.state == .connecting || s.sched.helloDue } := by
  by_cases h : s.link.state = .connecting
  · have hdue : boundaryHello s =
        (s.setLink { s.link with helloAge := min 3 (s.link.helloAge + 1) }).setSched { s.sched with helloDue := true } :=
      if_pos h
    rw [hdue, h]
    rfl
  · have hnot : boundaryHello s = s.setLink { s.link with helloAge := min 3 (s.link.helloAge + 1) } := if_neg h
    rw [hnot, beq_eq_false_iff_ne.2 h, Bool.false_or]
    rfl

/-- The scheduler as the stage's blocks find it: a HELLO due in CONNECTING (R123). -/
theorem counting_sched (s : State) : ∃ cursor, (counting s).sched =
    { s.sched with noteCursor := cursor, helloDue := s.link.state == .connecting || s.sched.helloDue } := by
  have hclosed := closePorts_closed (advanceSuperframe s)
  have hlink : (closePorts (advanceSuperframe s)).link = s.link :=
    (hclosed.keeps.part .link (by decide)).trans ((advanceSuperframe_keeps s).part .link (by decide))
  refine ⟨(closePorts (advanceSuperframe s)).sched.noteCursor, ?_⟩
  rw [counting, boundaryHello_sched, hlink]
  have hsched : (closePorts (advanceSuperframe s)).sched =
      { s.sched with noteCursor := (closePorts (advanceSuperframe s)).sched.noteCursor } := hclosed.sched
  rw [hsched]

/-! ## The stage's counters (R50, R51, R69, R9, R106, R176) -/

/-- The island engages at this boundary. -/
def Engages (s : State) : Prop :=
  s.link.state = .lost ∧ s.island.engaged = false ∧ islandHold s ≠ 0 ∧
    1000 * islandHold s ≤ min 255000 (s.island.count + 1)

theorem countIsland_island (hrole : s.role = .stage) : (countIsland s).island =
    if s.link.state = .lost then { s.island with count := min 255000 (s.island.count + 1) } else s.island := by
  unfold countIsland
  by_cases h : s.link.state = .lost
  · rw [if_pos ⟨hrole, h⟩, if_pos h]
    rfl
  · rw [if_neg fun hboth => h hboth.2, if_neg h]

theorem islandHold_congr (h : t.stage = s.stage) : islandHold t = islandHold s :=
  congrArg BitVec.toNat (liveByte_of_stage h 225 0)

theorem islandDue_iff (hrole : s.role = .stage) (h : Keeps [.sched, .island] s t)
    (hisland : t.island = if s.link.state = .lost then { s.island with count := min 255000 (s.island.count + 1) }
      else s.island) : islandDue t = true ↔ Engages s := by
  have hrole' : t.role = .stage := (h.part .role (by decide)).trans hrole
  have hlink : t.link = s.link := h.part .link (by decide)
  have hhold : islandHold t = islandHold s := islandHold_congr (h.part .stage (by decide))
  unfold islandDue Engages islandElapsed
  rw [hrole', hlink, hhold]
  by_cases hlost : s.link.state = .lost
  · rw [if_pos hlost] at hisland
    have hseconds : ∀ count : Nat, islandHold s ≤ count / 1000 ↔ 1000 * islandHold s ≤ count := fun count => by omega
    rw [hisland]
    simp only [hlost, Bool.and_eq_true, decide_eq_true_eq, hseconds, beq_self_eq_true, true_and, and_assoc,
      Bool.not_eq_true', bne_iff_ne]
  · simp [hlost]

theorem engageIsland_of_due (h : islandDue s = true) : engageIsland s =
    writeEvent .islandDim (islandHold s) (BitVec.ofNat 32 (islandDim s))
      (s.setIsland { s.island with engaged := true }) := if_pos h

/-- The island at a stage's boundary, and the event of its engagement. -/
theorem islandCounted_spec (hrole : s.role = .stage) :
    (s.link.state ≠ .lost → (islandCounted s).island = s.island) ∧
      (s.link.state = .lost → ¬ Engages s →
        (islandCounted s).island = { s.island with count := min 255000 (s.island.count + 1) }) ∧
      (Engages s →
        (islandCounted s).island = { s.island with count := min 255000 (s.island.count + 1), engaged := true } ∧
          (islandCounted s).ring = ringWith .islandDim (islandHold s) (BitVec.ofNat 32 (islandDim s)) s) := by
  generalize hx : countIsland (boundaryScheduler s) = x
  have hscheduler := boundaryScheduler_keeps s
  have hkeeps : Keeps [.sched, .island] s x :=
    hx ▸ ((hscheduler.mono (by decide)).next (countIsland_keeps _) (by decide))
  have hisland : x.island = if s.link.state = .lost then { s.island with count := min 255000 (s.island.count + 1) }
      else s.island := by
    rw [← hx, countIsland_island ((hscheduler.part .role (by decide)).trans hrole)]
    rfl
  have hdue := islandDue_iff hrole hkeeps hisland
  have hcounted : islandCounted s = engageIsland x := by rw [islandCounted, hx]
  have hidle : ¬ Engages s → islandCounted s = x := fun h => by
    rw [hcounted, engageIsland_of_idle (Bool.eq_false_iff.2 (mt hdue.1 h))]
  refine ⟨fun h => ?_, fun h hnot => ?_, fun h => ?_⟩
  · rw [hidle fun hengages => h hengages.1, hisland, if_neg h]
  · rw [hidle hnot, hisland, if_pos h]
  · have hlost := h.1
    rw [if_pos hlost] at hisland
    have hhold : islandHold x = islandHold s := islandHold_congr (hkeeps.part .stage (by decide))
    have hdim : islandDim x = islandDim s := congrArg BitVec.toNat (liveByte_of_stage (hkeeps.part .stage (by decide)) 225 1)
    rw [hcounted, engageIsland_of_due (hdue.2 h), (writeEvent_keeps _ _ _ _).part .island (by decide), hhold, hdim,
      State.setIsland_island, hisland]
    refine ⟨rfl, (writeEvent_ring ..).trans ?_⟩
    exact ringWith_congr (hkeeps.part .ring (by decide)) (hkeeps.part .role (by decide))
      (hkeeps.part .superframe (by decide))

/-- What the last departure from LOST kept stays (log 20). -/
theorem islandCounted_kept (hrole : s.role = .stage) : (islandCounted s).island =
    { s.island with count := (islandCounted s).island.count, engaged := (islandCounted s).island.engaged } := by
  obtain ⟨haway, hcounts, hengages⟩ := islandCounted_spec hrole
  by_cases hlost : s.link.state = .lost
  · by_cases h : Engages s
    · rw [(hengages h).1]
    · rw [hcounts hlost h]
  · rw [haway hlost]

theorem islandCounted_cursorOnly (s : State) : CursorOnly (boundaryScheduler s) (islandCounted s) := by
  have hcount : CursorOnly (boundaryScheduler s) (countIsland (boundaryScheduler s)) :=
    .of_sched ((countIsland_keeps _).part .sched (by decide))
  unfold islandCounted engageIsland
  split
  · exact hcount.trans (.writeEvent ..)
  · exact hcount

/-- The scheduler at a stage's boundary (R106). -/
theorem islandCounted_sched (s : State) : ∃ cursor, (islandCounted s).sched =
    { s.sched with
      noteCursor := cursor,
      meterCount := 0,
      statusDue := s.sched.statusDue || (s.link.state == .linked && s.superframe.toNat % 8 == 0) } :=
  ⟨_, islandCounted_cursorOnly s⟩

/-! ### The button (R69, R70) -/

theorem sampleButton_of_level {pin : Bool} (hrole : s.role = .stage) (h : pin = s.button.pressed) :
    sampleButton pin s = s.setButton { s.button with pinLow := pin, counter := 0 } :=
  (if_pos hrole).trans (if_pos h)

theorem sampleButton_of_counting {pin : Bool} (hrole : s.role = .stage) (h : pin ≠ s.button.pressed)
    (hcount : s.button.counter < 19) :
    sampleButton pin s = s.setButton { s.button with pinLow := pin, counter := s.button.counter + 1 } :=
  (if_pos hrole).trans ((if_neg h).trans (if_pos hcount))

theorem sampleButton_of_twentieth {pin : Bool} (hrole : s.role = .stage) (h : pin ≠ s.button.pressed)
    (hcount : 19 ≤ s.button.counter) : sampleButton pin s =
      setChange .stageTalk (s.setButton { pinLow := pin, pressed := pin, counter := 0 }) :=
  (if_pos hrole).trans ((if_neg h).trans (if_neg (Nat.not_lt.2 hcount)))

/-! ### The stepper's timer and the status block (R9, R176) -/

theorem boundaryStepper_stepperDue (s : State) :
    (boundaryStepper s).stepperDue = (s.stepperDue || (s.superframe.toNat % 2 == 0)) := by
  by_cases h : s.superframe.toNat % 2 = 0
  · rw [show boundaryStepper s = s.setStepperDue true from if_pos h, h]
    exact (Bool.or_true _).symm
  · rw [show boundaryStepper s = s from if_neg h, beq_eq_false_iff_ne.2 h, Bool.or_false]

/-- What the blocks of a stage make of the state in which they count at a boundary. -/
structure StageCounted (pin : Bool) (c t : State) : Prop where
  keeps : Keeps [.stepperDue, .island, .button, .sched, .ring, .status, .regs] c t
  island : t.island = (islandCounted c).island
  ring : t.ring = (islandCounted c).ring
  sched : t.sched = (islandCounted c).sched
  level : pin = c.button.pressed → t.button = { c.button with pinLow := pin, counter := 0 }
  counting : pin ≠ c.button.pressed → c.button.counter < 19 →
    t.button = { c.button with pinLow := pin, counter := c.button.counter + 1 }
  twentieth : pin ≠ c.button.pressed → 19 ≤ c.button.counter →
    t.button = { pinLow := pin, pressed := pin, counter := 0 } ∧ noticed .link t ∧ changed .stageTalk t
  stepper : t.stepperDue = (c.stepperDue || (c.superframe.toNat % 2 == 0))
  status : t.status.stageStatus = statusPayload t

theorem boundaryStage_counted (pin : Bool) (hrole : s.role = .stage) : StageCounted pin s (boundaryStage pin s) := by
  rw [boundaryStage_eq]
  have hc := islandCounted_keeps s
  generalize hcEq : islandCounted s = c at hc
  have hroleC : c.role = .stage := (hc.part .role (by decide)).trans hrole
  have hbuttonC : c.button = s.button := hc.part .button (by decide)
  have hb := sampleButton_keeps pin c
  have hlevel := sampleButton_of_level (pin := pin) hroleC
  have hcounting := sampleButton_of_counting (pin := pin) hroleC
  have htwentieth := sampleButton_of_twentieth (pin := pin) hroleC
  generalize sampleButton pin c = b at hb hlevel hcounting htwentieth
  have hrest : Keeps [.stepperDue, .status] b (refreshStatus (boundaryStepper b)) :=
    ((boundaryStepper_keeps b).mono (by decide)).next (refreshStatus_keeps _) (by decide)
  have hbutton : (refreshStatus (boundaryStepper b)).button = b.button := hrest.part .button (by decide)
  refine ⟨((hc.mono (by decide)).next hb (by decide)).next hrest (by decide),
    (hrest.part .island (by decide)).trans ((hb.part .island (by decide)).trans (congrArg State.island hcEq.symm)),
    (hrest.part .ring (by decide)).trans ((hb.part .ring (by decide)).trans (congrArg State.ring hcEq.symm)),
    (hrest.part .sched (by decide)).trans ((hb.part .sched (by decide)).trans (congrArg State.sched hcEq.symm)),
    ?_, ?_, ?_, ?_, ?_⟩
  · intro h
    rw [hbutton, hlevel (h.trans (congrArg Button.pressed hbuttonC.symm)), State.setButton_button, hbuttonC]
  · intro h hcount
    rw [hbutton, hcounting (by rwa [hbuttonC]) (by rwa [hbuttonC]), State.setButton_button, hbuttonC]
  · intro h hcount
    have hturned := htwentieth (by rwa [hbuttonC]) (by rwa [hbuttonC])
    rw [hbutton, hturned]
    have hregs : RegsKept b (refreshStatus (boundaryStepper b)) := .of_regs (hrest.part .regs (by decide))
    rw [← hturned]
    exact ⟨by rw [hturned]; exact (setChange_keeps _ _).part .button (by decide),
      noticed_of_regsKept (hturned ▸ noticed_setChange ..) hregs,
      changed_of_regsKept (hturned ▸ changed_setChange ..) hregs⟩
  · rw [(refreshStatus_keeps _).part .stepperDue (by decide), boundaryStepper_stepperDue,
      hb.part .stepperDue (by decide), hb.part .superframe (by decide), hc.part .stepperDue (by decide),
      hc.part .superframe (by decide)]
  · rfl

/-! ### The scan timer (R164) -/

theorem countScan_of_stopped (h : s.regs.ctrl.run = false) : countScan s = s :=
  if_neg fun hboth => Bool.false_ne_true (h.symm.trans hboth.2)

theorem countScan_of_running (hrole : s.role = .desk) (hrun : s.regs.ctrl.run = true)
    (h : s.scanner.timer + 1 < 2 ^ s.regs.ctrl.period.toNat) :
    countScan s = s.setScanner { s.scanner with timer := s.scanner.timer + 1 } :=
  (if_pos ⟨hrole, hrun⟩).trans (if_neg (Nat.not_le.2 h))

theorem countScan_of_period (hrole : s.role = .desk) (hrun : s.regs.ctrl.run = true)
    (h : 2 ^ s.regs.ctrl.period.toNat ≤ s.scanner.timer + 1) : countScan s =
      s.setScanner { s.scanner with timer := 0, pos := some 0, reads := [], count := satSucc s.scanner.count } :=
  (if_pos ⟨hrole, hrun⟩).trans (if_pos h)

/-- A boundary's counting, of whichever role. -/
theorem boundary_counted (pin : Bool) (s : State) : Keeps [.scanner, .stepperDue, .island, .button, .sched, .ring,
    .status, .regs] (counting s) (boundary pin s) := by
  cases hrole : s.role with
  | desk =>
    rw [boundary_of_desk hrole]
    exact (countScan_keeps _).mono (by decide)
  | stage =>
    rw [boundary_of_stage hrole]
    exact (boundaryStage_keeps pin _).mono (by decide)

/-- Of the scheduler a boundary moves the forward cursor, the METER count and what is due (R106, R108, R123). -/
theorem boundary_sched (pin : Bool) (s : State) : ∃ cursor count status, (boundary pin s).sched =
    { s.sched with
      noteCursor := cursor, meterCount := count, statusDue := status,
      helloDue := s.link.state == .connecting || s.sched.helloDue } := by
  obtain ⟨cursor, hsched⟩ := counting_sched s
  cases hrole : s.role with
  | desk =>
    refine ⟨cursor, s.sched.meterCount, s.sched.statusDue, ?_⟩
    rw [boundary_of_desk hrole, (countScan_keeps _).part .sched (by decide)]
    exact hsched
  | stage =>
    have hcounted := boundaryStage_counted (s := counting s) pin
      (((counting_keeps s).part .role (by decide)).trans hrole)
    obtain ⟨later, hlater⟩ := islandCounted_sched (counting s)
    refine ⟨later, 0, (islandCounted (counting s)).sched.statusDue, ?_⟩
    have ht : boundary pin s = boundaryStage pin (counting s) := boundary_of_stage hrole pin
    rw [ht, hcounted.sched, hlater, hsched]

/-- Settles O30: each counter is read off the state in which the boundary counts it. -/
theorem superframeCounters : Obligations.SuperframeCounters := by
  unfold Obligations.SuperframeCounters
  intro pin s hdue u
  have hc := counting_keeps u
  have hcLink := counting_link u
  have hb := boundary_counted pin u
  have hcount : (boundary pin u).superframe = (counting u).superframe := hb.part .superframe (by decide)
  obtain ⟨cursor, count, status, hsched⟩ := boundary_sched pin u
  refine ⟨boundary pin u, exec_boundary_of_due hdue pin, (boundary_acts pin u).regsKept, fun h => ?_, fun h => ?_,
    (hb.part .link (by decide)).trans hcLink, ?_, ?_, fun hrole => ?desk, fun hrole => ?stage⟩
  · rw [hsched, h]
    rfl
  · rw [hsched, beq_eq_false_iff_ne.2 h, Bool.false_or]
  · rw [hsched]
  · rw [hsched]
  case desk =>
    have hroleC : (counting u).role = .desk := (hc.part .role (by decide)).trans hrole
    have ht : boundary pin u = countScan (counting u) := boundary_of_desk hrole pin
    have hscanner : (counting u).scanner = u.scanner := hc.part .scanner (by decide)
    have hctrl := counting_ctrl u
    refine ⟨?_, ?_, fun hrun => ?_, fun hrun hshort => ?_, fun hrun hreached => ?_⟩
    · rw [ht]
      exact (hc.mono (by decide)).next (countScan_keeps _) (by decide)
    · rw [ht, (countScan_keeps _).part .status (by decide), counting_stageStatus]
    · rw [ht, countScan_of_stopped (by rwa [hctrl]), hscanner]
    · rw [ht, countScan_of_running hroleC (by rwa [hctrl]) (by rwa [hctrl, hscanner]), State.setScanner_scanner, hscanner]
    · rw [ht, countScan_of_period hroleC (by rwa [hctrl]) (by rwa [hctrl, hscanner]), State.setScanner_scanner, hscanner]
  case stage =>
    intro hold total
    have hroleC : (counting u).role = .stage := (hc.part .role (by decide)).trans hrole
    have ht : boundary pin u = boundaryStage pin (counting u) := boundary_of_stage hrole pin
    have hcounted := boundaryStage_counted (s := counting u) pin hroleC
    rw [← ht] at hcounted
    have hislandC : (counting u).island = u.island := hc.part .island (by decide)
    have hbuttonC : (counting u).button = u.button := hc.part .button (by decide)
    have hstate : (counting u).link.state = u.link.state := by rw [hcLink]
    have hhold : islandHold (counting u) = hold := islandHold_congr (hc.part .stage (by decide))
    obtain ⟨haway, hcounts, hengages⟩ := islandCounted_spec hroleC
    have hiff : Engages (counting u) ↔
        u.link.state = .lost ∧ u.island.engaged = false ∧ hold ≠ 0 ∧ 1000 * hold ≤ total := by
      rw [Engages, hstate, hislandC, hhold]
    rw [hislandC, hstate] at haway hcounts
    rw [hislandC] at hengages
    refine ⟨(hc.mono (by decide)).next hcounted.keeps (by decide), ?status, fun h => hcounted.island.trans (haway h),
      fun h hnot => hcounted.island.trans (hcounts h (mt hiff.1 ?idle)),
      fun h hset hreached hoff => hcounted.island.trans (hengages (hiff.2 ⟨h, hoff, hset, hreached⟩)).1,
      ?level, ?counting, ?twentieth, ?stepper, ?meter, ?due⟩
    case idle =>
      rintro ⟨-, hoff, hset, hreached⟩
      rcases hnot with hzero | hshort | hon
      · exact hset hzero
      · exact absurd hreached (Nat.not_le.2 hshort)
      · exact Bool.false_ne_true (hoff.symm.trans hon)
    case status =>
      have hisland : (boundary pin u).island.lastEngaged = u.island.lastEngaged ∧
          (boundary pin u).island.lastElapsed = u.island.lastElapsed := by
        rw [hcounted.island, islandCounted_kept hroleC, hislandC]
        exact ⟨rfl, rfl⟩
      rw [hcounted.status, statusPayload, boolByte_eq, hisland.1, hisland.2, hb.part .clock (by decide),
        hc.part .clock (by decide), hb.part .link (by decide), hstate]
    case level => rw [← hbuttonC]; exact hcounted.level
    case counting => rw [← hbuttonC]; exact hcounted.counting
    case twentieth => rw [← hbuttonC]; exact hcounted.twentieth
    case stepper => rw [hcounted.stepper, hcount, hc.part .stepperDue (by decide)]
    case meter =>
      obtain ⟨later, hlater⟩ := islandCounted_sched (counting u)
      rw [hcounted.sched, hlater]
    case due =>
      obtain ⟨later, hlater⟩ := islandCounted_sched (counting u)
      obtain ⟨earlier, hearlier⟩ := counting_sched u
      rw [hcounted.sched, hlater, hearlier, hcount, hstate]
      simp

end Sys2Proof.Machine
end


section
/-! The timers of the stage at the moments that take them: the Clock Trim Unit at a frame and at the end of a trim
period (R130 to R133), the island's engagement (R51) and the button's change (R69). -/

namespace Sys2Proof.Machine

variable {s t u : State}

/-! ## The frame of the Clock Trim Unit (R130 to R133) -/

/-- A clock whose frame has ended, before the next one takes its length. -/
def endedFrame (c : Clock) : Clock :=
  { c with cut := .whole, lastArrival := c.lastArrival.map (fromNextFrame c.frameLen) }

theorem isMeasured_of_state {c : Clock} (h : c.state ≠ .locked) : isMeasured c = false := by
  unfold isMeasured
  split
  · rfl
  · rw [beq_eq_false_iff_ne.2 h, Bool.false_and]
  · rw [beq_eq_false_iff_ne.2 h, Bool.false_and]

theorem isMeasured_of_pending {c : Clock} (h : c.realignPending = true) : isMeasured c = false := by
  unfold isMeasured
  split <;> simp [h]

theorem isMeasured_of_cut {c : Clock} {n : Nat} (h : c.cut = .skipped n) : isMeasured c = false := by
  simp only [isMeasured, h]

theorem isMeasured_of_locked {c : Clock} (hstate : c.state = .locked) (hpending : c.realignPending = false)
    (hcut : ∀ n, c.cut ≠ .skipped n) : isMeasured c = true := by
  unfold isMeasured
  split
  next n h => exact absurd h (hcut n)
  · simp [hstate, hpending]
  · simp [hstate, hpending]

theorem clockFrame_of_free {c : Clock} (h : c.state = .free) :
    clockFrame c = { endedFrame c with frameLen := 512, ideal := 512 } := by
  simp only [clockFrame, isMeasured_of_state (c := c) (by simp [h]), h, endedFrame, fixedFrame,
    Bool.false_eq_true, if_false, Nat.cast_ofNat]

theorem clockFrame_of_pending {c : Clock} (h : c.state = .locked) (hpending : c.realignPending = true) :
    clockFrame c = { endedFrame c with frameLen := 512, ideal := 512 } := by
  simp only [clockFrame, isMeasured_of_pending hpending, h, hpending, endedFrame, fixedFrame,
    Bool.false_eq_true, if_false, if_true, Nat.cast_ofNat]

theorem clockFrame_of_measured {c : Clock} (h : c.state = .locked) (hpending : c.realignPending = false)
    (hcut : ∀ n, c.cut ≠ .skipped n) : clockFrame c = { endedFrame c with
      frameLen := (c.ideal - c.frameLen + c.period).ceil.toNat, ideal := c.ideal - c.frameLen + c.period,
      measFrames := c.measFrames + 1, measCycles := c.measCycles + c.frameLen } := by
  simp only [clockFrame, isMeasured_of_locked h hpending hcut, h, hpending, endedFrame, idealFrame,
    Bool.false_eq_true, if_false, if_true]

theorem clockFrame_of_cut {c : Clock} {n : Nat} (h : c.state = .locked) (hpending : c.realignPending = false)
    (hcut : c.cut = .skipped n) : clockFrame c = { endedFrame c with
      frameLen := (c.ideal - c.frameLen + c.period).ceil.toNat, ideal := c.ideal - c.frameLen + c.period } := by
  simp only [clockFrame, isMeasured_of_cut hcut, h, hpending, endedFrame, idealFrame,
    Bool.false_eq_true, if_false]

theorem holdoverLength_eq (trim : Int) (runPos : Nat) : holdoverLength trim runPos =
    if (runPos : Int) < trim then 513 else if (runPos : Int) < -trim then 511 else 512 := by
  unfold holdoverLength
  split_ifs <;> omega

theorem clockFrame_of_holdover {c : Clock} (h : c.state = .holdover) : clockFrame c = { endedFrame c with
    frameLen := holdoverLength c.trim c.runPos, ideal := holdoverLength c.trim c.runPos,
    runPos := (c.runPos + 1) % 4096 } := by
  simp only [clockFrame, isMeasured_of_state (c := c) (by simp [h]), h, endedFrame, fixedFrame,
    Bool.false_eq_true, if_false]

theorem farTaken_clock (hrole : s.role = .stage) : (farTaken s).clock = clockFrame s.clock := by
  have hstep : clockStep s = s.setClock (clockFrame s.clock) := by simp only [clockStep, hrole]
  rw [farTaken, (farFrame_keeps _).part .clock (by decide), hstep, State.setClock_clock]

/-! ## The end of a trim period (R132) -/

theorem clampTrim_eq (d : Int) : clampTrim d = max (-64) (min 63 d) := saturate_eq_max_min (by decide) d

theorem clampTrim_eq_self (d : Int) : clampTrim d = d ↔ -64 ≤ d ∧ d ≤ 63 := by
  rw [clampTrim_eq]
  omega

/-- The clock of a trim period that has run its frames. -/
def periodEnded (s : State) : State :=
  s.setClock { s.clock with trim := clampTrim (trimError s.clock.measCycles), measFrames := 0, measCycles := 0 }

theorem endTrimPeriod_of_run (hrole : s.role = .stage) (h : 4096 ≤ s.clock.measFrames) : endTrimPeriod s =
    if clampTrim (trimError s.clock.measCycles) = trimError s.clock.measCycles then periodEnded s
    else writeEvent .clockRange 0 (BitVec.ofInt 32 (trimError s.clock.measCycles)) (periodEnded s) :=
  if_pos ⟨hrole, h⟩

theorem endTrimPeriod_spec (hrole : s.role = .stage) (h : 4096 ≤ s.clock.measFrames) :
    (endTrimPeriod s).clock = (periodEnded s).clock ∧
      (endTrimPeriod s).ring =
        if -64 ≤ trimError s.clock.measCycles ∧ trimError s.clock.measCycles ≤ 63 then s.ring
        else ringWith .clockRange 0 (BitVec.ofInt 32 (trimError s.clock.measCycles)) s := by
  rw [endTrimPeriod_of_run hrole h]
  by_cases hclamp : clampTrim (trimError s.clock.measCycles) = trimError s.clock.measCycles
  · rw [if_pos hclamp, if_pos ((clampTrim_eq_self _).1 hclamp)]
    exact ⟨rfl, rfl⟩
  · rw [if_neg hclamp, if_neg (mt (clampTrim_eq_self _).2 hclamp)]
    exact ⟨(writeEvent_keeps _ _ _ _).part .clock (by decide), (writeEvent_ring ..).trans (ringWith_congr rfl rfl rfl)⟩

/-! ## The island's engagement and the button's change at their boundary (R51, R69) -/

theorem endSuperframe_island (s : State) : (endSuperframe s).island = (settle s).island :=
  ((JudgeStep.judgePorts _).keeps.part .island (by decide)).trans ((finishScan_keeps _).part .island (by decide))

/-- With no port LOCKED a boundary writes no event of a port. -/
theorem counting_ring_of_idle (h : ∀ p, (s.port p).state ≠ .locked) : (counting s).ring = s.ring := by
  have hn := advanceSuperframe_keeps s
  generalize hnEq : advanceSuperframe s = n at hn
  have hport : ∀ p, n.port p = s.port p := fun p => hn.port p (by decide) (by decide)
  have hstay : closePorts n = tallied n := by
    cases hactive : n.selector.active with
    | none => exact closePorts_of_none hactive
    | some p =>
      refine closePorts_of_stay hactive fun hgives => h (otherPort p) ?_
      rw [← hport]
      exact hgives.1.1
  have hstill : ∀ p r, closedRing p n r = r := fun p r =>
    if_neg (not_not.2 (by rw [closedCounts_of_idle (by rw [hport]; exact h p)]))
  rw [counting, hnEq, (boundaryHello_keeps _).part .ring (by decide), hstay, (tallied_tallied n).ring, hstill, hstill,
    hn.part .ring (by decide)]

/-- The island at a stage's boundary. -/
theorem boundary_island (pin : Bool) (hrole : s.role = .stage) :
    (boundary pin s).island = (islandCounted (counting s)).island ∧
      (boundary pin s).ring = (islandCounted (counting s)).ring := by
  have ht : boundary pin s = boundaryStage pin (counting s) := boundary_of_stage hrole pin
  have hcounted := boundaryStage_counted (s := counting s) pin (((counting_keeps s).part .role (by decide)).trans hrole)
  rw [ht]
  exact ⟨hcounted.island, hcounted.ring⟩

theorem engages_counting (s : State) : Engages (counting s) ↔
    s.link.state = .lost ∧ s.island.engaged = false ∧ (liveByte s 225 0).toNat ≠ 0 ∧
      1000 * (liveByte s 225 0).toNat ≤ min 255000 (s.island.count + 1) := by
  have hhold : islandHold (counting s) = (liveByte s 225 0).toNat :=
    islandHold_congr ((counting_keeps s).part .stage (by decide))
  rw [Engages, counting_link, (counting_keeps s).part .island (by decide), hhold]

theorem exec_islandEngage_of_idle (h : ¬ (48 ≤ s.frameIndex ∧
    (superframeStep s.button.pinLow s).island.engaged = true ∧ (settle s).island.engaged = false)) :
    exec .islandEngage s = .next s := by
  refine congrArg Host.Outcome.next (if_neg fun hall => h ?_)
  simpa [boundaryDue, and_assoc] using hall

theorem exec_islandEngage_of_due (hdue : 48 ≤ s.frameIndex)
    (hengaged : (superframeStep s.button.pinLow s).island.engaged = true) (hbefore : (settle s).island.engaged = false) :
    exec .islandEngage s = .next (superframeStep s.button.pinLow s) := by
  refine congrArg Host.Outcome.next (if_pos ?_)
  simp [boundaryDue, hdue, hengaged, hbefore]

theorem exec_debounceChange_of_still (h : s.frameIndex < 48 ∨
    (superframeStep (!s.button.pressed) s).button.pressed = s.button.pressed) : exec .debounceChange s = .next s := by
  refine congrArg Host.Outcome.next (if_neg fun hall => ?_)
  obtain ⟨hdue, hturned⟩ := Bool.and_eq_true_iff.1 hall
  have hlate : 48 ≤ s.frameIndex := of_decide_eq_true hdue
  rcases h with hwithin | hsame
  · omega
  · exact bne_iff_ne.1 hturned hsame

theorem exec_debounceChange_of_turned (hdue : 48 ≤ s.frameIndex)
    (hturned : (superframeStep (!s.button.pressed) s).button.pressed = !s.button.pressed) :
    exec .debounceChange s = .next (superframeStep (!s.button.pressed) s) := by
  refine congrArg Host.Outcome.next (if_pos ?_)
  simp [boundaryDue, hdue, hturned]

/-- ISLAND_ENGAGE of a stage: the boundary that engages the island. -/
theorem islandEngage_spec (hrole : s.role = .stage) (u : State) (hu : u = endSuperframe s) :
    (¬ (48 ≤ s.frameIndex ∧ Engages (counting u)) → exec .islandEngage s = .next s) ∧
      (48 ≤ s.frameIndex → Engages (counting u) → ∃ t, exec .islandEngage s = .next t ∧
        exec (.superframeBoundary s.button.pinLow) s = .next t ∧
        t.island = { u.island with count := min 255000 (u.island.count + 1), engaged := true } ∧
        (u.portA.state ≠ .locked → u.portB.state ≠ .locked →
          t.ring = ringWith .islandDim (liveByte u 225 0).toNat ((liveByte u 225 1).setWidth 32)
            (u.setSuperframe (u.superframe + 1)))) := by
  have hroleU : u.role = .stage := by rw [hu, (endSuperframe_keeps s).part .role (by decide), hrole]
  have ht : superframeStep s.button.pinLow s = boundary s.button.pinLow u := by rw [hu]; rfl
  obtain ⟨hisland, hring⟩ := boundary_island s.button.pinLow hroleU
  have hc := counting_keeps u
  have hroleC : (counting u).role = .stage := (hc.part .role (by decide)).trans hroleU
  have hislandC : (counting u).island = u.island := hc.part .island (by decide)
  have hsettled : (settle s).island = u.island := by rw [hu, endSuperframe_island]
  obtain ⟨haway, hcounts, hengages⟩ := islandCounted_spec hroleC
  rw [hislandC] at haway hcounts hengages
  refine ⟨fun hnot => exec_islandEngage_of_idle ?_, fun hdue hgo => ?_⟩
  · rintro ⟨hdue, hengaged, hoff⟩
    have hidle : ¬ Engages (counting u) := fun hgo => hnot ⟨hdue, hgo⟩
    have hsame : (islandCounted (counting u)).island.engaged = u.island.engaged := by
      by_cases hlost : (counting u).link.state = .lost
      · rw [hcounts hlost hidle]
      · rw [haway hlost]
    rw [ht, hisland, hsame, ← hsettled, hoff] at hengaged
    exact Bool.false_ne_true hengaged
  · obtain ⟨hafter, htold⟩ := hengages hgo
    have hoff : u.island.engaged = false := hislandC ▸ hgo.2.1
    refine ⟨_, exec_islandEngage_of_due hdue ?_ (by rw [hsettled, hoff]), exec_boundary_of_due hdue _, ?_, fun hA hB => ?_⟩
    · rw [ht, hisland, hafter]
    · rw [ht, hisland, hafter]
    · have hquiet : (counting u).ring = u.ring := counting_ring_of_idle fun p => by cases p <;> assumption
      have hlive : ∀ k, liveByte (counting u) 225 k = liveByte u 225 k := fun k =>
        liveByte_of_stage (hc.part .stage (by decide)) 225 k
      have hhold : islandHold (counting u) = (liveByte u 225 0).toNat := congrArg BitVec.toNat (hlive 0)
      have hdim : islandDim (counting u) = (liveByte u 225 1).toNat := congrArg BitVec.toNat (hlive 1)
      rw [ht, hring, htold, hhold, hdim, BitVec.ofNat_toNat]
      exact ringWith_congr hquiet (hc.part .role (by decide)) (counting_superframe u)

/-- DEBOUNCE_CHANGE of a stage: the boundary that takes the 20th sample at the other level. -/
theorem debounceChange_spec (hrole : s.role = .stage) :
    (s.frameIndex < 48 ∨ s.button.counter < 19 → exec .debounceChange s = .next s) ∧
      (48 ≤ s.frameIndex → 19 ≤ s.button.counter → ∃ t, exec .debounceChange s = .next t ∧
        exec (.superframeBoundary (!s.button.pressed)) s = .next t ∧
        t.button = { pinLow := !s.button.pressed, pressed := !s.button.pressed, counter := 0 } ∧ noticed .link t ∧
        changed .stageTalk t) := by
  have hu := endSuperframe_keeps s
  generalize huEq : endSuperframe s = u at hu
  have hroleU : u.role = .stage := (hu.part .role (by decide)).trans hrole
  have hc := counting_keeps u
  have hroleC : (counting u).role = .stage := (hc.part .role (by decide)).trans hroleU
  have ht : superframeStep (!s.button.pressed) s = boundaryStage (!s.button.pressed) (counting u) := by
    rw [superframeStep, huEq]
    exact boundary_of_stage hroleU _
  have hbutton : (counting u).button = s.button := (hc.part .button (by decide)).trans (hu.part .button (by decide))
  have hcounted := boundaryStage_counted (!s.button.pressed) hroleC
  have hother : (!s.button.pressed) ≠ (counting u).button.pressed := by
    rw [hbutton]
    exact Bool.not_ne_self _
  rw [← ht] at hcounted
  have hcounting := hcounted.counting hother
  have htwentieth := hcounted.twentieth hother
  rw [hbutton] at hcounting htwentieth
  refine ⟨fun h => exec_debounceChange_of_still (h.imp_right fun hshort => ?_), fun hdue hlong => ?_⟩
  · rw [hcounting hshort]
  · obtain ⟨hafter, hnoticed, hchanged⟩ := htwentieth hlong
    exact ⟨_, exec_debounceChange_of_turned hdue (by rw [hafter]), exec_boundary_of_due hdue _, hafter, hnoticed, hchanged⟩

/-- Settles O50: the boundary's counters, the end of the trim period, and the clock's course through a frame. -/
theorem stageTimers : Obligations.StageTimers := by
  unfold Obligations.StageTimers
  intro s hrole
  obtain ⟨hidle, hengage⟩ := islandEngage_spec hrole _ rfl
  obtain ⟨hstill, hturned⟩ := debounceChange_spec hrole
  refine ⟨?island, hstill, hturned, fun hrun => ?ended, fun hopen => congrArg Host.Outcome.next (endTrimPeriod_of_open hopen),
    fun slots cycles => ?frame⟩
  case island =>
    intro u hold count engages
    have hiff : engages ↔ 48 ≤ s.frameIndex ∧ Engages (counting u) := by rw [engages_counting]
    exact ⟨fun h => hidle (mt hiff.2 h), fun h => hengage (hiff.1 h).1 (hiff.1 h).2⟩
  case ended =>
    intro d
    obtain ⟨hclock, hring⟩ := endTrimPeriod_spec hrole hrun
    refine ⟨endTrimPeriod s, rfl, (endTrimPeriod_keeps s).mono (by decide), (Acts.one (.endTrimPeriod s)).regsKept, ?_, hring⟩
    rw [hclock, periodEnded, State.setClock_clock, clampTrim_eq]
    rfl
  case frame =>
    intro u c next holdover ended
    have hroleU : u.role = .stage := (beforeFrame_role s).trans hrole
    have hfar := farTaken_keeps u
    have hlink : (farTaken u).link = u.link := hfar.part .link (by decide)
    have hclock : (farTaken u).clock = clockFrame c := farTaken_clock hroleU
    have hrest := frameRest slots u
    refine ⟨frameStep slots u, rfl, fun hsame => ?same, fun hmoved => ?moved⟩
    case same =>
      obtain ⟨-, -, hkept⟩ := hrest.same (by rwa [hlink])
      rw [hkept, hclock]
      refine ⟨clockFrame_of_free, clockFrame_of_pending, clockFrame_of_measured, fun n => clockFrame_of_cut,
        fun hstate => ?_⟩
      rw [clockFrame_of_holdover hstate, holdoverLength_eq]
      rfl
    case moved =>
      obtain ⟨-, hstate, hpending, hframes, hcycles, hpos⟩ := hrest.bridged (by rwa [hlink])
        ((hfar.part .role (by decide)).trans hroleU)
      exact ⟨hstate, hpending, hframes, hcycles, hpos⟩

end Sys2Proof.Machine
end


section
/-! What is settled before a frame or a boundary (log 3): each block's steps that are due are taken, none is left due,
and where none is due nothing changes. -/

namespace Sys2Proof.Machine

variable {s t u : State}

/-! ## A list of steps -/

/-- What each step of a list establishes for its own member, and no other step undoes, holds of every member after the
list. -/
theorem forEach_establishes {α : Type} {P : α → State → Prop} {f : α → State → State} (hself : ∀ a s, P a (f a s))
    (hkept : ∀ a b s, a ≠ b → P a s → P a (f b s)) {l : List α} {a : α} (ha : a ∈ l) (s : State) :
    P a (forEach f l s) := by
  have hall : ∀ b x, P a x → P a (f b x) := fun b x hx => by
    by_cases hab : a = b
    · exact hab ▸ hself a x
    · exact hkept a b x hab hx
  induction l generalizing s with
  | nil => exact absurd ha List.not_mem_nil
  | cons b l ih =>
    rcases List.mem_cons.1 ha with rfl | ha
    · exact forEach_preserves hall l (hself a s)
    · exact ih ha (f b s)

theorem forEach_of_still {α : Type} {f : α → State → State} {l : List α} (h : ∀ a ∈ l, f a s = s) : forEach f l s = s :=
  forEach_preserves_of_mem (P := fun x => x = s) (fun a ha x hx => by rw [hx, h a ha]) rfl

/-! ## The Phantom Sequencer (R11, R12, R14) -/

/-- The timer of CHARGING or DISCHARGING has reached its expiry. -/
def TimerUp (now : Word) (c : Channel) : Prop :=
  (c.phantom = .charging ∨ c.phantom = .discharging) ∧ ∃ e, c.phantomTimer = some e ∧ reached now e = true

theorem not_reacts_of_phantom {c : Channel} (h : c.phantom ≠ .mutingOn ∧ c.phantom ≠ .mutingOff) : ¬ Reacts c := by
  rintro ⟨-, -, hphantom⟩
  exact hphantom.elim h.1 h.2

theorem not_timerUp_of_phantom {now : Word} {c : Channel} (h : c.phantom ≠ .charging ∧ c.phantom ≠ .discharging) :
    ¬ TimerUp now c := by
  rintro ⟨hphantom, -⟩
  exact hphantom.elim h.1 h.2

/-- A number past the table reads a channel at rest. -/
theorem lt_length_of_phantom {n : Nat} (h : (channelAt s n).phantom ≠ .off) : n < s.channels.length := by
  by_contra hge
  refine h ?_
  rw [channelAt, List.getD_eq_default _ _ (Nat.le_of_not_lt hge)]
  rfl

theorem closedChannel_not_reacts {now : Word} {c : Channel} (h : Reacts c) : ¬ Reacts (closedChannel now c) := by
  obtain ⟨-, -, hphantom⟩ := h
  refine not_reacts_of_phantom ?_
  rcases hphantom with h | h <;> simp [closedChannel, h]

theorem phantomClosed_not_reacts (n : Nat) (s : State) : ¬ Reacts (channelAt (phantomClosed n s) n) := by
  by_cases h : Reacts (channelAt s n)
  · have hn : n < s.channels.length := lt_length_of_phantom (by
      obtain ⟨-, -, hphantom⟩ := h
      rcases hphantom with h | h <;> simp [h])
    rw [phantomClosed_of_reacts h, channelAt_of_set_self (enqueue_channels ..) hn]
    exact closedChannel_not_reacts h
  · rwa [phantomClosed_of_not_reacts h]

theorem gateClosedReaction_of_stage (hrole : s.role = .stage) (n : Nat) : gateClosedReaction n s = phantomClosed n s :=
  if_pos hrole

theorem gateClosedReaction_onlyChannel (n : Nat) (s : State) : OnlyChannel n s (gateClosedReaction n s) := by
  unfold gateClosedReaction
  split
  · exact phantomClosed_onlyChannel n s
  · exact .refl n s

theorem OnlyChannel.other {n m : Nat} (h : OnlyChannel n s t) (hm : m ≠ n) : channelAt t m = channelAt s m := by
  obtain ⟨c, hchannels⟩ := h
  exact channelAt_of_set_other hchannels hm

/-- After the reactions to closed gates no channel waits for one (R12, R14). -/
theorem forEach_gateClosed_not_reacts {l : List Nat} {n : Nat} (hn : n ∈ l) (hrole : s.role = .stage) :
    ¬ Reacts (channelAt (forEach gateClosedReaction l s) n) := by
  refine forEach_establishes (P := fun n x => x.role = .stage → ¬ Reacts (channelAt x n)) (fun a x hx => ?_)
    (fun a b x hab h hx => ?_) hn s (((forEach_keeps gateClosedReaction_keeps l s).part .role (by decide)).trans hrole)
  · rw [gateClosedReaction_keeps a x .role (by decide)] at hx
    rw [gateClosedReaction_of_stage hx]
    exact phantomClosed_not_reacts a x
  · rw [gateClosedReaction_keeps b x .role (by decide)] at hx
    rw [(gateClosedReaction_onlyChannel b x).other hab]
    exact h hx

theorem phantomTimeout_onlyChannel (n : Nat) (s : State) : OnlyChannel n s (phantomTimeout n s) := by
  unfold phantomTimeout
  dsimp only
  split
  · exact .set ..
  · exact .set ..
  all_goals exact .refl n s

theorem phantomTimeout_of_idle {n : Nat}
    (h : (channelAt s n).phantom ≠ .charging ∧ (channelAt s n).phantom ≠ .discharging) : phantomTimeout n s = s := by
  unfold phantomTimeout
  dsimp only
  split
  next hcharging => exact absurd hcharging h.1
  next hdischarging => exact absurd hdischarging h.2
  all_goals rfl

theorem phantomDue_iff (s : State) (n : Nat) :
    phantomDue s n = true ↔ ∃ e, (channelAt s n).phantomTimer = some e ∧ reached s.superframe e = true := by
  unfold phantomDue
  cases (channelAt s n).phantomTimer <;> simp

/-- A channel past its timer is ON or OFF (R13, R14). -/
theorem phantomTimeout_channel (n : Nat) (s : State) :
    (channelAt (phantomTimeout n s) n = channelAt s n ∧ (channelAt s n).phantom ≠ .charging ∧
        (channelAt s n).phantom ≠ .discharging) ∨
      (channelAt (phantomTimeout n s) n).phantom = .on ∨ (channelAt (phantomTimeout n s) n).phantom = .off := by
  have hset : ∀ c, (channelAt s n).phantom ≠ .off → channelAt (setChannel n c s) n = c := fun c h =>
    channelAt_of_set_self (setChannel_channels ..) (lt_length_of_phantom h)
  cases hphantom : (channelAt s n).phantom with
  | charging =>
    simp only [phantomTimeout, hphantom]
    rw [hset _ (by simp [hphantom])]
    exact .inr (.inl rfl)
  | discharging =>
    simp only [phantomTimeout, hphantom]
    rw [hset _ (by simp [hphantom])]
    exact .inr (.inr rfl)
  | off | mutingOn | on | mutingOff | fault =>
    have hstill : phantomTimeout n s = s := phantomTimeout_of_idle (by simp [hphantom])
    exact .inl ⟨congrArg (channelAt · n) hstill, by simp, by simp⟩

theorem phantomExpiry_onlyChannel (n : Nat) (s : State) : OnlyChannel n s (phantomExpiry n s) := by
  unfold phantomExpiry
  split
  · exact phantomTimeout_onlyChannel n s
  · exact .refl n s

theorem phantomExpiry_not_reacts {n m : Nat} (h : ¬ Reacts (channelAt s m)) :
    ¬ Reacts (channelAt (phantomExpiry n s) m) := by
  by_cases hm : m = n
  · subst hm
    unfold phantomExpiry
    split
    · rcases phantomTimeout_channel m s with ⟨hsame, -⟩ | hon | hoff
      · rwa [hsame]
      · exact not_reacts_of_phantom (by simp [hon])
      · exact not_reacts_of_phantom (by simp [hoff])
    · exact h
  · rwa [(phantomExpiry_onlyChannel n s).other hm]

theorem phantomExpiry_not_timerUp (n : Nat) (hrole : s.role = .stage) :
    ¬ TimerUp s.superframe (channelAt (phantomExpiry n s) n) := by
  unfold phantomExpiry
  split
  next =>
    rcases phantomTimeout_channel n s with ⟨hsame, hphantom⟩ | hon | hoff
    · rw [hsame]
      exact not_timerUp_of_phantom hphantom
    · exact not_timerUp_of_phantom (by simp [hon])
    · exact not_timerUp_of_phantom (by simp [hoff])
  next hnot =>
    exact fun hup => hnot ⟨hrole, (phantomDue_iff s n).2 hup.2⟩

theorem phantomExpiry_of_still {n : Nat} (h : ¬ TimerUp s.superframe (channelAt s n)) : phantomExpiry n s = s := by
  unfold phantomExpiry
  split
  next hdue =>
    exact phantomTimeout_of_idle (not_or.1 fun hphantom => h ⟨hphantom, (phantomDue_iff s n).1 hdue.2⟩)
  next => rfl

/-- After the timers' expiries no timer that has run out is left (R13, R14). -/
theorem forEach_phantomExpiry_not_timerUp {l : List Nat} {n : Nat} (hn : n ∈ l) (hrole : s.role = .stage) :
    ¬ TimerUp (forEach phantomExpiry l s).superframe (channelAt (forEach phantomExpiry l s) n) := by
  refine forEach_establishes (P := fun n x => x.role = .stage → ¬ TimerUp x.superframe (channelAt x n))
    (fun a x hx => ?_) (fun a b x hab h hx => ?_) hn s
    (((forEach_keeps phantomExpiry_keeps l s).part .role (by decide)).trans hrole)
  · rw [phantomExpiry_keeps a x .role (by decide)] at hx
    rw [phantomExpiry_keeps a x .superframe (by decide)]
    exact phantomExpiry_not_timerUp a hx
  · rw [phantomExpiry_keeps b x .role (by decide)] at hx
    rw [phantomExpiry_keeps b x .superframe (by decide), (phantomExpiry_onlyChannel b x).other hab]
    exact h hx

/-! ## What the stepper and the port leave of the sequencer (R9, R18) -/

/-- The sequencer's fields of a channel, and its gate, are the same. -/
structure SameSequencer (c d : Channel) : Prop where
  gate : d.gate = c.gate
  phantom : d.phantom = c.phantom
  timer : d.phantomTimer = c.phantomTimer

theorem SameSequencer.reacts {c d : Channel} (h : SameSequencer c d) : Reacts d ↔ Reacts c := by
  rw [Reacts, Reacts, h.gate, h.phantom]

theorem SameSequencer.timerUp {c d : Channel} (h : SameSequencer c d) (now : Word) : TimerUp now d ↔ TimerUp now c := by
  rw [TimerUp, TimerUp, h.phantom, h.timer]

/-- Every channel keeps its sequencer. -/
def SequencersKept (s t : State) : Prop := ∀ n, SameSequencer (channelAt s n) (channelAt t n)

theorem SequencersKept.of_channels (h : t.channels = s.channels) : SequencersKept s t := fun n => by
  rw [channelAt_of_channels h]
  exact ⟨rfl, rfl, rfl⟩

theorem SequencersKept.trans (h : SequencersKept s t) (g : SequencersKept t u) : SequencersKept s u := fun n =>
  ⟨(g n).gate.trans (h n).gate, (g n).phantom.trans (h n).phantom, (g n).timer.trans (h n).timer⟩

theorem setChannel_sequencersKept {n : Nat} {c : Channel} (h : SameSequencer (channelAt s n) c) :
    SequencersKept s (setChannel n c s) := by
  intro m
  by_cases hm : m = n
  · subst hm
    by_cases hlength : m < s.channels.length
    · rwa [channelAt_of_set_self (setChannel_channels ..) hlength]
    · have hsame : (setChannel m c s).channels = s.channels := by
        rw [setChannel_channels, List.set_eq_of_length_le (Nat.le_of_not_lt hlength)]
      rw [channelAt_of_channels hsame]
      exact ⟨rfl, rfl, rfl⟩
  · rw [channelAt_of_set_other (setChannel_channels ..) hm]
    exact ⟨rfl, rfl, rfl⟩

theorem stepChannel_sequencersKept (n : Nat) (s : State) : SequencersKept s (stepChannel n s) := by
  cases h : steps s n
  · rw [stepChannel_of_not_steps h]
    exact .of_channels rfl
  · have hset : SequencersKept s (setChannel n (steppedChannel s n) s) := setChannel_sequencersKept ⟨rfl, rfl, rfl⟩
    rw [stepChannel_of_steps h]
    exact hset.trans (.of_channels (enqueue_channels ..))

theorem stepperExpiry_sequencersKept (s : State) : SequencersKept s (stepperExpiry s) := by
  unfold stepperExpiry
  split
  · exact forEach_preserves (P := SequencersKept s) (fun n x hx => hx.trans (stepChannel_sequencersKept n x)) _
      (.of_channels rfl)
  · exact .of_channels rfl

theorem startTransfer_sequencersKept (s : State) : SequencersKept s (startTransfer s) := by
  unfold startTransfer
  split
  · exact SequencersKept.trans (t := s.setPreamp _) (.of_channels rfl) (setChannel_sequencersKept ⟨rfl, rfl, rfl⟩)
  · exact .of_channels rfl

/-! ## The stage's steps that are due -/

/-- No step of a stage's blocks is due. -/
structure StageQuiet (s : State) : Prop where
  gates : ∀ n < 96, ¬ Reacts (channelAt s n)
  phantoms : ∀ n < 96, ¬ TimerUp s.superframe (channelAt s n)
  trim : s.clock.measFrames < 4096
  stepper : s.stepperDue = false
  transfer : s.preamp.transfer = none → s.preamp.queue = []

theorem endTrimPeriod_ended (hrole : s.role = .stage) : (endTrimPeriod s).clock.measFrames < 4096 := by
  by_cases h : s.clock.measFrames < 4096
  · rwa [endTrimPeriod_of_open h]
  · rw [(endTrimPeriod_spec hrole (Nat.le_of_not_lt h)).1]
    exact Nat.zero_lt_succ 4095

theorem stepperExpiry_taken (hrole : s.role = .stage) : (stepperExpiry s).stepperDue = false := by
  unfold stepperExpiry
  split
  next =>
    exact ((forEach_keeps (T := [.channels, .preamp]) stepChannel_keeps _ _).part .stepperDue (by decide)).trans rfl
  next hnot => exact Bool.eq_false_iff.2 fun hdue => hnot ⟨hrole, hdue⟩

theorem startTransfer_taken (hrole : s.role = .stage) (h : (startTransfer s).preamp.transfer = none) :
    (startTransfer s).preamp.queue = [] := by
  by_cases hbusy : s.preamp.queue = [] ∨ s.preamp.transfer ≠ none
  · rw [startTransfer_of_busy hbusy] at h ⊢
    exact hbusy.resolve_right (not_not.2 h)
  · obtain ⟨hqueue, hidle⟩ := not_or.1 hbusy
    obtain ⟨n, rest, hcons⟩ := List.exists_cons_of_ne_nil hqueue
    rw [startTransfer_of_head hrole hcons (not_not.1 hidle)] at h
    cases h

theorem settleStage_quiet (hrole : s.role = .stage) : StageQuiet (settleStage s) := by
  have hx := forEach_keeps gateClosedReaction_keeps allChannels s
  have hgates : ∀ n < 96, ¬ Reacts (channelAt (forEach gateClosedReaction allChannels s) n) := fun n hn =>
    forEach_gateClosed_not_reacts (List.mem_range.2 hn) hrole
  have hdef : settleStage s = startTransfer (forEach phantomExpiry allChannels
      (stepperExpiry (endTrimPeriod (forEach gateClosedReaction allChannels s)))) := rfl
  generalize forEach gateClosedReaction allChannels s = x at hx hgates hdef
  have hroleX : x.role = .stage := (hx.part .role (by decide)).trans hrole
  have htrim := endTrimPeriod_ended hroleX
  have hy := endTrimPeriod_keeps x
  generalize endTrimPeriod x = y at htrim hy hdef
  have hroleY : y.role = .stage := (hy.part .role (by decide)).trans hroleX
  have hstepper := stepperExpiry_taken hroleY
  have hz := stepperExpiry_keeps y
  have hkept := stepperExpiry_sequencersKept y
  generalize stepperExpiry y = z at hstepper hz hkept hdef
  have hroleZ : z.role = .stage := (hz.part .role (by decide)).trans hroleY
  have hgatesZ : ∀ n < 96, ¬ Reacts (channelAt z n) := fun n hn => by
    rw [(hkept n).reacts, channelAt_of_channels (hy.part .channels (by decide))]
    exact hgates n hn
  have hw := forEach_keeps phantomExpiry_keeps allChannels z
  have hphantoms : ∀ n < 96, ¬ TimerUp (forEach phantomExpiry allChannels z).superframe
      (channelAt (forEach phantomExpiry allChannels z) n) := fun n hn =>
    forEach_phantomExpiry_not_timerUp (List.mem_range.2 hn) hroleZ
  have hgatesW : ∀ n < 96, ¬ Reacts (channelAt (forEach phantomExpiry allChannels z) n) := fun n hn =>
    forEach_preserves (P := fun v => ¬ Reacts (channelAt v n)) (fun m v hv => phantomExpiry_not_reacts hv) _
      (hgatesZ n hn)
  generalize forEach phantomExpiry allChannels z = w at hw hphantoms hgatesW hdef
  have hroleW : w.role = .stage := (hw.part .role (by decide)).trans hroleZ
  have hlast := startTransfer_keeps w
  have hsame := startTransfer_sequencersKept w
  have htransfer := startTransfer_taken hroleW
  rw [← hdef] at hlast hsame htransfer
  refine ⟨fun n hn => ?_, fun n hn => ?_, ?_, ?_, htransfer⟩
  · rw [(hsame n).reacts]
    exact hgatesW n hn
  · rw [(hsame n).timerUp, hlast.part .superframe (by decide)]
    exact hphantoms n hn
  · rw [hlast.part .clock (by decide), hw.part .clock (by decide), hz.part .clock (by decide)]
    exact htrim
  · rw [hlast.part .stepperDue (by decide), hw.part .stepperDue (by decide)]
    exact hstepper

theorem settleStage_of_quiet (h : StageQuiet s) : settleStage s = s := by
  have hgates : forEach gateClosedReaction allChannels s = s := forEach_of_still fun n hn => by
    unfold gateClosedReaction
    split
    · exact phantomClosed_of_not_reacts (h.gates n (List.mem_range.1 hn))
    · rfl
  have hstepper : stepperExpiry s = s := if_neg fun hdue => Bool.false_ne_true (h.stepper.symm.trans hdue.2)
  have hphantoms : forEach phantomExpiry allChannels s = s := forEach_of_still fun n hn =>
    phantomExpiry_of_still (h.phantoms n (List.mem_range.1 hn))
  have htransfer : startTransfer s = s := startTransfer_of_busy
    (or_iff_not_imp_right.2 fun hidle => h.transfer (not_not.1 hidle))
  rw [settleStage, hgates, endTrimPeriod_of_open h.trim, hstepper, hphantoms, htransfer]

end Sys2Proof.Machine
end


section
/-! The desk's steps that are due, the settling of both roles, and the judging of frame times (R60, R61, R96, R97, R143,
R148, R170; log 3). -/

namespace Sys2Proof.Machine

variable {s t u : State}

/-! ## The talk timers (R60, R61) -/

/-- The renew timer of a source has run out. -/
def RenewUp (s : State) (src : TalkSource) : Prop :=
  (talkRecord s src).state = .momentary ∧ timerDue s.superframe (talkRecord s src).renewTimer = true

/-- The limit timer of a source has run out. -/
def LimitUp (s : State) (src : TalkSource) : Prop :=
  (talkRecord s src).state = .latched ∧ timerDue s.superframe (talkRecord s src).limitTimer = true

theorem timerDue_iff (now : Word) (timer : Option Word) :
    timerDue now timer = true ↔ ∃ e, timer = some e ∧ reached now e = true := by
  unfold timerDue
  cases timer <;> simp

/-- Sources are let go, and nothing else happens to a source. -/
structure LetGo (s t : State) : Prop where
  superframe : t.superframe = s.superframe
  records : ∀ src, talkRecord t src = talkRecord s src ∨ (talkRecord t src).state = .off

theorem LetGo.not_renewUp {src : TalkSource} (h : LetGo s t) (hup : ¬ RenewUp s src) : ¬ RenewUp t src := by
  rintro ⟨hstate, hdue⟩
  rcases h.records src with hsame | hoff
  · rw [hsame] at hstate hdue
    exact hup ⟨hstate, h.superframe ▸ hdue⟩
  · rw [hoff] at hstate
    cases hstate

theorem LetGo.not_limitUp {src : TalkSource} (h : LetGo s t) (hup : ¬ LimitUp s src) : ¬ LimitUp t src := by
  rintro ⟨hstate, hdue⟩
  rcases h.records src with hsame | hoff
  · rw [hsame] at hstate hdue
    exact hup ⟨hstate, h.superframe ▸ hdue⟩
  · rw [hoff] at hstate
    cases hstate

theorem LetGo.refl (s : State) : LetGo s s := ⟨rfl, fun _ => .inl rfl⟩

theorem LetGo.of_arbiter (h : t.arbiter = s.arbiter) (hnow : t.superframe = s.superframe) : LetGo s t := by
  refine ⟨hnow, fun src => .inl ?_⟩
  cases src <;> simp only [talkRecord, h]

theorem timeoutTalk_letGo (src : TalkSource) (cause : Word) (s : State) : LetGo s (timeoutTalk src cause s) := by
  obtain ⟨hself, hothers⟩ := timeoutTalk_record src cause s
  refine ⟨timeoutTalk_keeps src cause s .superframe (by decide), fun x => ?_⟩
  by_cases hx : x = src
  · subst hx
    exact .inr (congrArg TalkRecord.state hself)
  · exact .inl (hothers x hx)

theorem renewExpiry_letGo (src : TalkSource) (s : State) : LetGo s (renewExpiry src s) := by
  unfold renewExpiry
  split
  · exact timeoutTalk_letGo ..
  · exact .refl s

theorem limitExpiry_letGo (src : TalkSource) (s : State) : LetGo s (limitExpiry src s) := by
  unfold limitExpiry
  split
  · exact timeoutTalk_letGo ..
  · exact .refl s

theorem renewExpiry_taken (src : TalkSource) (hrole : s.role = .desk) : ¬ RenewUp (renewExpiry src s) src := by
  unfold renewExpiry
  split
  next =>
    rintro ⟨hstate, -⟩
    rw [(timeoutTalk_record src 1 s).1] at hstate
    cases hstate
  next hnot => exact fun hup => hnot ⟨hrole, hup⟩

theorem limitExpiry_taken (src : TalkSource) (hrole : s.role = .desk) : ¬ LimitUp (limitExpiry src s) src := by
  unfold limitExpiry
  split
  next =>
    rintro ⟨hstate, -⟩
    rw [(timeoutTalk_record src 2 s).1] at hstate
    cases hstate
  next hnot => exact fun hup => hnot ⟨hrole, hup⟩

/-- The talk timers of both sources. -/
def settleTalk (s : State) : State := limitExpiry .b (limitExpiry .a (renewExpiry .b (renewExpiry .a s)))

theorem settleTalk_keeps (s : State) : Keeps [.arbiter, .sched, .ring, .regs] s (settleTalk s) :=
  ((((renewExpiry_keeps .a s).mono (by decide)).next (renewExpiry_keeps .b _) (by decide)).next
    (limitExpiry_keeps .a _) (by decide)).next (limitExpiry_keeps .b _) (by decide)

theorem settleTalk_taken (hrole : s.role = .desk) (src : TalkSource) :
    ¬ RenewUp (settleTalk s) src ∧ ¬ LimitUp (settleTalk s) src := by
  have hw := renewExpiry_keeps .a s .role (by decide)
  have hrenewA := renewExpiry_taken .a hrole
  have hdef : settleTalk s = limitExpiry .b (limitExpiry .a (renewExpiry .b (renewExpiry .a s))) := rfl
  generalize renewExpiry .a s = w at hw hrenewA hdef
  have hroleW : w.role = .desk := hw.trans hrole
  have hx := renewExpiry_keeps .b w .role (by decide)
  have hgoX := renewExpiry_letGo .b w
  have hrenewB := renewExpiry_taken .b hroleW
  generalize renewExpiry .b w = x at hx hgoX hrenewB hdef
  have hroleX : x.role = .desk := hx.trans hroleW
  have hy := limitExpiry_keeps .a x .role (by decide)
  have hgoY := limitExpiry_letGo .a x
  have hlimitA := limitExpiry_taken .a hroleX
  generalize limitExpiry .a x = y at hy hgoY hlimitA hdef
  have hroleY : y.role = .desk := hy.trans hroleX
  have hgoZ := limitExpiry_letGo .b y
  have hlimitB := limitExpiry_taken .b hroleY
  rw [← hdef] at hgoZ hlimitB
  cases src with
  | a => exact ⟨hgoZ.not_renewUp (hgoY.not_renewUp (hgoX.not_renewUp hrenewA)), hgoZ.not_limitUp hlimitA⟩
  | b => exact ⟨hgoZ.not_renewUp (hgoY.not_renewUp hrenewB), hlimitB⟩

theorem settleTalk_of_still (hrenew : ∀ src, ¬ RenewUp s src) (hlimit : ∀ src, ¬ LimitUp s src) : settleTalk s = s := by
  have hrenews : ∀ src, renewExpiry src s = s := fun src => if_neg fun hup => hrenew src hup.2
  have hlimits : ∀ src, limitExpiry src s = s := fun src => if_neg fun hup => hlimit src hup.2
  rw [settleTalk, hrenews, hrenews, hlimits, hlimits]

/-! ## Unanswered PUSHes (R143) -/

/-- How many entries in flight have run out. -/
def lateCount (s : State) : Nat := s.desk.inFlight.countP fun e => timedOut s.superframe e.stamp

theorem lateCount_eq_zero : lateCount s = 0 ↔ ∀ e ∈ s.desk.inFlight, timedOut s.superframe e.stamp = false := by
  simp [lateCount, List.countP_eq_zero]

theorem inFlightTimeout_lateCount (hrole : s.role = .desk) : lateCount (inFlightTimeout s) = lateCount s - 1 := by
  cases hfind : s.desk.inFlight.find? fun e => timedOut s.superframe e.stamp with
  | none =>
    have hzero : lateCount s = 0 := by
      rw [lateCount_eq_zero]
      simpa using List.find?_eq_none.1 hfind
    have hstill : inFlightTimeout s = s := by simp only [inFlightTimeout, hrole, hfind]
    rw [hstill, hzero]
  | some e =>
    have htaken : inFlightTimeout s = s.setDesk { s.desk with
        inFlight := s.desk.inFlight.erase e, dirty := appendDirty s.desk.dirty e.record } := by
      simp only [inFlightTimeout, hrole, hfind]
    have hlate := List.find?_some hfind
    rw [htaken]
    change (s.desk.inFlight.erase e).countP (fun e => timedOut s.superframe e.stamp) = _
    rw [List.countP_erase, if_pos ⟨List.mem_of_find?_eq_some hfind, hlate⟩]
    rfl

/-- As many time-outs as there are entries leave none that has run out. -/
theorem forEach_inFlightTimeout_lateCount {l : List Nat} (hrole : s.role = .desk) :
    lateCount (forEach (fun _ x => inFlightTimeout x) l s) = lateCount s - l.length := by
  induction l generalizing s with
  | nil => rfl
  | cons a l ih =>
    have hrole' : (inFlightTimeout s).role = .desk := (inFlightTimeout_keeps s .role (by decide)).trans hrole
    change lateCount (forEach (fun _ x => inFlightTimeout x) l (inFlightTimeout s)) = _
    rw [ih hrole', inFlightTimeout_lateCount hrole, List.length_cons]
    omega

theorem inFlightTimeout_of_still (h : lateCount s = 0) : inFlightTimeout s = s := by
  have hfind : (s.desk.inFlight.find? fun e => timedOut s.superframe e.stamp) = none := by
    rw [List.find?_eq_none]
    simpa using lateCount_eq_zero.1 h
  unfold inFlightTimeout
  split
  next hsome => rw [hfind] at hsome; cases hsome
  next => rfl

theorem ackLists_inFlight_le (d : DeskRepl) (r : Nat) (v w : Word) :
    (ackLists d r v w).inFlight.length ≤ d.inFlight.length := by
  unfold ackLists
  split
  · split
    · exact List.length_erase_le ..
    · exact le_rfl
  · split
    · exact le_rfl
    · exact le_rfl

/-- No operation brings more than 8 entries into flight (R140). -/
theorem flightCount_step {audio : Bool} {T : List Part} (h : StateStep audio T s t)
    (hs : s.desk.inFlight.length ≤ 8) : t.desk.inFlight.length ≤ 8 := by
  by_cases hT : Part.desk ∈ T
  case neg => rwa [h.part .desk hT (by decide)]
  cases h with
  | act h =>
    cases h with
    | changeLink _ new =>
      cases hrole : s.role with
      | stage => rwa [changeLink_desk_stage hrole]
      | desk =>
        obtain ⟨-, hdesk⟩ | ⟨-, -, v, hv, hdesk⟩ | ⟨-, -, hdesk⟩ := changeLink_desk_cases hrole new <;> rw [hdesk]
        · exact Nat.zero_le 8
        · rwa [rejoin_inFlight, hv]
        · exact hs
    | push _ r _ _ hcount =>
      change (s.desk.inFlight ++ _).length ≤ 8
      rw [List.length_append]
      exact hcount
    | pull => exact hs
    | inFlightTimeout =>
      obtain hdesk | ⟨e, -, hdesk⟩ := inFlightTimeout_cases s <;> rw [hdesk]
      · exact hs
      · exact (List.length_erase_le ..).trans hs
    | edit _ r requested => rwa [editRecord_desk]
    | replay => rwa [markReplay_desk]
    | acknowledge _ r v =>
      by_cases hadmitted : s.role = .desk ∧ r < 226
      · rw [acknowledge_desk v hadmitted.1 hadmitted.2]
        exact (ackLists_inFlight_le ..).trans hs
      · rwa [acknowledge_not_taken hadmitted]
    | adopt _ r contents =>
      obtain hdesk | ⟨shadow, adopted, hdesk⟩ := adoptReport_desk_cases r contents s <;> rwa [hdesk]
    | _ => exact absurd hT (by decide)
  | _ => exact absurd hT (by decide)

theorem Acts.flightCount (h : Acts s t) (hs : s.desk.inFlight.length ≤ 8) : t.desk.inFlight.length ≤ 8 :=
  (h.steps (audio := false)).relates (R := fun x y => x.desk.inFlight.length ≤ 8 → y.desk.inFlight.length ≤ 8)
    (fun _ => id) (fun _ _ _ hxy hyz hx => hyz (hxy hx)) (fun _ _ _ hstep => flightCount_step hstep) hs

/-! ## Unanswered PULLs (R148) -/

theorem pullDue_eq_false_iff (s : State) (r : Nat) : pullDue s r = false ↔
    ∀ e ∈ s.desk.adoption, e.record = r → ∀ stamp, e.pulled = some stamp → timedOut s.superframe stamp = false := by
  have hpulled : ∀ pulled : Option Word, (pulled.map (timedOut s.superframe)).getD false = false ↔
      ∀ stamp, pulled = some stamp → timedOut s.superframe stamp = false := fun pulled => by cases pulled <;> simp
  simp only [pullDue, List.any_eq_false, Bool.and_eq_true, beq_iff_eq, not_and, Bool.not_eq_true, hpulled]

theorem pullTimeout_taken (r : Nat) (hrole : s.role = .desk) : pullDue (pullTimeout r s) r = false := by
  unfold pullTimeout
  split
  next =>
    rw [pullDue_eq_false_iff]
    intro e he hrecord stamp hpulled
    rw [pulled_of_mem_setPulled he hrecord] at hpulled
    cases hpulled
  next hnot => exact Bool.eq_false_iff.2 fun hdue => hnot ⟨hrole, hdue⟩

theorem pullTimeout_other {r q : Nat} (hq : q ≠ r) (s : State) (h : pullDue s q = false) :
    pullDue (pullTimeout r s) q = false := by
  rw [pullDue_eq_false_iff] at h
  unfold pullTimeout
  split
  · rw [pullDue_eq_false_iff]
    exact fun e he hrecord => h e ((mem_setPulled_other (hrecord ▸ hq)).1 he) hrecord
  · rwa [pullDue_eq_false_iff]

theorem pullTimeout_lateCount (r : Nat) (s : State) : lateCount (pullTimeout r s) = lateCount s := by
  unfold pullTimeout
  split <;> rfl

theorem forEach_pullTimeout_taken {l : List Nat} {r : Nat} (hr : r ∈ l) (hrole : s.role = .desk) :
    pullDue (forEach pullTimeout l s) r = false := by
  refine forEach_establishes (P := fun r x => x.role = .desk → pullDue x r = false) (fun a x hx => ?_)
    (fun a b x hab h hx => ?_) hr s (((forEach_keeps pullTimeout_keeps l s).part .role (by decide)).trans hrole)
  · rw [pullTimeout_keeps a x .role (by decide)] at hx
    exact pullTimeout_taken a hx
  · rw [pullTimeout_keeps b x .role (by decide)] at hx
    exact pullTimeout_other hab x (h hx)

/-! ## Deadlines (R170) -/

theorem deadlineDue_iff (s : State) (i : Nat) :
    deadlineDue s i = true ↔ ∃ a, acceptedAt s i = some a ∧ reached s.superframe a.expiry = true := by
  unfold deadlineDue
  cases acceptedAt s i <;> simp

theorem deadlineExpiry_taken (i : Nat) (hrole : s.role = .desk) : deadlineDue (deadlineExpiry i s) i = false := by
  unfold deadlineExpiry
  split
  next a haccepted =>
    split
    next =>
      have hdropped : acceptedAt (completeEntry i a .held .held s) i = none := acceptedAt_setAccepted_none ..
      rw [deadlineDue, hdropped]
    next hnot => exact Bool.eq_false_iff.2 fun hdue => hnot ⟨hrole, hdue⟩
  next hnone => rw [deadlineDue, hnone]

theorem deadlineExpiry_other {i j : Nat} (hj : j ≠ i) (s : State) :
    deadlineDue (deadlineExpiry i s) j = deadlineDue s j := by
  have hsame : acceptedAt (deadlineExpiry i s) j = acceptedAt s j := by
    unfold deadlineExpiry
    split
    · split
      · exact (completeEntry_other _ .held .held s hj).accepted
      · rfl
    · rfl
  rw [deadlineDue, deadlineDue, hsame, deadlineExpiry_keeps i s .superframe (by decide)]

theorem forEach_deadlineExpiry_taken {l : List Nat} {i : Nat} (hi : i ∈ l) (hrole : s.role = .desk) :
    deadlineDue (forEach deadlineExpiry l s) i = false := by
  refine forEach_establishes (P := fun i x => x.role = .desk → deadlineDue x i = false) (fun a x hx => ?_)
    (fun a b x hab h hx => ?_) hi s (((forEach_keeps deadlineExpiry_keeps l s).part .role (by decide)).trans hrole)
  · rw [deadlineExpiry_keeps a x .role (by decide)] at hx
    exact deadlineExpiry_taken a hx
  · rw [deadlineExpiry_keeps b x .role (by decide)] at hx
    rw [deadlineExpiry_other hab]
    exact h hx

theorem deadlineExpiry_of_still {i : Nat} (h : deadlineDue s i = false) : deadlineExpiry i s = s := by
  unfold deadlineExpiry
  split
  · exact if_neg fun hdue => Bool.false_ne_true (h.symm.trans hdue.2)
  · rfl

/-! ## The desk's steps that are due -/

/-- No step of a desk's blocks is due. -/
structure DeskQuiet (s : State) : Prop where
  renews : ∀ src, ¬ RenewUp s src
  limits : ∀ src, ¬ LimitUp s src
  pushes : lateCount s = 0
  pulls : ∀ r < recordCount, pullDue s r = false
  deadlines : ∀ i < 32, deadlineDue s i = false

theorem settleDesk_quiet (hrole : s.role = .desk) (hflight : s.desk.inFlight.length ≤ 8) : DeskQuiet (settleDesk s) := by
  have hw := settleTalk_keeps s
  have htalk := settleTalk_taken hrole
  have hdef : settleDesk s = forEach deadlineExpiry (List.range 32) (forEach pullTimeout (List.range recordCount)
      (forEach (fun _ x => inFlightTimeout x) (List.range 8) (settleTalk s))) := rfl
  generalize settleTalk s = w at hw htalk hdef
  have hroleW : w.role = .desk := (hw.part .role (by decide)).trans hrole
  have hlateW : lateCount w ≤ 8 := by
    rw [lateCount, hw.part .desk (by decide)]
    exact List.countP_le_length.trans hflight
  have hx := forEach_keeps (f := fun (_ : Nat) x => inFlightTimeout x) (fun _ x => inFlightTimeout_keeps x) (List.range 8) w
  have hpushes : lateCount (forEach (fun _ x => inFlightTimeout x) (List.range 8) w) = 0 := by
    rw [forEach_inFlightTimeout_lateCount hroleW, List.length_range]
    omega
  generalize forEach (fun (_ : Nat) x => inFlightTimeout x) (List.range 8) w = x at hx hpushes hdef
  have hroleX : x.role = .desk := (hx.part .role (by decide)).trans hroleW
  have hy := forEach_keeps pullTimeout_keeps (List.range recordCount) x
  have hpulls : ∀ r < recordCount, pullDue (forEach pullTimeout (List.range recordCount) x) r = false := fun r hr =>
    forEach_pullTimeout_taken (List.mem_range.2 hr) hroleX
  have hpushesY : lateCount (forEach pullTimeout (List.range recordCount) x) = 0 :=
    forEach_preserves (P := fun v => lateCount v = 0) (fun r v hv => (pullTimeout_lateCount r v).trans hv) _ hpushes
  generalize forEach pullTimeout (List.range recordCount) x = y at hy hpulls hpushesY hdef
  have hroleY : y.role = .desk := (hy.part .role (by decide)).trans hroleX
  have hz := forEach_keeps deadlineExpiry_keeps (List.range 32) y
  have hdeadlines : ∀ i < 32, deadlineDue (forEach deadlineExpiry (List.range 32) y) i = false := fun i hi =>
    forEach_deadlineExpiry_taken (List.mem_range.2 hi) hroleY
  rw [← hdef] at hz hdeadlines
  have hdesk : (settleDesk s).desk = y.desk := hz.part .desk (by decide)
  have hnow : (settleDesk s).superframe = y.superframe := hz.part .superframe (by decide)
  have hletGo : LetGo w (settleDesk s) := .of_arbiter
    ((hz.part .arbiter (by decide)).trans ((hy.part .arbiter (by decide)).trans (hx.part .arbiter (by decide))))
    (hnow.trans ((hy.part .superframe (by decide)).trans (hx.part .superframe (by decide))))
  refine ⟨fun src => hletGo.not_renewUp (htalk src).1, fun src => hletGo.not_limitUp (htalk src).2, ?_, fun r hr => ?_,
    hdeadlines⟩
  · rw [lateCount, hdesk, hnow]
    exact hpushesY
  · rw [pullDue, hdesk, hnow]
    exact hpulls r hr

theorem settleDesk_of_quiet (h : DeskQuiet s) : settleDesk s = s := by
  have hpushes : forEach (fun (_ : Nat) x => inFlightTimeout x) (List.range 8) s = s :=
    forEach_of_still fun _ _ => inFlightTimeout_of_still h.pushes
  have hpulls : forEach pullTimeout (List.range recordCount) s = s := forEach_of_still fun r hr =>
    if_neg fun hdue => Bool.false_ne_true ((h.pulls r (List.mem_range.1 hr)).symm.trans hdue.2)
  have hdeadlines : forEach deadlineExpiry (List.range 32) s = s := forEach_of_still fun i hi =>
    deadlineExpiry_of_still (h.deadlines i (List.mem_range.1 hi))
  have hdef : settleDesk s = forEach deadlineExpiry (List.range 32) (forEach pullTimeout (List.range recordCount)
      (forEach (fun _ x => inFlightTimeout x) (List.range 8) (settleTalk s))) := rfl
  rw [hdef, settleTalk_of_still h.renews h.limits, hpushes, hpulls, hdeadlines]

/-! ## Both roles (log 3) -/

theorem nothingDue_iff (s : State) : NothingDue s ↔ s.receiver.inbox = [] ∧
    (s.link.state = .bridging → s.link.bridging < 48) ∧ (s.role = .stage → StageQuiet s) ∧
      (s.role = .desk → DeskQuiet s) := by
  have hreached : ∀ {now e : Word}, reached now e = false ↔ ¬ reached now e = true := fun {now e} => by simp
  constructor
  · rintro ⟨hinbox, hbridge, hgates, hphantoms, htrim, hstepper, htransfer, hrenews, hlimits, hpushes, hpulls,
      hdeadlines⟩
    refine ⟨hinbox, hbridge, fun hrole => ⟨fun n hn hup => ?_, fun n hn hup => ?_, htrim hrole, hstepper hrole,
      htransfer hrole⟩, fun hrole => ⟨fun src hup => ?_, fun src hup => ?_, ?_, fun r hr => ?_, fun i hi => ?_⟩⟩
    · obtain ⟨hcurrent, htarget, hphantom⟩ := hup
      obtain ⟨hon, hoff⟩ := hgates hrole n hn hcurrent htarget
      exact hphantom.elim hon hoff
    · obtain ⟨hphantom, e, htimer, hdue⟩ := hup
      exact hreached.1 (hphantoms hrole n hn hphantom e htimer) hdue
    · obtain ⟨e, htimer, hdue⟩ := (timerDue_iff _ _).1 hup.2
      exact hreached.1 (hrenews hrole src hup.1 e htimer) hdue
    · obtain ⟨e, htimer, hdue⟩ := (timerDue_iff _ _).1 hup.2
      exact hreached.1 (hlimits hrole src hup.1 e htimer) hdue
    · exact lateCount_eq_zero.2 (hpushes hrole)
    · exact (pullDue_eq_false_iff s r).2 fun e he hrecord => hpulls hrole e he (hrecord ▸ hr)
    · refine Bool.eq_false_iff.2 fun hdue => ?_
      obtain ⟨a, haccepted, hdue⟩ := (deadlineDue_iff s i).1 hdue
      exact hreached.1 (hdeadlines hrole i hi a haccepted) hdue
  · rintro ⟨hinbox, hbridge, hstage, hdesk⟩
    exact
      { inbox := hinbox
        bridge := hbridge
        gates := fun hrole n hn hcurrent htarget => not_or.1 fun hphantom =>
          (hstage hrole).gates n hn ⟨hcurrent, htarget, hphantom⟩
        phantoms := fun hrole n hn hphantom e htimer => hreached.2 fun hdue =>
          (hstage hrole).phantoms n hn ⟨hphantom, e, htimer, hdue⟩
        trim := fun hrole => (hstage hrole).trim
        stepper := fun hrole => (hstage hrole).stepper
        transfer := fun hrole => (hstage hrole).transfer
        renews := fun hrole src hstate e htimer => hreached.2 fun hdue =>
          (hdesk hrole).renews src ⟨hstate, (timerDue_iff _ _).2 ⟨e, htimer, hdue⟩⟩
        limits := fun hrole src hstate e htimer => hreached.2 fun hdue =>
          (hdesk hrole).limits src ⟨hstate, (timerDue_iff _ _).2 ⟨e, htimer, hdue⟩⟩
        pushes := fun hrole => lateCount_eq_zero.1 (hdesk hrole).pushes
        pulls := fun hrole e he hrecord => (pullDue_eq_false_iff s e.record).1 ((hdesk hrole).pulls _ hrecord) e he rfl
        deadlines := fun hrole i hi a haccepted => hreached.2 fun hdue =>
          Bool.false_ne_true (((hdesk hrole).deadlines i hi).symm.trans ((deadlineDue_iff s i).2 ⟨a, haccepted, hdue⟩)) }

theorem consumeAll_inbox (s : State) : (consumeAll s).receiver.inbox = [] :=
  forEach_preserves (P := fun x => x.receiver.inbox = [])
    (fun m x hx => (congrArg Receiver.inbox (consume_keeps m x .receiver (by decide))).trans hx) _ rfl

theorem consumeAll_of_empty (h : s.receiver.inbox = []) : consumeAll s = s := by
  have hsame : s.setReceiver { s.receiver with inbox := [] } = s := by
    rw [← h]
    rfl
  rw [consumeAll, hsame, h]
  rfl

theorem bridgingExpiry_link (s : State) (h : (bridgingExpiry s).link.state = .bridging) :
    (bridgingExpiry s).link.bridging < 48 := by
  by_cases hended : s.link.state = .bridging ∧ 48 ≤ s.link.bridging
  · have hlost : bridgingExpiry s = changeLink .lost s := if_pos hended
    rw [hlost, changeLink_link, linkAfter_state] at h
    cases h
  · rw [bridgingExpiry_of_early hended] at h ⊢
    exact Nat.lt_of_not_le fun hlate => hended ⟨h, hlate⟩

/-- The state in which the blocks of the role settle. -/
def bridgeSettled (s : State) : State := bridgingExpiry (consumeAll s)

theorem bridgeSettled_role (s : State) : (bridgeSettled s).role = s.role :=
  (bridgingExpiry_keeps _ .role (by decide)).trans (consumeAll_keeps s .role (by decide))

theorem settle_of_desk (hrole : s.role = .desk) : settle s = settleDesk (bridgeSettled s) := by
  have hrole' : (bridgingExpiry (consumeAll s)).role = .desk := (bridgeSettled_role s).trans hrole
  simp only [settle, hrole', bridgeSettled]

theorem settle_of_stage (hrole : s.role = .stage) : settle s = settleStage (bridgeSettled s) := by
  have hrole' : (bridgingExpiry (consumeAll s)).role = .stage := (bridgeSettled_role s).trans hrole
  simp only [settle, hrole', bridgeSettled]

/-- What the blocks of the role leave of the message and the link. -/
theorem settle_keeps_path (s : State) : Keeps [.channels, .stepperDue, .preamp, .arbiter, .clock, .sched, .desk, .board,
    .scanner, .ring, .regs] (bridgeSettled s) (settle s) := by
  cases hrole : s.role with
  | desk =>
    rw [settle_of_desk hrole]
    exact (settleDesk_keeps _).mono (by decide)
  | stage =>
    rw [settle_of_stage hrole]
    exact (settleStage_keeps _).mono (by decide)

/-- Settling leaves nothing due. -/
theorem nothingDue_settle (hflight : s.desk.inFlight.length ≤ 8) : NothingDue (settle s) := by
  have hpath := settle_keeps_path s
  have hrole : (settle s).role = s.role := (hpath.part .role (by decide)).trans (bridgeSettled_role s)
  have hinbox : (bridgeSettled s).receiver.inbox = [] :=
    (congrArg Receiver.inbox (bridgingExpiry_keeps _ .receiver (by decide))).trans (consumeAll_inbox s)
  have hlink : (settle s).link = (bridgeSettled s).link := hpath.part .link (by decide)
  refine (nothingDue_iff _).2 ⟨(congrArg Receiver.inbox (hpath.part .receiver (by decide))).trans hinbox, fun h => ?_,
    fun hstage => ?_, fun hdesk => ?_⟩
  · rw [hlink] at h ⊢
    exact bridgingExpiry_link _ h
  · rw [hrole] at hstage
    rw [settle_of_stage hstage]
    exact settleStage_quiet ((bridgeSettled_role s).trans hstage)
  · rw [hrole] at hdesk
    rw [settle_of_desk hdesk]
    exact settleDesk_quiet ((bridgeSettled_role s).trans hdesk)
      (((consumeAll_acts s).trans (bridgingExpiry_acts _)).flightCount hflight)

/-- Where nothing is due settling changes nothing. -/
theorem settle_of_nothingDue (h : NothingDue s) : settle s = s := by
  obtain ⟨hinbox, hbridge, hstage, hdesk⟩ := (nothingDue_iff s).1 h
  have hsame : bridgeSettled s = s := by
    rw [bridgeSettled, consumeAll_of_empty hinbox]
    exact bridgingExpiry_of_early fun hended => absurd (hbridge hended.1) (Nat.not_lt.2 hended.2)
  cases hrole : s.role with
  | desk => rw [settle_of_desk hrole, hsame, settleDesk_of_quiet (hdesk hrole)]
  | stage => rw [settle_of_stage hrole, hsame, settleStage_of_quiet (hstage hrole)]

theorem finishScan_of_noScan (h : NoScan s) : finishScan s = s := by
  cases hrole : s.role with
  | stage => exact finishScan_of_stage hrole
  | desk =>
    obtain ⟨hpos, hreads⟩ := h hrole
    have hscanner : s.setScanner { s.scanner with pos := none, reads := [] } = s := by
      rw [← hpos, ← hreads]
      rfl
    simp only [finishScan, hrole, scanTo, entriesTo, hpos]
    exact hscanner

/-- Settles O28: each port is judged after the blocks of the frame, or after what the boundary settles. -/
theorem frameTimesJudged : Obligations.FrameTimesJudged := by
  unfold Obligations.FrameTimesJudged
  refine ⟨fun slots cycles s p => ?frame, fun s p => ?last, fun s => ⟨nothingDue_settle, beforeFrame_of_within,
    fun hdue => ?due, settle_of_nothingDue, fun hquiet hscan => ?quiet⟩⟩
  case frame =>
    intro u
    have hblocks : (frameBlocks slots u).port p = u.port p :=
      (frameBlocks_keeps slots u).port p (by decide) (by decide)
    refine ⟨frameStep slots u, rfl, fun hzero => ?_, fun hlater => ?_⟩
    · rw [frameStep, if_pos hzero, hblocks]
    · rw [frameStep, if_neg hlater, judgePorts_port, hblocks]
      exact judgedPort_judged _
  case last =>
    rw [endSuperframe, judgePorts_port]
    exact judgedPort_judged _
  case due => exact ⟨_, exec_boundary_of_due hdue _, beforeFrame_of_due hdue⟩
  case quiet =>
    have hfinished : finishScan (settle s) = s := by rw [settle_of_nothingDue hquiet, finishScan_of_noScan hscan]
    refine ⟨hfinished, fun hlocked => ?_⟩
    rw [endSuperframe, hfinished]
    exact judgePorts_keeps_of_stay fun p hunlocks =>
      absurd (hlocked p hunlocks.1 hunlocks.2.1) (Nat.not_lt.2 hunlocks.2.2)

end Sys2Proof.Machine
end
